-- ==== Sys2Proof/Word.lean ====
section
/-! DEFINITION. The word types of the module (spec/00 R7: every register is 32 bits wide, bit 0 the least
significant; multi-byte values of wire formats are big-endian) and the shape of sparse storage. -/

namespace Sys2Proof

/-- A register (spec/00 R7). -/
abbrev Word := BitVec 32

/-- A byte of a wire format or of a memory. -/
abbrev Byte := BitVec 8

/-- Sparse storage: key and value pairs, keys rising, no entry equal to what an unlisted key reads as.
`Sys2Proof.Machine.Sparse` holds the operations that keep this form. -/
abbrev Sparse (α : Type) := List (Nat × α)

namespace Machine

/-- One thing per spire (or per belfry slice): A, B and C (spec/01). -/
structure Three (α : Type) where
  a : α
  b : α
  c : α
deriving DecidableEq, Repr

end Machine

end Sys2Proof
end

