-- ==== Sys2Proof/Syntax.lean ====
section
/-! DEFINITION. The commands of the module, one constructor per row of spec/opcode_table.json, and the data they
carry. A command is what reaches the module from outside at one moment: a service request, a frame, an event of
a supply, a pin, a timer or the schedule, or one instruction of a logic engine's program. What the environment
decides (a measured voltage, a received byte, the outcome of a check made by a circuit that the spec does not
model) is an operand. -/

namespace Sys2Proof

namespace Machine

/-- The roles of the service protocol (spec/18 R401, spec/21 R456); their codes are 1, 2 and 3. -/
inductive Role where
  | engineer | maintainer | auditor
deriving DecidableEq, Repr

/-- What a service request carries beside its body (spec/21 R454): session, sequence number and whether its TAG
verifies under the session key. -/
structure Svc where
  sid : Nat
  seq : Nat
  tagOk : Bool
deriving DecidableEq, Repr

/-- An armed injection of spec/17 R388: checker code, two bits instead of one, spire and unit. -/
structure Injection where
  checker : Nat
  double : Bool
  spire : Nat
  unit : Nat
deriving DecidableEq, Repr

/-- A reference edge (spec/02 R39): reference code 0 to 4, the time in ns after the start of the base cycle in progress at
which it falls, for an AC input the amplitude in tenths of a volt rms, and for a pulse input the pulse's width in ns. -/
structure RefEdge where
  ref : Nat
  offsetNs : Nat
  ampDv : Nat
  widthNs : Nat
deriving DecidableEq, Repr

/-- A base-cycle boundary (spec/02 R30): the phase error against the reference in use, in CAU, as the
weathervane measures it at this boundary. -/
structure Boundary where
  phaseErr : Int
deriving DecidableEq, Repr

/-- A PTP message (spec/02 R48): the TAI time it delivers, in ns, and whether the port is a synchronised slave. -/
structure PtpSync where
  tai : Nat
  synced : Bool
deriving DecidableEq, Repr

/-- One detection of a fault condition (spec/17 R381): the source, whether a source of severity "1 or 3" is
raised at 3, and the unit and kind that FC_DETAIL shows (spec/17 R390). -/
structure RaiseOp where
  source : Nat
  sev3 : Bool
  unit : Nat
  kind : Nat
deriving DecidableEq, Repr

/-- Who writes a force or an injection (spec/17 R387): a service session, or the management firmware. -/
inductive FcWriter where
  | service (c : Svc)
  | firmware
deriving DecidableEq, Repr

/-- A power-on reset (spec/19 R410, R420): whether the hold-up bus fell, the voltages in mV once the supplies
have returned, the nine contacts of the address strap (spec/22 R461: ADDR7 to ADDR0 in bits 7 to 0, ADDR_PAR in
bit 8), the spires whose boot ROM sends no pointer record within 1 s (spec/21 R437), and those in which the power failure
interrupted a write of the record, so that this copy's CRC fails (R436). -/
structure PorOp where
  holdup : Bool
  aMv : Nat
  bMv : Nat
  busMv : Nat
  strap : Nat
  silent : List Nat
  torn : List Nat
deriving DecidableEq, Repr

/-- Measured start of one spire (spec/20 R425): whether it has ended, whether the secure element is ready to sign, and the
digests of tallies 1, 2, 3, 4, 5 and 7. -/
structure SpireStart where
  ended : Bool
  keyOk : Bool
  digests : List Nat
deriving DecidableEq, Repr

/-- Measured start of the three spires; at a trial boot whose settings are still to be migrated (spec/21 R447), the
step at which the migration fails, if it does. -/
structure MeasuredStart where
  spires : Three SpireStart
  migFail : Option Nat
deriving DecidableEq, Repr

/-- The outcome of SELFTEST (spec/19 R405): per spire whether its tests passed, whether the injection test passed
(spec/10 R233) with its failing step code, group and pattern, and the hold-up time measured, ms. -/
structure SelftestOp where
  passed : Three Bool
  /-- Faulty bank rows found in each spire (spec/09 R200): bank and row, in the order found. -/
  rows : Three (List (Nat × Nat))
  injectOk : Bool
  injFail : Nat
  injGroup : Nat
  injPattern : Nat
  holdupMs : Nat
deriving DecidableEq, Repr

/-- What each spire (or slice) receives for one register of a per-spire block in one service transaction
(spec/00 R12); none where it receives nothing. -/
abbrev SpireVals := Three (Option Nat)

/-- One register write of a service transaction: register address, spire selector (used in blocks that exist per
spire by selector) and value. -/
structure RegWr where
  addr : Nat
  sel : Nat
  value : Nat
deriving DecidableEq, Repr

/-- What the hardware answers to a transaction's writes: the first failure of a belfry injection test (spec/10 R232),
whether a selected record's CRC holds (spec/18 R403), and the change-log entry of the transaction whose read-back fails
(R401). -/
structure WrEnv where
  inject : Option (Nat × Nat × Nat)
  crcOk : Bool
  chgFail : Option Nat
deriving DecidableEq, Repr

/-- LOGIN (spec/21 R456): port, role, 16-byte client nonce. -/
structure LoginOp where
  port : Nat
  role : Role
  nonce : Nat
deriving DecidableEq, Repr

/-- PROOF (spec/21 R456): port, role and the 32-byte proof. -/
structure ProofOp where
  port : Nat
  role : Role
  proof : Nat
deriving DecidableEq, Repr

/-- An IPv4 or IPv6 address (spec/15 R337, spec/21 R455). -/
inductive EchoTo where
  | ipv4 (addr : Nat)
  | ipv6 (addr : Nat)
deriving DecidableEq, Repr

/-- An address that the settings give a port, with its prefix length and default gateway (spec/21 R455). -/
structure PortAddr where
  addr : Nat
  plen : Nat
  gateway : Nat
deriving DecidableEq, Repr

/-- A request of spec/21 R455: port, kind (0 ARP, 1 neighbour discovery, 2 ICMP echo, 3 ICMPv6 echo), the address
it names and the identifying data that an echo answer returns. -/
structure EchoOp where
  port : Nat
  kind : Nat
  dst : EchoTo
  data : Nat
deriving DecidableEq, Repr

/-- An ECC event met by an access (spec/09 R180): the bank, a double-bit error instead of a single-bit one, and
whether the word belongs to logic code. -/
structure EccEv where
  bank : Nat
  double : Bool
  code : Bool
deriving DecidableEq, Repr

/-- One instruction of a logic engine (spec/04, Instruction format): the spire whose engine executes it, the
modifier, the space code and the index fields of its word, and an ECC event its accesses meet. The opcode is the
command itself. -/
structure EngOp where
  spire : Nat
  md : Nat
  sp : Nat
  idx : Nat
  ecc : Option EccEv
deriving DecidableEq, Repr

/-- A boundary record (spec/07 R157); the three check values are a tri-signature over bytes 0 to 31. -/
structure BRec where
  kind : Nat
  /-- Byte 1: state code, RECON, RESIDENT, OFFERING. -/
  st : Nat
  recon : Bool
  resident : Bool
  offering : Bool
  tseq : Nat
  src : Nat
  dst : Nat
  element : Nat
  home : Nat
  epoch : Nat
  aux : Nat
  rseq : Nat
  stamp : Nat
  cv : Three Nat
deriving DecidableEq, Repr

/-- What a slice reads and says on one triple (spec/10 R207, R217), where it departs from the rules: ECC events in
the delay registers (spire, double), and slices whose own verdict code is faulty (slice, code). -/
structure CompareOp where
  ecc : List (Nat × Bool)
  faulty : List (Nat × Nat)
deriving DecidableEq, Repr

/-- A write to a compared address (spec/10 R214): address, width in bytes, data. -/
structure CmpWrite where
  addr : Nat
  width : Nat
  data : Nat
deriving DecidableEq, Repr

/-- The writes to compared addresses of one spire in a signature window, in program order (spec/10 R214). -/
abbrev WinWrites := List CmpWrite

/-- A signature window closes (spec/10 R216): the writes of each spire (none: the spire delivers no signature in
time) and the slices that judge wrongly. -/
structure WindowOp where
  writes : Three (Option WinWrites)
  faulty : List (Nat × Nat)
  /-- R219: a record triple compared in the same slice clock. -/
  mate : Option CompareOp
deriving DecidableEq, Repr

/-- What departs from the rules when the voted output word is formed (spec/10 R211, R218, R230, R231): spires that deliver no
local word, slices whose verdict code is faulty (slice, code), the bits in which a slice's D differs from its M (slice,
mask); and a record triple compared in the same slice clock (R219). -/
structure VoteOp where
  missing : List Nat
  faulty : List (Nat × Nat)
  diverge : List (Nat × Nat)
  mate : Option CompareOp
deriving DecidableEq, Repr

/-- The end of an isolated spire's self-test (spec/10 R223): spire, how many of tests 1 to 4 passed in order,
corrected DRAM words, duration in ms, digests of its repeated measured start, and the outcome of the image
reload is the fourth test. -/
structure SpireTest where
  spire : Nat
  /-- Faulty bank rows found by test 2 (bank, row), in the order found. -/
  rows : List (Nat × Nat)
  passed : Nat
  dramCorr : Nat
  durMs : Nat
  /-- The part of `durMs` that the image reload (test 4) took. -/
  reloadMs : Nat
  start : SpireStart
deriving DecidableEq, Repr

/-- A page of the pager (spec/09): a group page, or a page of Q, G, H or of a task's input image. -/
inductive PageId where
  | group (g : Nat)
  | q (p : Nat)
  | g (p : Nat)
  | h (p : Nat)
  | input (task p : Nat)
deriving DecidableEq, Repr

/-- A march step (spec/09 R201): the bank and 4 KiB block it tests, the first faulty row found, if any, in each spire, and
the collisions it meets there (R195). -/
structure MarchOp where
  bank : Nat
  block : Nat
  faulty : Three (Option Nat)
  coll : Three Nat
deriving DecidableEq, Repr

/-- What an access through the pager port meets (spec/09 R180, R195): the number of clocks in which the logic-engine port
has the word it addresses, and the error of the word it reads: none, some false one bit, some true two bits. -/
structure PortOp where
  coll : Nat
  err : Option Bool
deriving DecidableEq, Repr

/-- What the seal copy meets in one bank of a spire (spec/09 R192). -/
structure BankMeet where
  spire : Nat
  bank : Nat
  port : PortOp
deriving DecidableEq, Repr

/-- SETTLE or FENCE (spec/07 R167, R169): the authorised command number, the elements concerned and, for FENCE
and for SETTLE of every element shared with one peer, the peer. -/
structure SettleOp where
  number : Nat
  element : Option Nat
  peer : Nat
deriving DecidableEq, Repr

/-! ### The contents of a station image (spec/03), section by section -/

/-- A lane of an instance group (spec/04 R81, spec/09 R183): the instance's bases in G, H, I, Q, T and C, its
message base, and its K references. -/
structure LaneDef where
  inst : Nat
  g : Nat
  h : Nat
  i : Nat
  q : Nat
  t : Nat
  c : Nat
  m : Nat
  krefs : List Nat
deriving DecidableEq, Repr

/-- An instance group (spec/04 R76): element type, rule-set domain, its lanes from lane 0 up. -/
structure GroupDef where
  etype : Nat
  domain : Nat
  lanes : List LaneDef
deriving DecidableEq, Repr

/-- The logic code of one element type (spec/04). -/
structure ETypeDef where
  domain : Nat
  code : List Word
deriving DecidableEq, Repr

/-- A task of SCHEDULE (spec/05 R107); code 0 to 7 periodic, 8 to 23 event. -/
structure TaskDef where
  code : Nat
  first : Nat
  count : Nat
  prio : Nat
  periodExp : Nat
  phase : Nat
  inAng : Nat
  relAng : Nat
  dlAng : Nat
  outAng : Nat
  /-- Event tasks: 0 queue, 1 local input; number; edge. -/
  kind : Nat
  src : Nat
  edge : Nat
  dlRel : Nat
  minSep : Nat
deriving DecidableEq, Repr

/-- SCHEDULE (spec/05 R107, R477). -/
structure SchedDef where
  sweep : Bool
  tasks : List TaskDef
  sealAng : Nat
  bound : Nat
  /-- R107: FIRST_GROUP and GROUP_COUNT of the sweep. -/
  sweepFirst : Nat
  sweepCount : Nat
  starts : List Nat
  outs : List Nat
  pfDepth : Nat
  pfLead : Nat
  lagUs : Nat
  sigUs : Nat
  mtPeriod : Nat
deriving DecidableEq, Repr

/-- A token of TOKEN_DEF (spec/06 R126, R128; spec/07 R154). -/
structure TokenDef where
  cls : Nat
  home : Nat
  boundary : Bool
  blocked : Bool
  element : Nat
  sym : Nat
deriving DecidableEq, Repr

/-- A route of ROUTE_TABLE (spec/06 R137): number, domain, claim list of token and class. -/
structure RouteDef where
  number : Nat
  domain : Nat
  entries : List (Nat × Nat)
deriving DecidableEq, Repr

/-- An image identity (spec/03 R53). -/
structure ImageId where
  hash : Nat
  version : Nat
deriving DecidableEq, Repr

/-- A peer of BOUNDARY_TABLE (spec/07 R156). -/
structure PeerDef where
  addr : Nat
  ids : List ImageId
  tokens : List Nat
  tOffer : Nat
  tConf : Nat
  tFresh : Nat
  tLong : Nat
deriving DecidableEq, Repr

/-- A local input of IO_MAP (spec/16). -/
structure InDef where
  deb : Nat
  wbEn : Bool
  vital : Bool
deriving DecidableEq, Repr

/-- A local output of IO_MAP (spec/16): output number, Q bit, declaration, safe state on. -/
structure OutDef where
  n : Nat
  q : Nat
  vital : Bool
  safeOn : Bool
deriving DecidableEq, Repr

/-- IO_MAP (spec/16): logic-silence time, the 32 inputs, the pairs in use with DT in 10 ms, the outputs, and where
the debounced values, pair values and wire-break bits stand in I. -/
structure IoMap where
  lsMs : Nat
  inputs : List InDef
  pairs : List (Nat × Nat)
  outputs : List OutDef
  iVal : Nat
  iPair : Nat
  iWb : Nat
deriving DecidableEq, Repr

/-- RING_NODE (spec/12 R261); ranks 0xFF when none. -/
structure RingNode where
  addrA : Nat
  addrB : Nat
  beta : Nat
  tmA : Nat
  tmB : Nat
  sm : Nat
  cs : Nat
  exw : Nat
  expQ : Nat
  poly : Three Nat
  /-- Peer, words, I base. -/
  imports : List (Nat × Nat × Nat)
deriving DecidableEq, Repr

/-- RING_SCHEDULE (spec/12 R284). -/
structure RingSched where
  nslots : Nat
  slotHalf : Nat
  dynMs : Nat
  owners : List Nat
  /-- Owner and BYTES. -/
  positions : List (Nat × Nat)
deriving DecidableEq, Repr

/-- PAIR_CFG (spec/11 R235); DELTA_MAX in KiB. -/
structure PairCfg where
  partner : Nat
  witnesses : List Nat
  deltaMax : Nat
deriving DecidableEq, Repr

/-- An object controller of CAN_SETUP (spec/14): address, identifiers, length of a status, ST_TO, I base. -/
structure CtlDef where
  addr : Nat
  cmdId : Nat
  statId : Nat
  len : Nat
  stTo : Nat
  iBase : Nat
deriving DecidableEq, Repr

/-- A channel of CAN_SETUP (spec/14 R315, R327, R328). -/
structure CanChDef where
  ch : Nat
  nom : Nat
  data : Nat
  nomSp : Nat
  dataSp : Nat
  term : Bool
  wakeMode : Nat
  sleepQ : Option Nat
  wakeId : Nat
  wakeData : Nat
  wakeMask : Nat
  poly : Three Nat
  ctls : List CtlDef
  /-- Non-vital messages received: identifier, bytes, I base. -/
  rx : List (Nat × Nat × Nat)
deriving DecidableEq, Repr

/-- What an output message is (spec/04 R98): a vital command, a non-vital CAN frame, or a ring queue message. -/
inductive MsgKind where
  | command (ch addr len qBase : Nat)
  | plain (ch id len qBase : Nat)
  | ringQueue (peer queue len qBase : Nat)
deriving DecidableEq, Repr

/-- An output message. -/
structure MsgDef where
  num : Nat
  kind : MsgKind
deriving DecidableEq, Repr

/-- A session of SESSION_TABLE (spec/15 R337); timeout in 10 ms, the wrapped key. -/
structure SessDef where
  n : Nat
  role : Nat
  delivery : Nat
  ownId : Nat
  peerId : Nat
  timeout : Nat
  task : Nat
  txQ : Nat
  txLen : Nat
  rxI : Nat
  rxLen : Nat
  poly : Three Nat
  key : Nat
  ports : List Nat
  udp : Nat
  /-- The peer's address and UDP port. -/
  peer : EchoTo × Nat
  /-- The module addresses of the lower and of the higher member. -/
  own : EchoTo × EchoTo
deriving DecidableEq, Repr

/-- A queue of QUEUE_MAP (spec/15 R343). -/
structure QueueDef where
  q : Nat
  src : Nat
  ring : Bool
  credits : Nat
  descMax : Nat
  depth : Nat
  consumer : Nat
  iBase : Nat
deriving DecidableEq, Repr

/-- A reaction of FAULT_REACTIONS (spec/17 R378). -/
structure ReactDef where
  source : Nat
  mask : Nat
  quiet : Nat
  recLimit : Nat
deriving DecidableEq, Repr

/-- A symbol (spec/03 SYMBOL_TABLE): space (0 F, 1 G, 2 I, 3 Q, 4 T, 5 H, 6 V), address, symbol identity, type hash,
declaration, and for a timer with a constant preset that constant (spec/21 R451). -/
structure SymDef where
  space : Nat
  addr : Nat
  id : Nat
  thash : Nat
  vital : Bool
  preset : Option Nat
deriving DecidableEq, Repr

/-- TIMING (spec/03 R69). -/
structure TimingDef where
  tbMs : Nat
  trSel : Nat
  refPri : Nat
  refSec : Nat
  nCyc : Nat
  nRef : Nat
  holdMin : Nat
  anchorRef : Nat
  anchorOff : Nat
  ptpPort : Nat
  ptpDelay : Nat
deriving DecidableEq, Repr

/-- What the sections of an image set, module-wide and per domain. -/
structure ImageContent where
  id : ImageId
  bench : Bool
  /-- TYPE and INST of each section (spec/03 R56). -/
  sections : List (Nat × Nat)
  /-- BANK_PARTITION (spec/03 R67): use codes of banks 0 to 23, TOKENS, TRANSACTIONS. -/
  banks : List Nat
  tokensDecl : Nat
  transactions : Nat
  timing : TimingDef
  syms : List SymDef
  /-- Vital and non-vital declarations of SYMBOL_TABLE (spec/00 R5): space code 0 F, 1 G, 2 I, 3 Q, 4 T, 5 H, 6 V; first
  address; count. A bit of F has the address element type * 512 + bit, a word of V element type * 64 + word. -/
  vital : List (Nat × Nat × Nat)
  plain : List (Nat × Nat × Nat)
  /-- Non-vital reset values of 1 or more: F and V by instance, G, H, Q. -/
  initF : List (Nat × Nat)
  initV : List (Nat × Nat × Nat)
  initG : List Nat
  initH : List (Nat × Nat)
  initQ : List Nat
  domains : List Nat
  /-- Domain, first address, count. -/
  ownG : List (Nat × Nat × Nat)
  ownH : List (Nat × Nat × Nat)
  etypes : List ETypeDef
  groups : List GroupDef
  consts : Sparse Nat
  timers : Nat
  tokens : List TokenDef
  /-- LOCK_MATRIX, 25 bits; none: the built-in matrix. -/
  lockm : Option Nat
  routes : List RouteDef
  peers : List PeerDef
  sched : SchedDef
  io : Option IoMap
  ring : RingNode
  scheds : List RingSched
  pair : Option PairCfg
  can : List CanChDef
  msgs : List MsgDef
  sessions : List SessDef
  queues : List QueueDef
  reacts : List ReactDef
  recWin : Nat
  actMax : Nat
  stbyMax : Nat
deriving DecidableEq, Repr

/-- A section as stored (spec/03 R55): header fields, stored CHECK, body bytes. -/
structure SectionDoc where
  type : Nat
  sver : Nat
  length : Nat
  domain : Nat
  inst : Nat
  check : Nat
  body : List Byte
deriving DecidableEq, Repr

/-- An approval record (spec/03 R60). -/
structure ApprovalDoc where
  role : Nat
  rsvd : Nat
  tai : Nat
  person : Nat
  certFp : Nat
  rsvd2 : Nat
deriving DecidableEq, Repr

/-- A station image as one spire's flash holds it (spec/03): header, sections, approval and signature block. The
bodies stand as bytes and as the content that Askah's layout of them means (log entry 6); `others` carries the
conditions of the load checks on bodies whose fields the spec does not lay out: code, section, offset. -/
structure ImageDoc where
  magic : Nat
  format : Nat
  headerLen : Nat
  idHash : Nat
  version : Nat
  hwType : Nat
  totalLen : Nat
  sectionCount : Nat
  flags : Nat
  buildTai : Nat
  askahVer : Nat
  minFw : Nat
  baseIdHash : Nat
  baseVersion : Nat
  rsvd60 : Nat
  name : Nat
  areaHash : Nat
  rsvd160 : Nat
  headerCrc : Nat
  storedLen : Nat
  sections : List SectionDoc
  approvals : List ApprovalDoc
  sigAlg : Nat
  keySlot : Nat
  sigRsvd : Nat
  sig : Nat
  sigRsvd2 : Nat
  content : ImageContent
  others : List (Nat × Nat × Nat)
deriving DecidableEq, Repr

/-! ### Frames and events of the ring (spec/11 to spec/13) -/

/-- A pair status (spec/11 R237). -/
structure PairStatus where
  mode : Nat
  handover : Bool
  takeover : Bool
  copyReq : Bool
  compared : Nat
  nak : Nat
  seq : Nat
deriving DecidableEq, Repr

/-- The header of a frame that this node sends (spec/12 R273; spec/13 R310): ring β, HEALED, SRC, SCHED, ROUND, COUNT. -/
structure TxHead where
  beta : Bool
  healed : Bool
  src : Nat
  sched : Nat
  round : Nat
  count : Nat
deriving DecidableEq, Repr

/-- The header of a ring frame (spec/12 R273) and whether its FCS holds; `port` is the receiving port. -/
structure RingHdr where
  port : Nat
  fcsOk : Bool
  type : Nat
  flags : Nat
  src : Nat
  slot : Nat
  sched : Nat
  round : Nat
  countL : Nat
  pos : Nat
deriving DecidableEq, Repr

/-- A vital part (spec/12 R275) with its check values. -/
structure VitalPart where
  pair : PairStatus
  voteSched : Nat
  voteYes : Bool
  voteNo : Bool
  voteReq : Nat
  exports : List Nat
  recs : List BRec
  cv : Three Nat
deriving DecidableEq, Repr

/-- A reference block (spec/12 R274). -/
structure RefBlock where
  rank : Nat
  hold : Bool
  req : Bool
  commit : Bool
  atJump : Bool
  wvState : Nat
  reqSched : Nat
  reqNo : Nat
  countH : Nat
  tbNs : Nat
  loopNs : Nat
  jumpCount : Nat
  smAddr : Nat
deriving DecidableEq, Repr

/-- A reference frame as received: on which inputs of the ring it was accepted, with the stamps in ns (R267). -/
structure RefFrame where
  hdr : RingHdr
  block : RefBlock
  vital : VitalPart
  tP : Option Nat
  tS : Option Nat
deriving DecidableEq, Repr

/-- A static frame as received; it ends in an error code group when truncated (R305). -/
structure StaticFrame where
  hdr : RingHdr
  vital : VitalPart
  trunc : Bool
deriving DecidableEq, Repr

/-- A cold-start frame (spec/13 R293). -/
structure CsFrame where
  hdr : RingHdr
  rank : Nat
  attempt : Nat
  countH : Nat
  tbNs : Nat
deriving DecidableEq, Repr

/-- The end of a cold-start round (spec/13 R294): the own frame has returned on an input with a valid FCS, a
frame of another SRC has come, and the loop delay measured. -/
structure CsRound where
  beta : Bool
  ownBack : Bool
  foreign : Bool
  loopNs : Nat
deriving DecidableEq, Repr

/-- An integration frame (spec/13 R298). -/
structure IntegFrame where
  hdr : RingHdr
  hwid : Nat
  version : Nat
  idHash : Nat
  mark : Nat
  serial : Nat
  cv : Three Nat
deriving DecidableEq, Repr

/-- How a dynamic frame came (spec/12 R277, spec/13 R302): ring, DST, and the ring-α addresses of the other gateways that are
in SYNC on both of their rings. -/
structure RingVia where
  beta : Bool
  dst : Nat
  gws : List Nat
deriving DecidableEq, Repr

/-- An admission message (spec/13 R300) with the SRC of the frame that carries it, and the other gateways of the ring. -/
structure AdmMsg where
  gws : List Nat
  beta : Bool
  src : Nat
  msg : Nat
  cause : Nat
  subject : Nat
  version : Nat
  idHash : Nat
  stamp : Nat
  cv : Three Nat
deriving DecidableEq, Repr

/-- What a port met at a guardian (spec/13 R304 to R306): the port, own transmission or forwarding, and the kind:
0 early, 1 late, 2 long, 3 NIT, 4 window closed by the stamp difference. -/
structure GuardEv where
  port : Nat
  own : Bool
  slot : Nat
  kind : Nat
deriving DecidableEq, Repr

/-- The frame of an SFP's identification page (spec/12 R258): port; 0 none, 1 SX, 2 LX, 3 unqualified; link up. -/
structure SfpOp where
  port : Nat
  optic : Nat
  link : Bool
deriving DecidableEq, Repr

/-- What a node sees in the dynamic segment (spec/12 R281): a mini-slot in which no frame starts, or a frame, with the
receiving port, SRC, POS and LAST. -/
inductive MiniEv where
  | idle
  | frame (port src pos : Nat) (last : Bool)
deriving DecidableEq, Repr

/-- A mini-slot boundary at which a position may be served (spec/12 R282): the position, what the node has seen in the
segment since the last such command of the round, the payload bytes of the frames waiting, and the bytes left to the end of
the segment. -/
structure DynOp where
  beta : Bool
  pos : Nat
  seen : List MiniEv
  bytes : List Nat
  roomBytes : Nat
deriving DecidableEq, Repr

/-- The round start (spec/12 R262): round index, the ports' link states and frames seen with valid FCS in the
round that ended, and the SM ranks in the images of the other nodes: address and rank (spec/12 R272). `beta`: ring β. -/
structure RoundOp where
  beta : Bool
  round : Nat
  links : List Bool
  frames : List Bool
  smRanks : List (Nat × Nat)
deriving DecidableEq, Repr

/-- A chunk of a delta or a copy (spec/11 R239). -/
structure Chunk where
  kind : Nat
  src : Nat
  snapSeq : Nat
  chunk : Nat
  chunks : Nat
  rsvd : Nat
  body : List Byte
  cv : Three Nat
deriving DecidableEq, Repr

/-! ### Object-controller buses (spec/14) -/

/-- A CAN frame received (spec/14 R316, R323): channel, identifier (bit 31: 29-bit), format, data, the stamp at
its SOF, and whether the SOF fell in the round before the one in progress. -/
structure CanRx where
  ch : Nat
  id : Nat
  remote : Bool
  fd : Bool
  brs : Bool
  data : List Byte
  sof : Nat
  prevRound : Bool
deriving DecidableEq, Repr

/-- How a transmission attempt ends (spec/14 R324, R326): sent, lost arbitration, or an error; an error in the data
field names the first wrong bit and the first 8 bytes received on the bus. -/
inductive CanTxEnd where
  | sent | lost | error | dataError (bit rx0 rx1 : Nat)
deriving DecidableEq, Repr

/-- What wakes a channel (spec/14 R328). -/
inductive CanWakeEv where
  | dominant (us : Nat)
  | frame (id : Nat) (data : Nat)
deriving DecidableEq, Repr

/-! ### Sessions and queues (spec/15) -/

/-- A session frame (spec/15 R335). -/
structure SFrame where
  ver : Nat
  type : Nat
  flags : Nat
  src : Nat
  dst : Nat
  seq : Nat
  echoSeq : Nat
  ts : Nat
  tsEcho : Nat
  conn : Nat
  rsvd : Nat
  payload : List Byte
  cv : Three Nat
  mac : Nat
deriving DecidableEq, Repr

/-- A ring queue message (spec/15 R345) with the SRC and DST of its dynamic frame. -/
structure QMsg where
  src : Nat
  dst : Nat
  queue : Nat
  rsvd : Nat
  seq : Nat
  stamp : Nat
  data : List Byte
  cv : Three Nat
deriving DecidableEq, Repr

/-! ### Safe inputs and outputs (spec/16) -/

/-- A sample window (spec/16 R354): its angle time offset is the present AT; the currents in µA of the 8 reads of
each of the 32 inputs and of RESTART_IN. -/
structure WindowReads where
  inputs : List (List Nat)
  restart : List Nat
deriving DecidableEq, Repr

/-- The readback of one output (spec/16 R363), mV. -/
structure Readback where
  out : Nat
  pMv : Nat
  nMv : Nat
deriving DecidableEq, Repr

/-- The readback of a test pulse (spec/16 R364, R365): the output under test and the others, each with whether its
reading returns to the rest band after the pulse. -/
structure PulseRead where
  own : Readback
  others : List (Readback × Bool)
deriving DecidableEq, Repr

/-- An overload (spec/16 R367): of an output or of a group, with its current in mA and its time in µs. -/
inductive OverloadOp where
  | output (n ma us : Nat) (limit : Bool)
  | group (g ma us : Nat)
deriving DecidableEq, Repr

/-! ### Attestation and updates (spec/20, spec/21) -/

/-- Where a quote request comes from and goes back to (spec/20 R432). -/
inductive QuotePath where
  | service (port : Nat)
  | session (n : Nat) (f : SFrame)
  | ring (src : Nat) (via : RingVia)
deriving DecidableEq, Repr

/-- A quote request (spec/20 R432). -/
structure QuoteReq where
  path : QuotePath
  nonce : Nat
deriving DecidableEq, Repr

/-- A quote received (spec/20 R429) from system address `src`, and whether each spire's tallies match what the
verifier expects for that firmware set and identity (R431). -/
structure QuoteMsg where
  via : RingVia
  src : Nat
  signed : Nat
  mode : Nat
  qflags : Nat
  nonce : Nat
  serial : Nat
  hwid : Nat
  idHash : Nat
  version : Nat
  stamp : Nat
  addr : Nat
  pair : Nat
  tallies : Three (List Nat)
  sigs : Three Nat
  talliesOk : Three Bool
deriving DecidableEq, Repr

/-- A part entry of a manifest (spec/21 R438). -/
structure PartDef where
  type : Nat
  carry : Bool
  rsvd : Nat
  length : Nat
  version : Nat
  hash : Nat
deriving DecidableEq, Repr

/-- A signature of a manifest: key slot and signature. -/
structure SigDef where
  slot : Nat
  sig : Nat
deriving DecidableEq, Repr

/-- A package manifest (spec/21 R438). -/
structure Manifest where
  magic : Nat
  format : Nat
  hwType : Nat
  pkgVersion : Nat
  secVer : Nat
  secRsvd : Nat
  rsvd : Nat
  buildTai : Nat
  parts : List PartDef
  serials : List Nat
  sigs : List SigDef
deriving DecidableEq, Repr

/-- One change of a settings-migration descriptor (spec/21 R447). -/
inductive SettingChange where
  /-- R62: an image-key slot loaded (state 1) or revoked (state 2). -/
  | imageKey (slot state key : Nat)
  /-- R301: an entry of the system manifest installed, changed or removed. -/
  | manifestAdd (addr : Nat) (id : ImageId)
  | manifestSet (addr : Nat) (old new : ImageId)
  | manifestDrop (addr : Nat) (id : ImageId)
  | verifier (role : Role) (v : Nat)
  /-- R455: the address of a port; none removes it. -/
  | ip4 (port : Nat) (a : Option PortAddr)
  | ip6 (port : Nat) (a : Option PortAddr)
  /-- R431: the public key of the device certificate authority. -/
  | caKey (key : Nat)
  /-- A setting that the spec does not name. -/
  | other (name value : Nat)
deriving DecidableEq, Repr

/-- A settings-migration descriptor (spec/21 R447). -/
structure Descriptor where
  formats : List Nat
  writes : Nat
  /-- Formats that the management firmware of the package reads. -/
  reads : List Nat
  changes : List SettingChange
deriving DecidableEq, Repr

/-- An update block (spec/21 R442). -/
structure UpdBlock where
  part : Nat
  offset : Nat
  data : List Byte
  crc : Nat
deriving DecidableEq, Repr

/-- What VERIFY finds in the flash copies beside the parts received (spec/21 R439): per spire the hashes of the active
set's parts by entry (compared for CARRY), the secure-element counter, the descriptor of the package, and the image of the new
set. -/
structure VerifyOp where
  hashes : Three (List Nat)
  counters : Three Nat
  desc : Option Descriptor
  image : ImageDoc
deriving DecidableEq, Repr

/-- A delta image's header as OL_BEGIN carries it (spec/21 R448). -/
structure OlHeader where
  idHash : Nat
  version : Nat
  baseIdHash : Nat
  baseVersion : Nat
  flags : Nat
  totalLen : Nat
deriving DecidableEq, Repr

end Machine

open Machine

/-- The commands: one constructor per row of spec/opcode_table.json. -/
inductive Instr where
  /-- BASE_CYCLE_BOUNDARY (R30): The cycle angle wraps from 65,535 to 0 and the base cycle count increments. -/
  | baseCycleBoundary (b : Boundary)
  /-- AT_MARK_WRITE (R34): Every 1,024 base cycles the module writes an AT mark of COUNT + 1,024 to MRAM. -/
  | atMarkWrite (ok : Bool)
  /-- AT_LO_READ (R50): A read of AT_LO returns the low AT bits and latches the high bits into AT_HI. -/
  | atLoRead (c : Svc)
  /-- CIVIL_LO_READ (R50): A read of CIVIL_LO returns the low civil-time bits and latches the high bits into CIVIL_HI. -/
  | civilLoRead (c : Svc)
  /-- REF_EDGE (R39): The weathervane timestamps a reference edge, updates its phase and period, and anchors the sample grid. -/
  | refEdge (e : RefEdge)
  /-- REF_TIMEOUT (R40): A reference delivers no edge within 3 expected periods and becomes invalid. -/
  | refTimeout (ref : Nat)
  /-- WV_HOLDOVER_LONG (R43): Time in HOLDOVER reaches HOLD_LIMIT, and the weathervane records this once and raises its fault source. -/
  | wvHoldoverLong
  /-- PTP_SYNC (R49): A PTP message updates civil time by a slew, or by a step when the offset exceeds 1 ms. -/
  | ptpSync (p : PtpSync)
  /-- TIME_SET (R48): A time-set service command from an engineer session steps civil time. -/
  | timeSet (c : Svc) (ns : Nat)
  /-- TICK_WINDOW (R216): At a tick angle the tick window closes, and each spire delivers its MISR signature for comparison. -/
  | tickWindow (w : WindowOp)
  /-- SERVICE_WINDOW_CLOSE (R216): A firmware service task ends, and its service-window signature is delivered for comparison. -/
  | serviceWindowClose (id : Nat) (w : WindowOp)
  /-- IMAGE_LOAD (R70): In LOAD, each spire checks the image in order, and the module accepts it or goes to SAFE-HALT. -/
  | imageLoad (docs : Three ImageDoc)
  /-- REGISTER_WRITE (R10): A service transaction writes registers that have no behaviour of their own, subject to access codes, the per-spire rule and the change log. -/
  | registerWrite (c : Svc) (rs : List (Nat × Nat)) (ws : List RegWr) (e : WrEnv)
  /-- BENCH_RING_JOIN (R3): A module with bench flag 0 integrates on a ring while an HDT3-B is active, and the HDT3-B goes to SAFE-HALT. -/
  | benchRingJoin (addr : Nat)
  /-- LD (R85): LD loads the operand bit into ACC in the enabled lanes. -/
  | ld (o : EngOp)
  /-- LDN (R85): LDN loads the negated operand bit into ACC. -/
  | ldn (o : EngOp)
  /-- AND (R85): AND combines ACC with the operand by AND. -/
  | andI (o : EngOp)
  /-- ANDN (R85): ANDN combines ACC with the negated operand by AND. -/
  | andn (o : EngOp)
  /-- OR (R85): OR combines ACC with the operand by OR. -/
  | orI (o : EngOp)
  /-- ORN (R85): ORN combines ACC with the negated operand by OR. -/
  | orn (o : EngOp)
  /-- XOR (R85): XOR combines ACC with the operand by XOR. -/
  | xorI (o : EngOp)
  /-- ST (R85): ST stores ACC, or its negation, to an F, G or Q bit and produces write records. -/
  | st (o : EngOp)
  /-- SET (R85): SET writes 1 to the destination where ACC selects. -/
  | setI (o : EngOp)
  /-- CLR (R85): CLR writes 0 to the destination where ACC selects. -/
  | clr (o : EngOp)
  /-- EDR (R86): EDR detects a rising edge of ACC against the stored bit P and updates P. -/
  | edr (o : EngOp)
  /-- EDF (R86): EDF detects a falling edge of ACC against the stored bit P and updates P. -/
  | edf (o : EngOp)
  /-- IF (R87): IF pushes EN AND ACC, or EN AND NOT ACC, onto the mask stack. -/
  | ifI (o : EngOp)
  /-- ELSE (R87): ELSE replaces the top mask entry with the complement under its parent. -/
  | elseI (o : EngOp)
  /-- ENDIF (R87): ENDIF pops the top mask entry. -/
  | endif (o : EngOp)
  /-- SKIPZ (R88): SKIPZ passes over the next k instructions when EN is 0 in every lane. -/
  | skipz (o : EngOp)
  /-- WLD (R89): WLD loads the word operand into WACC. -/
  | wld (o : EngOp)
  /-- WST (R89): WST stores WACC to a V or H word and produces a record per lane. -/
  | wst (o : EngOp)
  /-- WADD (R89): WADD adds the operand to WACC with saturation, and clears ACC where the result saturates. -/
  | wadd (o : EngOp)
  /-- WSUB (R89): WSUB subtracts the operand from WACC with saturation. -/
  | wsub (o : EngOp)
  /-- WCMP (R89): WCMP sets ACC from a comparison of WACC with the operand. -/
  | wcmp (o : EngOp)
  /-- WMIN (R89): WMIN sets WACC to the smaller of WACC and the operand. -/
  | wmin (o : EngOp)
  /-- WMAX (R89): WMAX sets WACC to the larger of WACC and the operand. -/
  | wmax (o : EngOp)
  /-- TON (R94): TON moves an on-delay timer word by its input and sets ACC to DONE. -/
  | ton (o : EngOp)
  /-- TOF (R94): TOF moves an off-delay timer word by its input and sets ACC to DONE. -/
  | tof (o : EngOp)
  /-- TPL (R94): TPL moves a pulse timer word by its input and sets ACC to DONE. -/
  | tpl (o : EngOp)
  /-- TTST (R94): TTST reads a timer's DONE into ACC and its remaining ticks into WACC. -/
  | ttst (o : EngOp)
  /-- CLAIM (R137): CLAIM grants a route's whole claim list in one transaction, or grants nothing. -/
  | claim (o : EngOp)
  /-- RELS_K (R138): RELS K releases one element from a transaction. -/
  | relsK (o : EngOp)
  /-- RELS_V (R138): RELS V releases every live entry of a transaction and closes its slot. -/
  | relsV (o : EngOp)
  /-- SHARE (R138): SHARE adds an element to a transaction in a shareable class. -/
  | share (o : EngOp)
  /-- UNSHARE (R138): UNSHARE removes a shared entry from a transaction. -/
  | unshare (o : EngOp)
  /-- QRY (R138): QRY returns the token's holder, share count, state and class, and sets ACC when the token is FREE. -/
  | qry (o : EngOp)
  /-- OFFER (R138): OFFER marks an owned boundary token as offered to a peer and queues an OFFER record. -/
  | offer (o : EngOp)
  /-- ACPT (R138): ACPT accepts a stored offer, moves the token to IN-HELD and queues an ACCEPT record. -/
  | acpt (o : EngOp)
  /-- IN (R97): IN loads 32 input bits into WACC. -/
  | inI (o : EngOp)
  /-- OUT (R97): OUT writes WACC to 32 output bits. -/
  | outI (o : EngOp)
  /-- EMIT (R98): EMIT marks an output message for emission at the task's output angle. -/
  | emit (o : EngOp)
  /-- FIN (R99): FIN emits the finial record, clears FIRST, ends the group and waits at the barrier. -/
  | finI (o : EngOp)
  /-- FORCE_WRITE (R100): A write to FORCEk sets or lifts a force on a G, I or Q bit. -/
  | forceWrite (c : Svc) (k : Nat) (v : SpireVals)
  /-- LE_CTRL_CLR_MAX (R105): A write to LE_CTRL.CLR_MAX clears LE_CLK_MAX. -/
  | leCtrlClrMax (c : Svc) (v : SpireVals)
  /-- LE_CTRL_CLR_CNT (R105): A write to LE_CTRL.CLR_CNT clears the saturation and preset counters. -/
  | leCtrlClrCnt (c : Svc) (v : SpireVals)
  /-- INPUT_FREEZE (R108): At an input angle the comms plane freezes the task's input image, and the spires check held session frames and queue descriptors. -/
  | inputFreeze (task : Nat)
  /-- PERIODIC_RELEASE (R108): At REL_ANG of a due cycle, a periodic task becomes ready. -/
  | periodicRelease (task : Nat)
  /-- MIN_SEP_ELAPSED (R110): MIN_SEP elapses, and a pending event release becomes ready. -/
  | minSepElapsed (task : Nat)
  /-- FINIAL_BARRIER_COMPLETE (R212): Every compared stream has delivered the finial with voted PASS, and the belfry hands out the completion angle and release set. -/
  | finialBarrierComplete (angle : Nat)
  /-- OUTPUT_ANGLE (R115): At an output angle the module emits marked messages from the Q copies, presents the voted output word and sends session frames. -/
  | outputAngle (task : Nat) (v : VoteOp)
  /-- SEAL_ANGLE (R117): SEAL_ANG is reached, and the seal starts, or waits for the next last finial. -/
  | sealAngle
  /-- SEAL_COMPLETE (R192): The write-back wait and the SRAM copy end, and held releases take effect. -/
  | sealComplete (meets : List BankMeet)
  /-- SWEEP_START (R118): At a sweep start angle after the previous seal, the input image is frozen and the sweep runs. -/
  | sweepStart (k : Nat)
  /-- SWEEP_OUTPUT (R119): At a sweep output angle the module emits the completed sweep's messages and presents its word. -/
  | sweepOutput (k : Nat) (v : VoteOp)
  /-- WATCHDOG_TRIP (R122): A deadline, sweep bound or audit limit is reached while the watchdog is armed, and the module zeros outputs and enters SAFE-HALT. -/
  | watchdogTrip (task : Nat)
  /-- SCH_CTRL_CLR_STATS (R125): A write to SCH_CTRL.CLR_STATS clears the scheduler statistics. -/
  | schCtrlClrStats (c : Svc) (v : SpireVals)
  /-- KEEP_INTAKE (R133): Once per cycle, before the first group, the keep takes in received boundary records, expiries and KP_CMD commands. -/
  | keepIntake
  /-- KP_CMD_BLOCK (R153): A write of the BLOCK command to KP_CMD requests a maintenance block at the next intake. -/
  | kpCmdBlock (c : Svc) (v : SpireVals)
  /-- KP_CMD_UNBLOCK (R153): A write of the UNBLOCK command to KP_CMD, confirmed where required, requests release of a block. -/
  | kpCmdUnblock (c : Svc) (v : SpireVals)
  /-- KP_TSEL_WRITE (R152): A write to KP_TSEL requests that a token be latched for inspection at the next barrier. -/
  | kpTselWrite (c : Svc) (v : SpireVals)
  /-- KP_XSEL_WRITE (R152): A write to KP_XSEL requests that a transaction slot be latched for inspection. -/
  | kpXselWrite (c : Svc) (v : SpireVals)
  /-- KP_CTRL_CLR_CNT (R152): A write to KP_CTRL.CLR_CNT clears the result and peak counters. -/
  | kpCtrlClrCnt (c : Svc) (v : SpireVals)
  /-- OFFER_TIMEOUT (R162): T_OFFER expires, and a QUERY with WITHDRAW is sent. -/
  | offerTimeout (token : Nat)
  /-- CONFIRM_TIMEOUT (R162): T_CONF expires in IN-HELD, so RECON is set and a QUERY is sent. -/
  | confirmTimeout (token : Nat)
  /-- COMPLETION_TIMEOUT (R162): The completion timeout expires in a sending state, so RECON is set and a QUERY is sent. -/
  | completionTimeout (token : Nat)
  /-- RETRY_TIMEOUT (R162): Two cycles pass without a changing ANSWER, and the QUERY is sent again. -/
  | retryTimeout (token : Nat)
  /-- LONG_PARTITION_TIMEOUT (R162): T_LONG passes with RECON set, so AUTH_REQ is set and BT_LONG_PARTITION is recorded. -/
  | longPartitionTimeout (token : Nat)
  /-- BOUNDARY_TRANSMIT (R159): After the cycle's delta is sealed and applied by the standby, the cycle's boundary records are transmitted. -/
  | boundaryTransmit
  /-- SETTLE (R167): The authorised SETTLE command sends SETTLE records to settle an element at the commanded module. -/
  | settle (c : Svc) (o : SettleOp)
  /-- SETTLE_TIMEOUT (R167): T_CONF passes without every listing module answering, and the command ends with result 3. -/
  | settleTimeout
  /-- FENCE (R169): The FENCE command, confirmed by an auditor, settles an element here and fences the peer's epoch. -/
  | fence (c : Svc) (o : SettleOp)
  /-- ADMISSION_LAPSE (R172): A peer's quote becomes older than 600 s, or it loses ring admission, and the module stops exchanging records with it. -/
  | admissionLapse (peer : Nat) (cause : Nat)
  /-- BT_CTRL_CLR_CNT (R175): A write to BT_CTRL.CLR_CNT clears the boundary counters. -/
  | btCtrlClrCnt (c : Svc) (v : SpireVals)
  /-- PAGE_FILL (R186): A page fill of a window, input or lead page completes into a slot. -/
  | pageFill (spire : Nat) (page : PageId) (err : Option Bool)
  /-- WRITE_BACK (R188): The write-back of a dirty frame part completes, and its slot can be freed. -/
  | writeBack (spire group : Nat) (p : PortOp)
  /-- SCRUB_READ (R181): The scrub engine reads and checks the next SRAM word. -/
  | scrubRead (spire : Nat) (p : PortOp)
  /-- SNAPSHOT_COPY_COMPLETE (R193): The snapshot channel finishes copying the frame parts of a seal. -/
  | snapshotCopyComplete (spire : Nat) (err : Option Bool)
  /-- MARCH_STEP (R201): A preserving march step tests one 4 KiB of a bank and restores it. -/
  | marchStep (m : MarchOp)
  /-- MT_CTRL_START (R203): A write of START to MT_CTRL starts a requested march test. -/
  | mtCtrlStart (c : Svc) (v : SpireVals)
  /-- PG_CTRL_CLR_CNT (R204): A write to PG_CTRL.CLR_CNT clears the pager counters. -/
  | pgCtrlClrCnt (c : Svc) (v : SpireVals)
  /-- RECORD_COMPARE (R208): The belfry compares a record triple, votes the verdicts of the slices and acts on them. -/
  | recordCompare (o : CompareOp) (mate : Option CompareOp)
  /-- LAG_TIMEOUT (R209): A stream misses a record within the lag limit and counts as missing. -/
  | lagTimeout
  /-- SPIRE_SELFTEST_END (R224): An isolated spire's self-test ends, and the spire enters QUIET or LATCHED. -/
  | spireSelftestEnd (t : SpireTest)
  /-- SELFTEST_TIMEOUT (R224): The self-test has not ended within 6 s of CRST and counts as failed. -/
  | selftestTimeout (spire test : Nat)
  /-- REINT_COPY_COMPLETE (R226): The rejoining spire finishes its compared snapshot copy from both donors and enters JOIN. -/
  | reintCopyComplete (spire : Nat) (mismatch : Option Nat)
  /-- SPIRE_REJOINED (R227): The rejoining spire reports the delta applied within the join hold and joins comparison. -/
  | spireRejoined (spire : Nat) (mismatch : Option Nat)
  /-- REINT_JOIN_TIMEOUT (R227): The join hold ends at 5,000 µs without the report, and the spire stays in JOIN. -/
  | reintJoinTimeout (spire : Nat)
  /-- BF_CMD_ISOLATE (R222): The isolate command of BF_CMD isolates a compared spire without a recovery count. -/
  | bfCmdIsolate (c : Svc) (v : SpireVals)
  /-- BF_CMD_INJECT (R232): The injection command of BF_CMD runs the belfry injection test. -/
  | bfCmdInject (c : Svc) (v : SpireVals) (fail : Option (Nat × Nat × Nat))
  /-- BF_CTRL_CLR_CNT (R234): A write to BF_CTRL.CLR_CNT clears the belfry counters. -/
  | bfCtrlClrCnt (c : Svc) (v : SpireVals)
  /-- PAIR_CHUNK (R242): The standby or shadow takes or rejects a received delta or copy chunk. -/
  | pairChunk (k : Chunk)
  /-- DELTA_APPLY (R242): When all chunks and the trailer are taken, the standby checks and applies the delta and audits it. -/
  | deltaApply
  /-- PAIR_FRAMES_MISSING (R248): The partner's frames have been missing for 2 consecutive rounds, and the witness quorum is judged. -/
  | pairFramesMissing
  /-- TAKEOVER_ENTRY (R250): At the first boundary at least TK_PREP after the decision, the standby enters ACTIVE. -/
  | takeoverEntry
  /-- PAIR_SWITCH (R256): The PAIR_SWITCH command hands the active role to the standby at a seal. -/
  | pairSwitch (c : Svc)
  /-- PAIR_SWITCH_TIMEOUT (R256): The partner's report is missing 2 boundaries after the seal, and the switch is refused. -/
  | pairSwitchTimeout
  /-- PAIR_CTRL_CLR_CNT (R257): A write to PAIR_CTRL.CLR_CNT clears the pair counters. -/
  | pairCtrlClrCnt (c : Svc)
  /-- ROUND_START (R262): A ring round begins: TS latches are taken, healing and schedule checks are made. -/
  | roundStart (r : RoundOp)
  /-- STATIC_SLOT_TRANSMIT (R263): The node sends its static frame in an owned slot. -/
  | staticSlotTransmit (beta : Bool) (slot : Nat)
  /-- DYNAMIC_TRANSMIT (R282): The owner of a dynamic position sends its frames when the mini-slot counter reaches it. -/
  | dynamicTransmit (d : DynOp)
  /-- REFERENCE_FRAME (R274): A reference frame is received and gives COUNT, T_B and synchronisation. -/
  | referenceFrame (f : RefFrame)
  /-- STATIC_FRAME (R276): A static frame is received, and its vital part, pair status, vote, export bits and boundary records are taken. -/
  | staticFrame (f : StaticFrame)
  /-- SYNC_CORRECTION (R267): In the NIT, the node computes its offset error and corrects its clock. -/
  | syncCorrection (beta : Bool)
  /-- TIME_MASTER_TAKEOVER (R271): The master's reference has been missing for 2 rounds, and the next rank takes the role. -/
  | timeMasterTakeover (beta : Bool)
  /-- TIME_MASTER_RETURN (R271): A lower rank has been accepted for 16 cycles and takes the time-master role back. -/
  | timeMasterReturn (beta : Bool)
  /-- RING_SWITCH (R286): The RING_SWITCH command starts a vote for a schedule switch. -/
  | ringSwitch (c : Svc) (sched : Nat)
  /-- RING_SWITCH_TIMEOUT (R286): Four rounds pass without a commit, and the switch ends with result 3. -/
  | ringSwitchTimeout
  /-- SFP_INSERT (R258): An SFP is inserted, and its port is enabled or disabled by qualification. -/
  | sfpInsert (o : SfpOp)
  /-- RG_CTRL_CLR_CNT (R288): A write to RG_CTRL.CLR_CNT clears the ring slot counters. -/
  | rgCtrlClrCnt (c : Svc)
  /-- COLDSTART_TRIGGER (R292): The listen time ends without frames, and the cold-start node begins a cold start. -/
  | coldstartTrigger (beta : Bool)
  /-- COLDSTART_FRAME (R295): A cold-start frame is received, and collisions are judged. -/
  | coldstartFrame (f : CsFrame)
  /-- COLDSTART_ROUND (R294): A cold-start round ends clean or not, leading to SYNC, a new attempt or failure. -/
  | coldstartRound (r : CsRound)
  /-- COLDSTART_BACKOFF_END (R289): The 64 × T_R without cold start after a failed cold start elapses. -/
  | coldstartBackoffEnd (beta : Bool)
  /-- INTEGRATE_ANNOUNCE (R289): After 8 synchronised passive rounds, the node starts sending integration frames. -/
  | integrateAnnounce (beta : Bool)
  /-- INTEGRATION_FRAME (R298): An integration frame is received by the system master for admission. -/
  | integrationFrame (f : IntegFrame)
  /-- ADMISSION_MESSAGE (R300): An ADMIT or REFUSE message is received and acted on. -/
  | admissionMessage (m : AdmMsg)
  /-- RING_ADMIT_TIMEOUT (R300): No ADMIT or REFUSE arrives within 10 s, so the node pauses announcing. -/
  | ringAdmitTimeout (beta : Bool)
  /-- ADMIT_REPEAT (R299): Every 64 base cycles, the system master repeats ADMIT for each node in SYNC. -/
  | admitRepeat
  /-- RING_SYNC_LOST (R308): After 4 unsynchronised rounds the node enters LISTEN. -/
  | ringSyncLost (beta : Bool)
  /-- GUARDIAN_TRUNCATE (R305): A guardian window closes during a frame, and the port ends it with /V/. -/
  | guardianTruncate (g : GuardEv)
  /-- PORT_LOST (R309): A ring port loses its link or its frames and is declared lost. -/
  | portLost (port : Nat)
  /-- RING_RESTORED (R312): The link has been up for 64 rounds, and the loop is removed at the next boundary. -/
  | ringRestored (port : Nat)
  /-- RG_GCTRL_CLR_CNT (R313): A write to RG_GCTRL.CLR_CNT clears the guardian and healing counters. -/
  | rgGctrlClrCnt (c : Svc)
  /-- CAN_FRAME_RX (R316): A CAN frame is received, stamped and checked as an object-controller status. -/
  | canFrameRx (f : CanRx)
  /-- CAN_TRANSMIT_END (R324): A transmission attempt of the queue head ends in success, error or lost arbitration. -/
  | canTransmitEnd (ch : Nat) (e : CanTxEnd)
  /-- CAN_BUSOFF (R325): The transmit error count reaches 256, so the queue is flushed and the fault source raised. -/
  | canBusoff (ch : Nat)
  /-- CAN_BUSOFF_RECOVERY (R325): After 128 × 11 recessive bits, the channel recovers from bus-off. -/
  | canBusoffRecovery (ch : Nat)
  /-- CAN_GROUP_FAIL (R314): A group supply fails and its channels stop. -/
  | canGroupFail (g : Nat)
  /-- CAN_WAKE (R328): A sleeping channel wakes on a dominant phase or a wake frame. -/
  | canWake (ch : Nat) (e : CanWakeEv)
  /-- CAN_CTRL_CLR_CNT (R329): A write to CAN_CTRL.CLR_CNT clears the channel counters. -/
  | canCtrlClrCnt (c : Svc) (ch : Nat)
  /-- CONNECT (R338): A CONNECT frame received is checked and opens a responder session. -/
  | connect (n : Nat) (f : SFrame)
  /-- CONNECT_ACK (R338): A CONNECT_ACK frame received is checked and opens an initiator session. -/
  | connectAck (n : Nat) (f : SFrame)
  /-- CLOSE (R338): A CLOSE frame accepted moves the session to HOLDOFF. -/
  | close (n : Nat) (f : SFrame)
  /-- SESSION_DATA (R339): A DATA frame is received and held for the next freeze, or enqueued as a descriptor. -/
  | sessionData (n : Nat) (f : SFrame)
  /-- CONNECT_RETRY (R338): TIMEOUT elapses without CONNECT_ACK, and CONNECT is sent again with a new nonce. -/
  | connectRetry (n : Nat)
  /-- HOLDOFF_END (R338): TIMEOUT elapses in HOLDOFF, and the session returns to IDLE. -/
  | holdoffEnd (n : Nat)
  /-- QUEUE_MESSAGE (R345): A ring queue message is received and enqueued while a credit stands. -/
  | queueMessage (m : QMsg)
  /-- SS_CTRL_CLR_CNT (R348): A write to SS_CTRL.CLR_CNT clears the session and queue counters. -/
  | ssCtrlClrCnt (c : Svc)
  /-- CV_START (R349): A write to CV_START loads INIT and folds the prefix words into a check-value unit. -/
  | cvStart (c : Svc) (u start : Nat)
  /-- CV_DATA_WRITE (R349): A write to CV_DATA feeds 4 bytes to the unit. -/
  | cvDataWrite (c : Svc) (u value : Nat)
  /-- CV_BYTE_WRITE (R349): A write to CV_BYTE feeds one byte to the unit. -/
  | cvByteWrite (c : Svc) (u value : Nat)
  /-- ETH_LINK_LOST (R465): An Ethernet port loses its link, which raises CP_ETH_LINK when a session or PTP uses it. -/
  | ethLinkLost (port : Nat)
  /-- ETH_CTRL_CLR_CNT (R350): A write to ETH_CTRL.CLR_CNT clears the Ethernet counters. -/
  | ethCtrlClrCnt (c : Svc)
  /-- SAMPLE_WINDOW (R354): A sample window reads all inputs, updates debounce, wire breaks and pairs, and delivers to the spires. -/
  | sampleWindow (w : WindowReads)
  /-- OUTPUT_REST_CHECK (R363): Every 1 ms the readback of an output with both switches open is checked. -/
  | outputRestCheck (r : Readback)
  /-- TEST_PULSE (R364): At 1 ms into a test slot, a test pulse opens or closes one switch. -/
  | testPulse (slot : Nat)
  /-- TEST_READBACK (R364): At 250 µs into the pulse, the readback is judged for bypass, dead switch or cross-connection. -/
  | testReadback (r : PulseRead)
  /-- TEST_PULSE_END (R364): The test pulse ends at 300 µs. -/
  | testPulseEnd
  /-- OUTPUT_OVERLOAD (R367): An output or group overload persists, and the output latches off. -/
  | outputOverload (o : OverloadOp)
  /-- FS_MEASURE (R368): Every 1 ms FS is measured and the field-supply state updated. -/
  | fsMeasure (mv : Nat)
  /-- LOGIC_SILENCE (R369): The silence timer reaches LS_MS, and outputs take their safe states. -/
  | logicSilence
  /-- HOLD_PRESENTATION (R369): Outside active modes, the belfry presents an all-zero HOLD word every 10 ms. -/
  | holdPresentation
  /-- RESTART_IN_RISE (R371): The debounced RESTART_IN rises, and the edge-reset machine enters HIGH. -/
  | restartInRise
  /-- RESTART_IN_FALL (R371): The debounced RESTART_IN falls, and the machine arms or returns to IDLE. -/
  | restartInFall
  /-- IO_RESTART_STUCK (R371): RESTART_IN stays high more than 2 s, and the machine enters STUCK. -/
  | ioRestartStuck
  /-- IO_RESTART_EXPIRED (R371): The 10 s in ARMED elapse without IO_RESTART. -/
  | ioRestartExpired
  /-- IO_RESTART (R371): The IO_RESTART command in ARMED performs the edge reset. -/
  | ioRestart (c : Svc)
  /-- IO_OVR_WRITE (R373): A write to IO_OVR sets or lifts an output override or an input wire-break suppression. -/
  | ioOvrWrite (c : Svc) (value : Nat)
  /-- IO_CTRL_CLR_CNT (R374): A write to IO_CTRL.CLR_CNT clears the safe-I/O counters. -/
  | ioCtrlClrCnt (c : Svc)
  /-- FAULT_RAISE (R381): A fault source is raised, recorded and its reaction mask applied. -/
  | faultRaise (rs : List RaiseOp)
  /-- CONDITION_END (R381): A source's condition ends, and its quiet period starts. -/
  | conditionEnd (source : Nat)
  /-- QUIET_EXPIRY (R381): The quiet period elapses, so the source returns to CLEAR and counts a recovery. -/
  | quietExpiry (source : Nat)
  /-- RECOVERY_WINDOW_CLOSE (R381): REC_WIN hours after it opened, the recovery window closes and WIN_CNT returns to 0. -/
  | recoveryWindowClose (source : Nat)
  /-- FC_STICKY_CLEAR (R385): A W1C write to FC_STICKYw clears the sticky status of sources that are CLEAR or QUIET. -/
  | fcStickyClear (c : Svc) (w mask : Nat)
  /-- FC_CTRL_CLR_FIRST (R386): A write to FC_CTRL.CLR_FIRST clears the first-fault registers. -/
  | fcCtrlClrFirst (c : Svc)
  /-- FC_CTRL_CLR_OCC (R390): A write to FC_CTRL.CLR_OCC clears every occurrence count. -/
  | fcCtrlClrOcc (c : Svc)
  /-- FC_FORCE_WRITE (R387): A write to FC_FORCEw raises or ends a forced fault. -/
  | fcForceWrite (c : FcWriter) (w value : Nat)
  /-- FC_INJ_WRITE (R388): A write to FC_INJ arms check-bit injection into one checker. -/
  | fcInjWrite (c : FcWriter) (value : Nat)
  /-- FC_REC_CLEAR (R389): The auditor command FC_REC_CLEAR resets the recovery counts. -/
  | fcRecClear (c : Svc)
  /-- RECORD_STORE (R396): The recorder stores the next intake record into MRAM, or merges it as a repeat. -/
  | recordStore (ok : Bool)
  /-- ALARM_FORWARD (R394): The next alarm-queue record is forwarded to the subscribed service connections. -/
  | alarmForward
  /-- HOLDUP_13V (R397): The hold-up bus falls below 13.0 V, and the recorder drops its queue and stops. -/
  | holdup13v (mv : Nat)
  /-- REC_CLEAR (R399): The confirmed auditor command REC_CLEAR clears the records. -/
  | recClear (c : Svc)
  /-- REC_SEL_WRITE (R403): A write to REC_SEL_LO latches the selected record. -/
  | recSelWrite (c : Svc) (lo : Nat) (crcOk : Bool)
  /-- REC_DIRSEL_WRITE (R403): A write to REC_DIRSEL looks up a record code in the directory. -/
  | recDirselWrite (c : Svc) (code : Nat)
  /-- CL_SEL_WRITE (R403): A write to CL_SEL latches a change-log entry. -/
  | clSelWrite (c : Svc) (seq : Nat)
  /-- MODE_HALT (R407): The MODE_HALT command sends the module to SAFE-HALT. -/
  | modeHalt (c : Svc)
  /-- MODE_RESTART (R408): The confirmed MODE_RESTART command sets the restart pending, with an MRST from SAFE-HALT. -/
  | modeRestart (c : Svc) (partnerToo : Bool)
  /-- RESTART_EXPIRED (R408): A pending restart is not used within 600 s and clears. -/
  | restartExpired
  /-- MAINT_ENTER (R405): The MAINT_ENTER command moves SAFE-HALT to MAINTENANCE. -/
  | maintEnter (c : Svc)
  /-- MAINT_EXIT (R405): The MAINT_EXIT command returns to SAFE-HALT and lifts vital forces and overrides. -/
  | maintExit (c : Svc)
  /-- UPDATE_ENTER (R405): The UPDATE_ENTER command enters UPDATE. -/
  | updateEnter (c : Svc)
  /-- UPDATE_EXIT (R405): The UPDATE_EXIT command returns from UPDATE to SAFE-HALT. -/
  | updateExit (c : Svc)
  /-- MODULE_RESET (R407): The MODULE_RESET command performs an MRST. -/
  | moduleReset (c : Svc)
  /-- POWER_ON_RESET (R410): At power-up, or with the hold-up bus below 12.0 V, the whole module is reset and BOOT begins. -/
  | powerOnReset (p : PorOp)
  /-- RESET_N (R412): A low phase on RESET_N of 1 ms or longer holds the module in MRST until the rising edge. -/
  | resetN (lowUs : Nat)
  /-- RST_CMD_WRITE (R410): A write to RST_CMD requests a block reset of the named block. -/
  | rstCmdWrite (c : Svc) (value : Nat)
  /-- MEASURED_START_END (R405): Measured start ends in at least two spires, and the module enters SELFTEST. -/
  | measuredStartEnd (m : MeasuredStart)
  /-- BOOT_TIMEOUT (R405): Fewer than two spires end measured start within 3 s, and the module goes to SAFE-HALT. -/
  | bootTimeout (m : MeasuredStart)
  /-- SELFTEST_END (R405): SELFTEST ends, and the module moves to LOAD, SAFE-HALT or ISOLATED. -/
  | selftestEnd (t : SelftestOp)
  /-- SPIRE_IDLE (R415): A spire's engine goes idle and it enters the deepest allowed power state. -/
  | spireIdle (spire : Nat) (march : Option Nat)
  /-- SCHEDULED_WAKE (R415): The wake angle before a scheduled event is reached, and the spire wakes. -/
  | scheduledWake (spire : Nat) (late : Bool)
  /-- UNSCHEDULED_WAKE (R417): An unscheduled event wakes the spire at once. -/
  | unscheduledWake (spire : Nat) (task : Option Nat)
  /-- FEED_FAULT (R420): One feed leaves its range for 1 ms, and the module runs from the other. -/
  | feedFault (feed mv : Nat)
  /-- SUPPLY_WARNING (R420): Both feeds are below 16.0 V for 100 µs, and non-volatile writes are deferred. -/
  | supplyWarning (aMv bMv busMv : Nat)
  /-- SUPPLY_DIP (R420): A feed returns before the bus falls below 12.0 V, and the deferred writes are made. -/
  | supplyDip (aMv bMv busMv minMv us : Nat)
  /-- HOLDUP_TEST (R420): Every 24 h a controlled discharge step measures the hold-up time. -/
  | holdupTest (ms : Nat)
  /-- FEED_OVERVOLTAGE (R26): A feed rises above 36 V, and its switch disconnects it within 1 ms. -/
  | feedOvervoltage (feed mv : Nat)
  /-- FEED_RECONNECT (R26): A feed stays at or below 35 V for 10 ms and is reconnected. -/
  | feedReconnect (feed mv : Nat)
  /-- PWR_CTRL_CLR_CNT (R423): A write to PWR_CTRL.CLR_CNT clears the wake counts. -/
  | pwrCtrlClrCnt (c : Svc)
  /-- QUOTE_REQUEST (R432): A quote request by service, session frame or ring is queued for the Lantern. -/
  | quoteRequest (q : QuoteReq)
  /-- QUOTE_SIGN (R433): The Lantern builds and signs the quote at the head of its queue and sends it. -/
  | quoteSign
  /-- QUOTE_RESPONSE (R431): A received quote is verified for admission, boundary peers or pairing. -/
  | quoteResponse (q : QuoteMsg)
  /-- ATT_CTRL_CLR_CNT (R435): A write to ATT_CTRL.CLR_CNT clears the quote counters. -/
  | attCtrlClrCnt (c : Svc) (v : SpireVals)
  /-- UPD_BEGIN (R441): The UPD_BEGIN command erases the inactive slot and starts a download. -/
  | updBegin (c : Svc) (m : Manifest)
  /-- UPD_BLOCK (R442): An update block is written and read back in each spire at its NEXT. -/
  | updBlock (c : Svc) (b : UpdBlock)
  /-- UPD_STATUS (R440): The UPD_STATUS command returns the update state. -/
  | updStatus (c : Svc)
  /-- UPD_VERIFY (R439): The UPD_VERIFY command runs the package verification checks in all spires. -/
  | updVerify (c : Svc) (v : VerifyOp)
  /-- UPD_ACTIVATE (R443): The UPD_ACTIVATE command writes a trial boot record and performs MRST. -/
  | updActivate (c : Svc) (written : Nat)
  /-- UPD_CONFIRM (R446): The confirmed UPD_CONFIRM command makes the trial set confirmed. -/
  | updConfirm (c : Svc)
  /-- UPD_ABORT (R445): The UPD_ABORT command abandons the update, or reverts a trial. -/
  | updAbort (c : Svc)
  /-- TRIAL_DEADLINE (R445): COUNT reaches the trial DEADLINE, and the module reverts. -/
  | trialDeadline
  /-- OL_BEGIN (R448): The OL_BEGIN command starts taking a delta image for on-line change. -/
  | olBegin (c : Svc) (h : OlHeader)
  /-- STAGED_IMAGE_CHECK (R448): The merged staged image is checked, and STG_STATUS shows the result. -/
  | stagedImageCheck (docs : Three ImageDoc) (removed : List (Nat × Nat))
  /-- OL_ACTIVATE (R449): The confirmed OL_ACTIVATE command arms activation at target COUNT C. -/
  | olActivate (c : Svc) (count : Nat)
  /-- OL_ACTIVATION (R450): At the boundary that begins cycle C, the staged image is activated and the state converted. -/
  | olActivation
  /-- OL_CANCEL (R448): The OL_CANCEL command discards the staged image. -/
  | olCancel (c : Svc)
  /-- LOGIN (R456): A LOGIN message for a role is answered with a CHALLENGE. -/
  | login (l : LoginOp)
  /-- PROOF (R456): A PROOF message is checked and opens a service session, or counts a failure. -/
  | proof (p : ProofOp)
  /-- SVC_LOCKOUT_END (R456): The 60 s lockout of a role on a port ends. -/
  | svcLockoutEnd (port : Nat) (role : Role)
  /-- SERVICE_SESSION_TIMEOUT (R454): A service session without a request for 300 s is closed. -/
  | serviceSessionTimeout (sid : Nat)
  /-- ADMISSION_QUOTE_TIMEOUT (R300): The system master has obtained no quote from a node within 2 s of its request and broadcasts REFUSE with cause 3. -/
  | admissionQuoteTimeout (addr : Nat)
  /-- ANNOUNCE_PAUSE_END (R300): The 10 s pause in announcing after an admission timeout ends, and the node announces again. -/
  | announcePauseEnd (beta : Bool)
  /-- PEER_QUOTE_REQUEST (R171): The module sends its own nonce to a boundary peer or its pair partner to renew the quote that admission and pairing need within 600 s. -/
  | peerQuoteRequest (addr : Nat)
  /-- CONFIRMATION_EXPIRY (R153): 60 s pass without the confirming command, so the pending command (such as a KP_CMD UNBLOCK with BUSY at 1) lapses. -/
  | confirmationExpiry (code : Nat)
  /-- ALARM_SUBSCRIBE (R394): A service connection subscribes to alarms, naming the lowest priority it wants from the alarm queue. -/
  | alarmSubscribe (c : Svc) (prio : Nat)
  /-- ARP_AND_ECHO_REQUEST (R455): An ARP, IPv6 neighbour-discovery or ICMP/ICMPv6 echo request reaches one of a port's addresses and is answered. -/
  | arpAndEchoRequest (e : EchoOp)
  /-- LAMP_AMBER_END (R467): The 1 s all-amber lamp phase after entry to BOOT ends, and the lamps show the states they stand for. -/
  | lampAmberEnd
  /-- Q_PAGE_COPY (R194): The copy of one Q page into the task's Q copy completes and releases any engine write that waits as a QCOPY stall. -/
  | qPageCopy (spire q : Nat) (p : PortOp)
  /-- LEAD_FILL_START (R187): The angle PF_LEAD CAU before a release or sweep start angle is reached, and the pager may begin the lead fills of the first PF_DEPTH group pages. -/
  | leadFillStart (task : Nat)
deriving DecidableEq, Repr

end Sys2Proof
end

