-- ==== Sys2Proof/Config.lean ====
section
/-! DEFINITION. What the spec leaves open: constants without a body. No proof can see their values, so a claim
holds whatever they are (log entries 4, 20, 21 and 22). -/

namespace Sys2Proof.Config

/-- The n-th free value of a run: a value that the spec bounds at most and does not give (log entry 4). -/
opaque freeNat : Nat → Nat

/-- The number of a record code that the spec names without a number (spec/18 R392; log entry 20). -/
opaque recCode : Nat → Nat

/-- The class that REC_DIR gives a code number (spec/18 R394; log entry 20). -/
opaque recClass : Nat → Nat

/-- A record parameter that the firmware's code list defines (spec/18 R392; log entry 20): parameter 1 or 2 of a
code, given the unit and kind concerned. -/
opaque recParam : Nat → Nat → Nat → Nat → Nat

/-- The parameter layout number of a record code (spec/18 R403 REC_DIR.LAYOUT). -/
opaque recLayout : Nat → Nat

/-- Whether the running firmware writes the code (spec/18 R403 REC_DIR.DEFINED), beside the codes the spec gives. -/
opaque recDefined : Nat → Bool

/-- The code of an authorised service command that the spec names without a code (spec/18 R401 TARGET; log entry 20). -/
opaque cmdCode : Nat → Nat

/-- The AES key that an image wraps under the key-encryption key: key-encryption key, wrapped key (spec/03 R59; log
entry 21). -/
opaque unwrapKey : Nat → Nat → Nat

/-- Does a wrapped key unwrap under the key-encryption key (spec/03 R59, R70 check 0x1C; log entry 21)? -/
opaque unwrapOk : Nat → Nat → Bool

/-- SHA-256 of a byte string, as a 256-bit number (log entry 21). -/
opaque sha256 : List Byte → BitVec 256

/-- HMAC-SHA-256: key bytes, message bytes (log entry 21). -/
opaque hmac : List Byte → List Byte → BitVec 256

/-- AES-128-CMAC: 128-bit key, message bytes (log entry 21). -/
opaque cmac : Nat → List Byte → BitVec 128

/-- Does an ECDSA P-256 signature verify: public key, message bytes, signature (log entry 21). -/
opaque ecdsaOk : Nat → List Byte → Nat → Bool

/-- The ECDSA P-256 signature that a spire's secure element makes: spire, message bytes (log entry 21). -/
opaque ecdsaSign : Nat → List Byte → BitVec 512

/-- The attestation public key of spire `x` of the module with a serial number, as its certificate under the device
certificate authority with a public key states it: authority key, serial number, spire (spec/20 R431; log entry 21). -/
opaque attKey : Nat → Nat → Nat → Nat

/-- The digest of a stage (1 to 5) that the signed manifest of the firmware set delivered with the unit lists (spec/20 R425;
log entry 128): set, stage. -/
opaque delivered : Nat → Nat → BitVec 256

end Sys2Proof.Config
end

