-- ==== Sys2Proof/Machine/RegTable.lean ====
section
/-! DEFINITION. The registers of the module register space (spec/01 R27), one constant per row of the register
summary tables of spec/02 to spec/22, and one constant per field of their field tables. A register family (an
index k, a channel, a spire) has one constant with its strides. Blocks that exist per spire or per slice by
selector (spec/00 R12) hold copy c at address + c * 2^24; the logic-engine block holds its copies by offset. -/

namespace Sys2Proof.Machine

/-- Retention codes (spec/00 R13). -/
inductive Retention where
  | p | m | c | b | n
deriving DecidableEq, Repr

/-- One register or register family: the address of its first member, the first index, two counts and strides
(member (i, j) stands at addr + s1 * (i - i0) + s2 * j), its retention, its reset value and, per access code of
spec/00 R9, the mask of the bits that have it. -/
structure Reg where
  addr : Nat
  i0 : Nat
  n1 : Nat
  s1 : Nat
  n2 : Nat
  s2 : Nat
  ret : Retention
  reset : Nat
  rw : Nat
  w1c : Nat
  w1s : Nat
  rwl : Nat
  rwm : Nat
  rwa : Nat
deriving DecidableEq, Repr

/-- One field of a register: its lowest bit and its width. -/
structure Field where
  reg : Reg
  lo : Nat
  w : Nat
deriving DecidableEq, Repr

namespace R

/-- AT_LO, spec/02: AT bits [31:0]; a read latches AT_HI. -/
def AT_LO : Reg := ⟨0x20000, 0, 1, 0x1, 1, 0x10000000, .m, 0x0, 0x0, 0x0, 0x0, 0x0, 0x0, 0x0⟩
/-- AT_HI, spec/02: AT bits [63:32] as latched. -/
def AT_HI : Reg := ⟨0x20004, 0, 1, 0x1, 1, 0x10000000, .m, 0x0, 0x0, 0x0, 0x0, 0x0, 0x0, 0x0⟩
/-- TB_CFG, spec/02: Base cycle and round length. -/
def TB_CFG : Reg := ⟨0x20008, 0, 1, 0x1, 1, 0x10000000, .m, 0x0, 0x0, 0x0, 0x0, 0xFFF, 0x0, 0x0⟩
/-- WV_CFG, spec/02: References and lock ratio. -/
def WV_CFG : Reg := ⟨0x2000C, 0, 1, 0x1, 1, 0x10000000, .m, 0x0, 0x0, 0x0, 0x0, 0xFFFFFF3F, 0x0, 0x0⟩
/-- WV_STATUS, spec/02: Lock state, source, phase error. -/
def WV_STATUS : Reg := ⟨0x20010, 0, 1, 0x1, 1, 0x10000000, .m, 0x38, 0x0, 0x0, 0x0, 0x0, 0x0, 0x0⟩
/-- TB_MEAS, spec/02: Length of the last completed base cycle. -/
def TB_MEAS : Reg := ⟨0x20014, 0, 1, 0x1, 1, 0x10000000, .m, 0x0, 0x0, 0x0, 0x0, 0x0, 0x0, 0x0⟩
/-- HOLD_LIMIT, spec/02: Holdover time before WV_HOLDOVER_LONG. -/
def HOLD_LIMIT : Reg := ⟨0x20018, 0, 1, 0x1, 1, 0x10000000, .m, 0x0, 0x0, 0x0, 0x0, 0x7FF, 0x0, 0x0⟩
/-- ANCHOR_CFG, spec/02: Sample-grid anchor. -/
def ANCHOR_CFG : Reg := ⟨0x2001C, 0, 1, 0x1, 1, 0x10000000, .m, 0x0, 0x0, 0x0, 0x0, 0xFF07, 0x0, 0x0⟩
/-- REFk_PHASE, spec/02: Local phase of reference k, k = 0 to 4. -/
def REF_PHASE : Reg := ⟨0x20020, 0, 5, 0x8, 1, 0x10000000, .m, 0x0, 0x0, 0x0, 0x0, 0x0, 0x0, 0x0⟩
/-- REFk_PERIOD, spec/02: Period of reference k. -/
def REF_PERIOD : Reg := ⟨0x20024, 0, 5, 0x8, 1, 0x10000000, .m, 0x0, 0x0, 0x0, 0x0, 0x0, 0x0, 0x0⟩
/-- CIVIL_LO, spec/02: Civil time bits [31:0]; a read latches CIVIL_HI. -/
def CIVIL_LO : Reg := ⟨0x20050, 0, 1, 0x1, 1, 0x10000000, .m, 0x0, 0x0, 0x0, 0x0, 0x0, 0x0, 0x0⟩
/-- CIVIL_HI, spec/02: Civil time bits [63:32] as latched. -/
def CIVIL_HI : Reg := ⟨0x20054, 0, 1, 0x1, 1, 0x10000000, .m, 0x0, 0x0, 0x0, 0x0, 0x0, 0x0, 0x0⟩
/-- CIVIL_STATUS, spec/02: Civil-time source and validity. -/
def CIVIL_STATUS : Reg := ⟨0x20058, 0, 1, 0x1, 1, 0x10000000, .m, 0x0, 0x0, 0x8, 0x0, 0x0, 0x0, 0x0⟩
/-- AT_MARK_LO, spec/02: Stored AT mark, count bits [31:0]. -/
def AT_MARK_LO : Reg := ⟨0x2005C, 0, 1, 0x1, 1, 0x10000000, .n, 0x0, 0x0, 0x0, 0x0, 0x0, 0x0, 0x0⟩
/-- AT_MARK_HI, spec/02: Stored AT mark, count bits [47:32]. -/
def AT_MARK_HI : Reg := ⟨0x20060, 0, 1, 0x1, 1, 0x10000000, .n, 0x0, 0x0, 0x0, 0x0, 0x0, 0x0, 0x0⟩
/-- WV_EVENTS, spec/02: Reference-loss and holdover counts. -/
def WV_EVENTS : Reg := ⟨0x20064, 0, 1, 0x1, 1, 0x10000000, .m, 0x0, 0x0, 0x0, 0x0, 0x0, 0x0, 0x0⟩
/-- IMG_ID_LO, spec/03: ID_HASH bits [31:0] of the active image. -/
def IMG_ID_LO : Reg := ⟨0x10100, 0, 1, 0x1, 1, 0x10000000, .m, 0x0, 0x0, 0x0, 0x0, 0x0, 0x0, 0x0⟩
/-- IMG_ID_HI, spec/03: ID_HASH bits [63:32]. -/
def IMG_ID_HI : Reg := ⟨0x10104, 0, 1, 0x1, 1, 0x10000000, .m, 0x0, 0x0, 0x0, 0x0, 0x0, 0x0, 0x0⟩
/-- IMG_VERSION, spec/03: VERSION of the active image. -/
def IMG_VERSION : Reg := ⟨0x10108, 0, 1, 0x1, 1, 0x10000000, .m, 0x0, 0x0, 0x0, 0x0, 0x0, 0x0, 0x0⟩
/-- IMG_STATUS, spec/03: Load result. -/
def IMG_STATUS : Reg := ⟨0x1010C, 0, 1, 0x1, 1, 0x10000000, .m, 0x0, 0x0, 0x0, 0x0, 0x0, 0x0, 0x0⟩
/-- IMG_FAIL_OFFSET, spec/03: Byte offset of the first field in error. -/
def IMG_FAIL_OFFSET : Reg := ⟨0x10110, 0, 1, 0x1, 1, 0x10000000, .m, 0x0, 0x0, 0x0, 0x0, 0x0, 0x0, 0x0⟩
/-- STG_ID_LO, spec/03: ID_HASH bits [31:0] of the staged image. -/
def STG_ID_LO : Reg := ⟨0x10114, 0, 1, 0x1, 1, 0x10000000, .m, 0x0, 0x0, 0x0, 0x0, 0x0, 0x0, 0x0⟩
/-- STG_ID_HI, spec/03: ID_HASH bits [63:32] of the staged image. -/
def STG_ID_HI : Reg := ⟨0x10118, 0, 1, 0x1, 1, 0x10000000, .m, 0x0, 0x0, 0x0, 0x0, 0x0, 0x0, 0x0⟩
/-- STG_STATUS, spec/03: Check result of the staged image. -/
def STG_STATUS : Reg := ⟨0x1011C, 0, 1, 0x1, 1, 0x10000000, .m, 0x0, 0x0, 0x0, 0x0, 0x0, 0x0, 0x0⟩
/-- IMGKEY_STATE, spec/03: State of the four image-key slots. -/
def IMGKEY_STATE : Reg := ⟨0x10120, 0, 1, 0x1, 1, 0x10000000, .n, 0xFF00, 0x0, 0x0, 0x0, 0x0, 0x0, 0x0⟩
/-- LE_STATUS, spec/04: Run state, mask depth, EN, element type. -/
def LE_STATUS : Reg := ⟨0x30000, 0, 3, 0x4000, 1, 0x10000000, .c, 0x0, 0x0, 0x0, 0x0, 0x0, 0x0, 0x0⟩
/-- LE_ERROR, spec/04: Error cause and lane. -/
def LE_ERROR : Reg := ⟨0x30004, 0, 3, 0x4000, 1, 0x10000000, .c, 0x0, 0x0, 0x0, 0x0, 0x0, 0x0, 0x0⟩
/-- LE_ERR_PC, spec/04: Instruction address of the error. -/
def LE_ERR_PC : Reg := ⟨0x30008, 0, 3, 0x4000, 1, 0x10000000, .c, 0x0, 0x0, 0x0, 0x0, 0x0, 0x0, 0x0⟩
/-- LE_ERR_GROUP, spec/04: Instance group of the error. -/
def LE_ERR_GROUP : Reg := ⟨0x3000C, 0, 3, 0x4000, 1, 0x10000000, .c, 0x0, 0x0, 0x0, 0x0, 0x0, 0x0, 0x0⟩
/-- LE_CLK_LAST, spec/04: Instruction clocks in the last completed base cycle. -/
def LE_CLK_LAST : Reg := ⟨0x30010, 0, 3, 0x4000, 1, 0x10000000, .c, 0x0, 0x0, 0x0, 0x0, 0x0, 0x0, 0x0⟩
/-- LE_CLK_MAX, spec/04: Highest LE_CLK_LAST since clear. -/
def LE_CLK_MAX : Reg := ⟨0x30014, 0, 3, 0x4000, 1, 0x10000000, .c, 0x0, 0x0, 0x0, 0x0, 0x0, 0x0, 0x0⟩
/-- LE_CTRL, spec/04: Counter clear. -/
def LE_CTRL : Reg := ⟨0x30018, 0, 3, 0x4000, 1, 0x10000000, .c, 0x0, 0x0, 0x0, 0x3, 0x0, 0x0, 0x0⟩
/-- LE_SAT_CNT, spec/04: Word saturations. -/
def LE_SAT_CNT : Reg := ⟨0x3001C, 0, 3, 0x4000, 1, 0x10000000, .c, 0x0, 0x0, 0x0, 0x0, 0x0, 0x0, 0x0⟩
/-- LE_PRESET_CNT, spec/04: Timer presets out of range. -/
def LE_PRESET_CNT : Reg := ⟨0x30020, 0, 3, 0x4000, 1, 0x10000000, .c, 0x0, 0x0, 0x0, 0x0, 0x0, 0x0, 0x0⟩
/-- LE_NOW, spec/04: NOW of the running or last task. -/
def LE_NOW : Reg := ⟨0x30024, 0, 3, 0x4000, 1, 0x10000000, .c, 0x0, 0x0, 0x0, 0x0, 0x0, 0x0, 0x0⟩
/-- LE_TYPES, spec/04: Element types. -/
def LE_TYPES : Reg := ⟨0x30028, 0, 3, 0x4000, 1, 0x10000000, .m, 0x0, 0x0, 0x0, 0x0, 0x7FF, 0x0, 0x0⟩
/-- LE_INSTANCES, spec/04: Instances. -/
def LE_INSTANCES : Reg := ⟨0x3002C, 0, 3, 0x4000, 1, 0x10000000, .m, 0x0, 0x0, 0x0, 0x0, 0x1FFFF, 0x0, 0x0⟩
/-- LE_TIMERS, spec/04: Timers in use. -/
def LE_TIMERS : Reg := ⟨0x30030, 0, 3, 0x4000, 1, 0x10000000, .m, 0x0, 0x0, 0x0, 0x0, 0x3FFFF, 0x0, 0x0⟩
/-- LE_CODE_LEN, spec/04: Logic code length. -/
def LE_CODE_LEN : Reg := ⟨0x30034, 0, 3, 0x4000, 1, 0x10000000, .m, 0x0, 0x0, 0x0, 0x0, 0x1FFFFF, 0x0, 0x0⟩
/-- FORCEk, spec/04: Force k, k = 0 to 31. -/
def FORCE : Reg := ⟨0x30100, 0, 32, 0x4, 3, 0x4000, .b, 0x0, 0x0, 0x0, 0x0, 0x0, 0x81FFFFFF, 0x0⟩
/-- FORCE_COUNT, spec/04: Forces standing. -/
def FORCE_COUNT : Reg := ⟨0x30180, 0, 3, 0x4000, 1, 0x10000000, .b, 0x0, 0x0, 0x0, 0x0, 0x0, 0x0, 0x0⟩
/-- SCH_CFG, spec/05: Model, task counts, seal angle. -/
def SCH_CFG : Reg := ⟨0x30200, 0, 3, 0x4000, 1, 0x10000000, .m, 0x0, 0x0, 0x0, 0x0, 0xFFFF03FF, 0x0, 0x0⟩
/-- SWEEP_CFG, spec/05: Sweep bound and angle counts. -/
def SWEEP_CFG : Reg := ⟨0x30204, 0, 3, 0x4000, 1, 0x10000000, .m, 0x0, 0x0, 0x0, 0x0, 0x1FF, 0x0, 0x0⟩
/-- SWEEP_ANG0, spec/05: Sweep start angles 0 and 1. -/
def SWEEP_ANG0 : Reg := ⟨0x30208, 0, 3, 0x4000, 1, 0x10000000, .m, 0x0, 0x0, 0x0, 0x0, 0xFFFFFFFF, 0x0, 0x0⟩
/-- SWEEP_ANG1, spec/05: Sweep start angles 2 and 3. -/
def SWEEP_ANG1 : Reg := ⟨0x3020C, 0, 3, 0x4000, 1, 0x10000000, .m, 0x0, 0x0, 0x0, 0x0, 0xFFFFFFFF, 0x0, 0x0⟩
/-- SWEEP_ANG2, spec/05: Sweep output angles 0 and 1. -/
def SWEEP_ANG2 : Reg := ⟨0x30210, 0, 3, 0x4000, 1, 0x10000000, .m, 0x0, 0x0, 0x0, 0x0, 0xFFFFFFFF, 0x0, 0x0⟩
/-- SWEEP_ANG3, spec/05: Sweep output angles 2 and 3. -/
def SWEEP_ANG3 : Reg := ⟨0x30214, 0, 3, 0x4000, 1, 0x10000000, .m, 0x0, 0x0, 0x0, 0x0, 0xFFFFFFFF, 0x0, 0x0⟩
/-- SCH_STATUS, spec/05: Running task, seal and hold state. -/
def SCH_STATUS : Reg := ⟨0x30218, 0, 3, 0x4000, 1, 0x10000000, .c, 0x1F, 0x0, 0x0, 0x0, 0x0, 0x0, 0x0⟩
/-- SCH_READY, spec/05: Ready tasks. -/
def SCH_READY : Reg := ⟨0x3021C, 0, 3, 0x4000, 1, 0x10000000, .c, 0x0, 0x0, 0x0, 0x0, 0x0, 0x0, 0x0⟩
/-- WDOG_STATUS, spec/05: Watchdog trip. -/
def WDOG_STATUS : Reg := ⟨0x30220, 0, 3, 0x4000, 1, 0x10000000, .c, 0x1F, 0x0, 0x0, 0x0, 0x0, 0x0, 0x0⟩
/-- WDOG_GROUP, spec/05: Group reached at trip. -/
def WDOG_GROUP : Reg := ⟨0x30224, 0, 3, 0x4000, 1, 0x10000000, .c, 0x0, 0x0, 0x0, 0x0, 0x0, 0x0, 0x0⟩
/-- SCH_EVENTS, spec/05: Missed seals, held releases. -/
def SCH_EVENTS : Reg := ⟨0x30228, 0, 3, 0x4000, 1, 0x10000000, .c, 0x0, 0x0, 0x0, 0x0, 0x0, 0x0, 0x0⟩
/-- SCH_CTRL, spec/05: Statistics clear. -/
def SCH_CTRL : Reg := ⟨0x3022C, 0, 3, 0x4000, 1, 0x10000000, .c, 0x0, 0x0, 0x0, 0x1, 0x0, 0x0, 0x0⟩
/-- SWP_LAST, spec/05: Length of the last sweep. -/
def SWP_LAST : Reg := ⟨0x30230, 0, 3, 0x4000, 1, 0x10000000, .c, 0x0, 0x0, 0x0, 0x0, 0x0, 0x0, 0x0⟩
/-- SWP_MAX, spec/05: Longest sweep since clear. -/
def SWP_MAX : Reg := ⟨0x30234, 0, 3, 0x4000, 1, 0x10000000, .c, 0x0, 0x0, 0x0, 0x0, 0x0, 0x0, 0x0⟩
/-- SWP_STALL, spec/05: Stall clocks of the last sweep. -/
def SWP_STALL : Reg := ⟨0x30238, 0, 3, 0x4000, 1, 0x10000000, .c, 0x0, 0x0, 0x0, 0x0, 0x0, 0x0, 0x0⟩
/-- SWP_CLK, spec/05: Instruction clocks of the last sweep. -/
def SWP_CLK : Reg := ⟨0x3023C, 0, 3, 0x4000, 1, 0x10000000, .c, 0x0, 0x0, 0x0, 0x0, 0x0, 0x0, 0x0⟩
/-- PTn_CFG, spec/05: Period, phase, priority of Pn, n = 0 to 7. -/
def PT_CFG : Reg := ⟨0x30300, 0, 8, 0x20, 3, 0x4000, .m, 0x0, 0x0, 0x0, 0x0, 0x801F007F, 0x0, 0x0⟩
/-- PTn_ANG_A, spec/05: Input and release angles. -/
def PT_ANG_A : Reg := ⟨0x30304, 0, 8, 0x20, 3, 0x4000, .m, 0x0, 0x0, 0x0, 0x0, 0xFFFFFFFF, 0x0, 0x0⟩
/-- PTn_ANG_B, spec/05: Deadline and output angles. -/
def PT_ANG_B : Reg := ⟨0x30308, 0, 8, 0x20, 3, 0x4000, .m, 0x0, 0x0, 0x0, 0x0, 0xFFFFFFFF, 0x0, 0x0⟩
/-- PTn_GROUPS, spec/05: Group run. -/
def PT_GROUPS : Reg := ⟨0x3030C, 0, 8, 0x20, 3, 0x4000, .m, 0x0, 0x0, 0x0, 0x0, 0x3FFF1FFF, 0x0, 0x0⟩
/-- PTn_LAST, spec/05: Last finial angle and slack. -/
def PT_LAST : Reg := ⟨0x30310, 0, 8, 0x20, 3, 0x4000, .c, 0x0, 0x0, 0x0, 0x0, 0x0, 0x0, 0x0⟩
/-- PTn_STALL, spec/05: Stall clocks of the last execution. -/
def PT_STALL : Reg := ⟨0x30314, 0, 8, 0x20, 3, 0x4000, .c, 0x0, 0x0, 0x0, 0x0, 0x0, 0x0, 0x0⟩
/-- PTn_CLK, spec/05: Instruction clocks of the last execution. -/
def PT_CLK : Reg := ⟨0x30318, 0, 8, 0x20, 3, 0x4000, .c, 0x0, 0x0, 0x0, 0x0, 0x0, 0x0, 0x0⟩
/-- PTn_CNT, spec/05: Releases and pre-emptions. -/
def PT_CNT : Reg := ⟨0x3031C, 0, 8, 0x20, 3, 0x4000, .c, 0x0, 0x0, 0x0, 0x0, 0x0, 0x0, 0x0⟩
/-- ETm_CFG, spec/05: Trigger and priority of Em, m = 0 to 15. -/
def ET_CFG : Reg := ⟨0x30400, 0, 16, 0x20, 3, 0x4000, .m, 0x0, 0x0, 0x0, 0x0, 0x801F037F, 0x0, 0x0⟩
/-- ETm_TIME, spec/05: Relative deadline and separation. -/
def ET_TIME : Reg := ⟨0x30404, 0, 16, 0x20, 3, 0x4000, .m, 0x0, 0x0, 0x0, 0x0, 0xFFFFFFFF, 0x0, 0x0⟩
/-- ETm_OUT, spec/05: Output angle. -/
def ET_OUT : Reg := ⟨0x30408, 0, 16, 0x20, 3, 0x4000, .m, 0x0, 0x0, 0x0, 0x0, 0xFFFF, 0x0, 0x0⟩
/-- ETm_GROUPS, spec/05: Group run. -/
def ET_GROUPS : Reg := ⟨0x3040C, 0, 16, 0x20, 3, 0x4000, .m, 0x0, 0x0, 0x0, 0x0, 0x3FFF1FFF, 0x0, 0x0⟩
/-- ETm_LAST, spec/05: Last finial angle and slack. -/
def ET_LAST : Reg := ⟨0x30410, 0, 16, 0x20, 3, 0x4000, .c, 0x0, 0x0, 0x0, 0x0, 0x0, 0x0, 0x0⟩
/-- ETm_STALL, spec/05: Stall clocks of the last execution. -/
def ET_STALL : Reg := ⟨0x30414, 0, 16, 0x20, 3, 0x4000, .c, 0x0, 0x0, 0x0, 0x0, 0x0, 0x0, 0x0⟩
/-- ETm_CLK, spec/05: Instruction clocks of the last execution. -/
def ET_CLK : Reg := ⟨0x30418, 0, 16, 0x20, 3, 0x4000, .c, 0x0, 0x0, 0x0, 0x0, 0x0, 0x0, 0x0⟩
/-- ETm_CNT, spec/05: Releases and merged triggers. -/
def ET_CNT : Reg := ⟨0x3041C, 0, 16, 0x20, 3, 0x4000, .c, 0x0, 0x0, 0x0, 0x0, 0x0, 0x0, 0x0⟩
/-- KP_TOKENS, spec/06: Tokens defined. -/
def KP_TOKENS : Reg := ⟨0x40000, 0, 3, 0x1000000, 1, 0x10000000, .m, 0x0, 0x0, 0x0, 0x0, 0x1FFFF, 0x0, 0x0⟩
/-- KP_TRANS, spec/06: Transaction slots and routes. -/
def KP_TRANS : Reg := ⟨0x40004, 0, 3, 0x1000000, 1, 0x10000000, .m, 0x0, 0x0, 0x0, 0x0, 0xFFFF1FFF, 0x0, 0x0⟩
/-- KP_LOCKM, spec/06: Effective compatibility matrix. -/
def KP_LOCKM : Reg := ⟨0x40008, 0, 3, 0x1000000, 1, 0x10000000, .m, 0x0, 0x0, 0x0, 0x0, 0x1FFFFFF, 0x0, 0x0⟩
/-- KP_STATUS, spec/06: Open transactions, audit and intake state. -/
def KP_STATUS : Reg := ⟨0x4000C, 0, 3, 0x1000000, 1, 0x10000000, .c, 0x0, 0x0, 0x0, 0x0, 0x0, 0x0, 0x0⟩
/-- KP_AUDIT, spec/06: Result of the last audit. -/
def KP_AUDIT : Reg := ⟨0x40010, 0, 3, 0x1000000, 1, 0x10000000, .c, 0x0, 0x0, 0x0, 0x0, 0x0, 0x0, 0x0⟩
/-- KP_AUDIT_CLK, spec/06: Clocks of the last audit. -/
def KP_AUDIT_CLK : Reg := ⟨0x40014, 0, 3, 0x1000000, 1, 0x10000000, .c, 0x0, 0x0, 0x0, 0x0, 0x0, 0x0, 0x0⟩
/-- KP_AUDIT_AT, spec/06: Base cycle of the last audit. -/
def KP_AUDIT_AT : Reg := ⟨0x40018, 0, 3, 0x1000000, 1, 0x10000000, .c, 0x0, 0x0, 0x0, 0x0, 0x0, 0x0, 0x0⟩
/-- KP_CTRL, spec/06: Counter clear. -/
def KP_CTRL : Reg := ⟨0x4001C, 0, 3, 0x1000000, 1, 0x10000000, .c, 0x0, 0x0, 0x0, 0x1, 0x0, 0x0, 0x0⟩
/-- KP_STATEk, spec/06: Tokens in state k at the last audit, k = 0 to 7. -/
def KP_STATE : Reg := ⟨0x40020, 0, 8, 0x4, 3, 0x1000000, .c, 0x0, 0x0, 0x0, 0x0, 0x0, 0x0, 0x0⟩
/-- KP_RESk, spec/06: Operations with result code k, k = 0 to 7. -/
def KP_RES : Reg := ⟨0x40040, 0, 8, 0x4, 3, 0x1000000, .c, 0x0, 0x0, 0x0, 0x0, 0x0, 0x0, 0x0⟩
/-- KP_PEAK, spec/06: Highest open transactions and share count. -/
def KP_PEAK : Reg := ⟨0x40060, 0, 3, 0x1000000, 1, 0x10000000, .c, 0x0, 0x0, 0x0, 0x0, 0x0, 0x0, 0x0⟩
/-- KP_TSEL, spec/06: Token selector for inspection. -/
def KP_TSEL : Reg := ⟨0x40080, 0, 3, 0x1000000, 1, 0x10000000, .c, 0x0, 0xFFFF, 0x0, 0x0, 0x0, 0x0, 0x0⟩
/-- KP_TQq, spec/06: Quarter q of the latched token, q = 0 to 3. -/
def KP_TQ : Reg := ⟨0x40084, 0, 4, 0x4, 3, 0x1000000, .c, 0x0, 0x0, 0x0, 0x0, 0x0, 0x0, 0x0⟩
/-- KP_XSEL, spec/06: Transaction selector for inspection. -/
def KP_XSEL : Reg := ⟨0x400A0, 0, 3, 0x1000000, 1, 0x10000000, .c, 0x0, 0xFFF, 0x0, 0x0, 0x0, 0x0, 0x0⟩
/-- KP_XWINw, spec/06: Word w of the latched slot, w = 0 to 63. -/
def KP_XWIN : Reg := ⟨0x40100, 0, 64, 0x4, 3, 0x1000000, .c, 0x0, 0x0, 0x0, 0x0, 0x0, 0x0, 0x0⟩
/-- KP_CMD, spec/06: Maintenance block command. -/
def KP_CMD : Reg := ⟨0x40200, 0, 3, 0x1000000, 1, 0x10000000, .m, 0x0, 0x0, 0x0, 0x0, 0x0, 0x0, 0xFFFFF⟩
/-- KP_CMD_RES, spec/06: Result of the last command. -/
def KP_CMD_RES : Reg := ⟨0x40204, 0, 3, 0x1000000, 1, 0x10000000, .m, 0x0, 0x0, 0x0, 0x0, 0x0, 0x0, 0x0⟩
/-- BT_CFG, spec/07: Peers and cycle timeouts. -/
def BT_CFG : Reg := ⟨0x40400, 0, 3, 0x1000000, 1, 0x10000000, .m, 0x0, 0x0, 0x0, 0x0, 0x1FFFFF1F, 0x0, 0x0⟩
/-- BT_LONG, spec/07: Long-partition time. -/
def BT_LONG : Reg := ⟨0x40404, 0, 3, 0x1000000, 1, 0x10000000, .m, 0x0, 0x0, 0x0, 0x0, 0xFFF, 0x0, 0x0⟩
/-- BT_STATUS, spec/07: Transfer entries and stalled elements. -/
def BT_STATUS : Reg := ⟨0x40408, 0, 3, 0x1000000, 1, 0x10000000, .c, 0x0, 0x0, 0x0, 0x0, 0x0, 0x0, 0x0⟩
/-- BT_RECON, spec/07: Tokens with RECON. -/
def BT_RECON : Reg := ⟨0x4040C, 0, 3, 0x1000000, 1, 0x10000000, .c, 0x0, 0x0, 0x0, 0x0, 0x0, 0x0, 0x0⟩
/-- BT_RXCNT, spec/07: Records taken in. -/
def BT_RXCNT : Reg := ⟨0x40410, 0, 3, 0x1000000, 1, 0x10000000, .c, 0x0, 0x0, 0x0, 0x0, 0x0, 0x0, 0x0⟩
/-- BT_TXCNT, spec/07: Records sent. -/
def BT_TXCNT : Reg := ⟨0x40414, 0, 3, 0x1000000, 1, 0x10000000, .c, 0x0, 0x0, 0x0, 0x0, 0x0, 0x0, 0x0⟩
/-- BT_REJ, spec/07: Discards by cause. -/
def BT_REJ : Reg := ⟨0x40418, 0, 3, 0x1000000, 1, 0x10000000, .c, 0x0, 0x0, 0x0, 0x0, 0x0, 0x0, 0x0⟩
/-- BT_REJ2, spec/07: Further discards by cause. -/
def BT_REJ2 : Reg := ⟨0x4041C, 0, 3, 0x1000000, 1, 0x10000000, .c, 0x0, 0x0, 0x0, 0x0, 0x0, 0x0, 0x0⟩
/-- BT_TOCNT, spec/07: Expiries and withdrawals. -/
def BT_TOCNT : Reg := ⟨0x40420, 0, 3, 0x1000000, 1, 0x10000000, .c, 0x0, 0x0, 0x0, 0x0, 0x0, 0x0, 0x0⟩
/-- BT_AUTH_RES, spec/07: Last authorised command. -/
def BT_AUTH_RES : Reg := ⟨0x40424, 0, 3, 0x1000000, 1, 0x10000000, .m, 0x0, 0x0, 0x0, 0x0, 0x0, 0x0, 0x0⟩
/-- BT_CTRL, spec/07: Counter clear. -/
def BT_CTRL : Reg := ⟨0x40428, 0, 3, 0x1000000, 1, 0x10000000, .c, 0x0, 0x0, 0x0, 0x1, 0x0, 0x0, 0x0⟩
/-- BT_EPOCH, spec/07: Own load epoch. -/
def BT_EPOCH : Reg := ⟨0x4042C, 0, 3, 0x1000000, 1, 0x10000000, .n, 0x0, 0x0, 0x0, 0x0, 0x0, 0x0, 0x0⟩
/-- BT_PEERk, spec/07: Peer k state, k = 0 to 15. -/
def BT_PEER : Reg := ⟨0x40440, 0, 16, 0x8, 3, 0x1000000, .m, 0x0, 0x0, 0x0, 0x0, 0x0, 0x0, 0x0⟩
/-- BT_PEER_EPk, spec/07: Peer k epochs. -/
def BT_PEER_EP : Reg := ⟨0x40444, 0, 16, 0x8, 3, 0x1000000, .m, 0x0, 0x0, 0x0, 0x0, 0x0, 0x0, 0x0⟩
/-- PG_CFG, spec/09: Prefetch depth and lead. -/
def PG_CFG : Reg := ⟨0x50000, 0, 3, 0x1000000, 1, 0x10000000, .m, 0x0, 0x0, 0x0, 0x0, 0xFFFF000F, 0x0, 0x0⟩
/-- PG_STATUS, spec/09: Slots pinned and free. -/
def PG_STATUS : Reg := ⟨0x50004, 0, 3, 0x1000000, 1, 0x10000000, .c, 0x0, 0x0, 0x0, 0x0, 0x0, 0x0, 0x0⟩
/-- PG_FILLS, spec/09: Pages filled. -/
def PG_FILLS : Reg := ⟨0x50008, 0, 3, 0x1000000, 1, 0x10000000, .c, 0x0, 0x0, 0x0, 0x0, 0x0, 0x0, 0x0⟩
/-- PG_WBACK, spec/09: Frame parts written back. -/
def PG_WBACK : Reg := ⟨0x5000C, 0, 3, 0x1000000, 1, 0x10000000, .c, 0x0, 0x0, 0x0, 0x0, 0x0, 0x0, 0x0⟩
/-- PG_DEMAND, spec/09: Demand fetches. -/
def PG_DEMAND : Reg := ⟨0x50010, 0, 3, 0x1000000, 1, 0x10000000, .c, 0x0, 0x0, 0x0, 0x0, 0x0, 0x0, 0x0⟩
/-- PG_ST_c, spec/09: Stall clocks by cause: LATE, DEMAND, SLOT, FENCE, QCOPY for c = 0 to 4. -/
def PG_ST : Reg := ⟨0x50014, 0, 5, 0x4, 3, 0x1000000, .c, 0x0, 0x0, 0x0, 0x0, 0x0, 0x0, 0x0⟩
/-- PG_SNAP, spec/09: Last seal. -/
def PG_SNAP : Reg := ⟨0x50028, 0, 3, 0x1000000, 1, 0x10000000, .c, 0x0, 0x0, 0x0, 0x0, 0x0, 0x0, 0x0⟩
/-- PG_DRAM_ECC, spec/09: DRAM ECC events. -/
def PG_DRAM_ECC : Reg := ⟨0x5002C, 0, 3, 0x1000000, 1, 0x10000000, .c, 0x0, 0x0, 0x0, 0x0, 0x0, 0x0, 0x0⟩
/-- PG_CTRL, spec/09: Counter clear. -/
def PG_CTRL : Reg := ⟨0x50030, 0, 3, 0x1000000, 1, 0x10000000, .c, 0x0, 0x0, 0x0, 0x1, 0x0, 0x0, 0x0⟩
/-- BANK_USEk, spec/09: Use of banks 4k to 4k + 3, k = 0 to 5. -/
def BANK_USE : Reg := ⟨0x50040, 0, 6, 0x4, 3, 0x1000000, .m, 0x0, 0x0, 0x0, 0x0, 0xFFFFFFFF, 0x0, 0x0⟩
/-- BANKb_STAT, spec/09: State of bank b, b = 0 to 23. -/
def BANK_STAT : Reg := ⟨0x50080, 0, 24, 0x4, 3, 0x1000000, .c, 0x0, 0x0, 0x0, 0x0, 0x0, 0x0, 0x0⟩
/-- MT_CTRL, spec/09: March test request. -/
def MT_CTRL : Reg := ⟨0x50100, 0, 3, 0x1000000, 1, 0x10000000, .m, 0x0, 0x0, 0x0, 0x0, 0x0, 0x8000131F, 0x0⟩
/-- MT_STATUS, spec/09: March test state and result. -/
def MT_STATUS : Reg := ⟨0x50104, 0, 3, 0x1000000, 1, 0x10000000, .c, 0x0, 0x0, 0x0, 0x0, 0x0, 0x0, 0x0⟩
/-- MT_AUTO, spec/09: Automatic test period. -/
def MT_AUTO : Reg := ⟨0x50108, 0, 3, 0x1000000, 1, 0x10000000, .m, 0x0, 0x0, 0x0, 0x0, 0x7FF, 0x0, 0x0⟩
/-- MT_PASS, spec/09: Automatic passes completed. -/
def MT_PASS : Reg := ⟨0x5010C, 0, 3, 0x1000000, 1, 0x10000000, .c, 0x0, 0x0, 0x0, 0x0, 0x0, 0x0, 0x0⟩
/-- BF_STATUS, spec/10: Spire and slice states. -/
def BF_STATUS : Reg := ⟨0x60000, 0, 3, 0x1000000, 1, 0x10000000, .m, 0x0, 0x0, 0x0, 0x0, 0x0, 0x0, 0x0⟩
/-- BF_CFG, spec/10: Lag limits. -/
def BF_CFG : Reg := ⟨0x60004, 0, 3, 0x1000000, 1, 0x10000000, .m, 0x0, 0x0, 0x0, 0x0, 0x7FF07FF, 0x0, 0x0⟩
/-- BF_FIFO, spec/10: Delay-register fill. -/
def BF_FIFO : Reg := ⟨0x60008, 0, 3, 0x1000000, 1, 0x10000000, .m, 0x0, 0x0, 0x0, 0x0, 0x0, 0x0, 0x0⟩
/-- BF_FIFO_MAX, spec/10: Highest fill since clear. -/
def BF_FIFO_MAX : Reg := ⟨0x6000C, 0, 3, 0x1000000, 1, 0x10000000, .m, 0x0, 0x0, 0x0, 0x0, 0x0, 0x0, 0x0⟩
/-- BF_MM, spec/10: Last non-PASS verdict. -/
def BF_MM : Reg := ⟨0x60010, 0, 3, 0x1000000, 1, 0x10000000, .m, 0x0, 0x0, 0x0, 0x0, 0x0, 0x0, 0x0⟩
/-- BF_MM_POS, spec/10: Position of that triple. -/
def BF_MM_POS : Reg := ⟨0x60014, 0, 3, 0x1000000, 1, 0x10000000, .m, 0x0, 0x0, 0x0, 0x0, 0x0, 0x0, 0x0⟩
/-- BF_MMk_HI, spec/10: Triple of spire k, bits [63:32], k = 0 to 2 for A to C. -/
def BF_MM_HI : Reg := ⟨0x60018, 0, 3, 0x8, 3, 0x1000000, .m, 0x0, 0x0, 0x0, 0x0, 0x0, 0x0, 0x0⟩
/-- BF_MMk_LO, spec/10: Triple of spire k, bits [31:0]. -/
def BF_MM_LO : Reg := ⟨0x6001C, 0, 3, 0x8, 3, 0x1000000, .m, 0x0, 0x0, 0x0, 0x0, 0x0, 0x0, 0x0⟩
/-- BF_MM_AT_LO, spec/10: AT of the verdict, bits [31:0]. -/
def BF_MM_AT_LO : Reg := ⟨0x60030, 0, 3, 0x1000000, 1, 0x10000000, .m, 0x0, 0x0, 0x0, 0x0, 0x0, 0x0, 0x0⟩
/-- BF_MM_AT_HI, spec/10: AT of the verdict, bits [63:32]. -/
def BF_MM_AT_HI : Reg := ⟨0x60034, 0, 3, 0x1000000, 1, 0x10000000, .m, 0x0, 0x0, 0x0, 0x0, 0x0, 0x0, 0x0⟩
/-- BF_RECS, spec/10: Triples compared. -/
def BF_RECS : Reg := ⟨0x60038, 0, 3, 0x1000000, 1, 0x10000000, .m, 0x0, 0x0, 0x0, 0x0, 0x0, 0x0, 0x0⟩
/-- BF_BARRIERS, spec/10: Barriers completed. -/
def BF_BARRIERS : Reg := ⟨0x6003C, 0, 3, 0x1000000, 1, 0x10000000, .m, 0x0, 0x0, 0x0, 0x0, 0x0, 0x0, 0x0⟩
/-- BF_WAITx, spec/10: Wait clocks of spire x, x = 0 to 2. -/
def BF_WAIT : Reg := ⟨0x60040, 0, 3, 0x4, 3, 0x1000000, .m, 0x0, 0x0, 0x0, 0x0, 0x0, 0x0, 0x0⟩
/-- BF_SIGWIN, spec/10: Signature windows compared. -/
def BF_SIGWIN : Reg := ⟨0x6004C, 0, 3, 0x1000000, 1, 0x10000000, .m, 0x0, 0x0, 0x0, 0x0, 0x0, 0x0, 0x0⟩
/-- BF_ECC, spec/10: Delay-register ECC events. -/
def BF_ECC : Reg := ⟨0x60050, 0, 3, 0x1000000, 1, 0x10000000, .m, 0x0, 0x0, 0x0, 0x0, 0x0, 0x0, 0x0⟩
/-- BF_VOTE, spec/10: Voted output word and divergence. -/
def BF_VOTE : Reg := ⟨0x60054, 0, 3, 0x1000000, 1, 0x10000000, .m, 0x0, 0x0, 0x0, 0x0, 0x0, 0x0, 0x0⟩
/-- BF_ST_RES, spec/10: Last self-test. -/
def BF_ST_RES : Reg := ⟨0x60058, 0, 3, 0x1000000, 1, 0x10000000, .m, 0x0, 0x0, 0x0, 0x0, 0x0, 0x0, 0x0⟩
/-- BF_REINT, spec/10: Last reintegration. -/
def BF_REINT : Reg := ⟨0x6005C, 0, 3, 0x1000000, 1, 0x10000000, .m, 0x0, 0x0, 0x0, 0x0, 0x0, 0x0, 0x0⟩
/-- BF_INJ, spec/10: Injection test result. -/
def BF_INJ : Reg := ⟨0x60060, 0, 3, 0x1000000, 1, 0x10000000, .m, 0x0, 0x0, 0x0, 0x0, 0x0, 0x0, 0x0⟩
/-- BF_CTRL, spec/10: Counter clear. -/
def BF_CTRL : Reg := ⟨0x60064, 0, 3, 0x1000000, 1, 0x10000000, .m, 0x0, 0x0, 0x0, 0x1, 0x0, 0x0, 0x0⟩
/-- BF_CMD, spec/10: Maintenance command. -/
def BF_CMD : Reg := ⟨0x60068, 0, 3, 0x1000000, 1, 0x10000000, .m, 0x0, 0x0, 0x0, 0x0, 0x0, 0xF, 0x0⟩
/-- PAIR_CONF, spec/11: Partner and witness count. -/
def PAIR_CONF : Reg := ⟨0x70000, 0, 1, 0x1, 1, 0x10000000, .m, 0x0, 0x0, 0x0, 0x0, 0x3FFFF, 0x0, 0x0⟩
/-- PAIR_WIT01, spec/11: Witnesses 0 and 1. -/
def PAIR_WIT01 : Reg := ⟨0x70004, 0, 1, 0x1, 1, 0x10000000, .m, 0x0, 0x0, 0x0, 0x0, 0xFFFFFFFF, 0x0, 0x0⟩
/-- PAIR_LIMITS, spec/11: Witness 2 and DELTA_MAX. -/
def PAIR_LIMITS : Reg := ⟨0x70008, 0, 1, 0x1, 1, 0x10000000, .m, 0x0, 0x0, 0x0, 0x0, 0x7FFFFFF, 0x0, 0x0⟩
/-- PAIR_STATUS, spec/11: Partner, witnesses, flags. -/
def PAIR_STATUS : Reg := ⟨0x7000C, 0, 1, 0x1, 1, 0x10000000, .m, 0xFFFF0000, 0x0, 0x0, 0x0, 0x0, 0x0, 0x0⟩
/-- PAIR_SEQ, spec/11: Own SEQ. -/
def PAIR_SEQ : Reg := ⟨0x70010, 0, 1, 0x1, 1, 0x10000000, .m, 0x0, 0x0, 0x0, 0x0, 0x0, 0x0, 0x0⟩
/-- PAIR_PSEQ, spec/11: Partner's SEQ. -/
def PAIR_PSEQ : Reg := ⟨0x70014, 0, 1, 0x1, 1, 0x10000000, .m, 0x0, 0x0, 0x0, 0x0, 0x0, 0x0, 0x0⟩
/-- PAIR_DELTA, spec/11: Last delta. -/
def PAIR_DELTA : Reg := ⟨0x70018, 0, 1, 0x1, 1, 0x10000000, .m, 0x0, 0x0, 0x0, 0x0, 0x0, 0x0, 0x0⟩
/-- PAIR_DMAX, spec/11: Largest delta since clear. -/
def PAIR_DMAX : Reg := ⟨0x7001C, 0, 1, 0x1, 1, 0x10000000, .m, 0x0, 0x0, 0x0, 0x0, 0x0, 0x0, 0x0⟩
/-- PAIR_COPY, spec/11: Copy progress. -/
def PAIR_COPY : Reg := ⟨0x70020, 0, 1, 0x1, 1, 0x10000000, .m, 0x0, 0x0, 0x0, 0x0, 0x0, 0x0, 0x0⟩
/-- PAIR_EVENTS, spec/11: Takeovers and resyncs. -/
def PAIR_EVENTS : Reg := ⟨0x70024, 0, 1, 0x1, 1, 0x10000000, .m, 0x0, 0x0, 0x0, 0x0, 0x0, 0x0, 0x0⟩
/-- PAIR_REJ, spec/11: Chunk discards. -/
def PAIR_REJ : Reg := ⟨0x70028, 0, 1, 0x1, 1, 0x10000000, .m, 0x0, 0x0, 0x0, 0x0, 0x0, 0x0, 0x0⟩
/-- PAIR_LAST, spec/11: Last role change. -/
def PAIR_LAST : Reg := ⟨0x7002C, 0, 1, 0x1, 1, 0x10000000, .m, 0x0, 0x0, 0x0, 0x0, 0x0, 0x0, 0x0⟩
/-- PAIR_CTRL, spec/11: Counter clear. -/
def PAIR_CTRL : Reg := ⟨0x70030, 0, 1, 0x1, 1, 0x10000000, .m, 0x0, 0x0, 0x0, 0x1, 0x0, 0x0, 0x0⟩
/-- RG_ADDR, spec/12: System addresses. -/
def RG_ADDR : Reg := ⟨0x80000, 0, 1, 0x1, 1, 0x10000000, .m, 0x0, 0x0, 0x0, 0x0, 0xFFFFFFFF, 0x0, 0x0⟩
/-- RG_RANK, spec/12: Ranks, cold-start role, β role. -/
def RG_RANK : Reg := ⟨0x80004, 0, 1, 0x1, 1, 0x10000000, .m, 0x0, 0x0, 0x0, 0x0, 0x3FFF, 0x0, 0x0⟩
/-- RG_SCHED, spec/12: Active schedule, static layout. -/
def RG_SCHED : Reg := ⟨0x80008, 0, 1, 0x1, 1, 0x10000000, .m, 0x0, 0x0, 0x0, 0x0, 0x0, 0x0, 0x0⟩
/-- RG_SCHED2, spec/12: Dynamic layout. -/
def RG_SCHED2 : Reg := ⟨0x8000C, 0, 1, 0x1, 1, 0x10000000, .m, 0x0, 0x0, 0x0, 0x0, 0x0, 0x0, 0x0⟩
/-- RG_SYNC, spec/12: Sync state and offset. -/
def RG_SYNC : Reg := ⟨0x80010, 0, 1, 0x1, 1, 0x10000000, .m, 0x0, 0x0, 0x0, 0x0, 0x0, 0x0, 0x0⟩
/-- RG_RATE, spec/12: Rate correction. -/
def RG_RATE : Reg := ⟨0x80014, 0, 1, 0x1, 1, 0x10000000, .m, 0x0, 0x0, 0x0, 0x0, 0x0, 0x0, 0x0⟩
/-- RG_DLY_PA, spec/12: D_P on α. -/
def RG_DLY_PA : Reg := ⟨0x80018, 0, 1, 0x1, 1, 0x10000000, .m, 0x0, 0x0, 0x0, 0x0, 0x0, 0x0, 0x0⟩
/-- RG_DLY_SA, spec/12: D_S on α. -/
def RG_DLY_SA : Reg := ⟨0x8001C, 0, 1, 0x1, 1, 0x10000000, .m, 0x0, 0x0, 0x0, 0x0, 0x0, 0x0, 0x0⟩
/-- RG_LOOP_A, spec/12: L on α. -/
def RG_LOOP_A : Reg := ⟨0x80020, 0, 1, 0x1, 1, 0x10000000, .m, 0x0, 0x0, 0x0, 0x0, 0x0, 0x0, 0x0⟩
/-- RG_DLY_PB, spec/12: D_P on β. -/
def RG_DLY_PB : Reg := ⟨0x80024, 0, 1, 0x1, 1, 0x10000000, .m, 0x0, 0x0, 0x0, 0x0, 0x0, 0x0, 0x0⟩
/-- RG_DLY_SB, spec/12: D_S on β. -/
def RG_DLY_SB : Reg := ⟨0x80028, 0, 1, 0x1, 1, 0x10000000, .m, 0x0, 0x0, 0x0, 0x0, 0x0, 0x0, 0x0⟩
/-- RG_LOOP_B, spec/12: L on β. -/
def RG_LOOP_B : Reg := ⟨0x8002C, 0, 1, 0x1, 1, 0x10000000, .m, 0x0, 0x0, 0x0, 0x0, 0x0, 0x0, 0x0⟩
/-- RG_MASTER, spec/12: Time and system masters. -/
def RG_MASTER : Reg := ⟨0x80030, 0, 1, 0x1, 1, 0x10000000, .m, 0x0, 0x0, 0x0, 0x0, 0x0, 0x0, 0x0⟩
/-- RG_SW, spec/12: Schedule switch. -/
def RG_SW : Reg := ⟨0x80034, 0, 1, 0x1, 1, 0x10000000, .m, 0x0, 0x0, 0x0, 0x0, 0x0, 0x0, 0x0⟩
/-- RG_PORT, spec/12: Ports and optics. -/
def RG_PORT : Reg := ⟨0x80038, 0, 1, 0x1, 1, 0x10000000, .m, 0x0, 0x0, 0x0, 0x0, 0x0, 0x0, 0x0⟩
/-- RG_STATIC, spec/12: Static frames accepted. -/
def RG_STATIC : Reg := ⟨0x8003C, 0, 1, 0x1, 1, 0x10000000, .m, 0x0, 0x0, 0x0, 0x0, 0x0, 0x0, 0x0⟩
/-- RG_DYN, spec/12: Dynamic reservation use. -/
def RG_DYN : Reg := ⟨0x80040, 0, 1, 0x1, 1, 0x10000000, .m, 0x0, 0x0, 0x0, 0x0, 0x0, 0x0, 0x0⟩
/-- RG_SSEL, spec/12: Slot selector. -/
def RG_SSEL : Reg := ⟨0x80044, 0, 1, 0x1, 1, 0x10000000, .m, 0x0, 0x1FF, 0x0, 0x0, 0x0, 0x0, 0x0⟩
/-- RG_SCNT, spec/12: Counts of the selected slot. -/
def RG_SCNT : Reg := ⟨0x80048, 0, 1, 0x1, 1, 0x10000000, .m, 0x0, 0x0, 0x0, 0x0, 0x0, 0x0, 0x0⟩
/-- RG_CTRL, spec/12: Counter clear. -/
def RG_CTRL : Reg := ⟨0x8004C, 0, 1, 0x1, 1, 0x10000000, .m, 0x0, 0x0, 0x0, 0x1, 0x0, 0x0, 0x0⟩
/-- RG_EXPORT, spec/12: Export range. -/
def RG_EXPORT : Reg := ⟨0x80050, 0, 1, 0x1, 1, 0x10000000, .m, 0x0, 0x0, 0x0, 0x0, 0xF03FFFF, 0x0, 0x0⟩
/-- RG_IMP_STAT, spec/12: Import validity. -/
def RG_IMP_STAT : Reg := ⟨0x80054, 0, 1, 0x1, 1, 0x10000000, .m, 0x0, 0x0, 0x0, 0x0, 0x0, 0x0, 0x0⟩
/-- RG_IMPk, spec/12: Import k, k = 0 to 15. -/
def RG_IMP : Reg := ⟨0x80060, 0, 16, 0x4, 1, 0x10000000, .m, 0x0, 0x0, 0x0, 0x0, 0x3FFFFFFF, 0x0, 0x0⟩
/-- RG_CS, spec/13: Cold-start state. -/
def RG_CS : Reg := ⟨0x80100, 0, 1, 0x1, 1, 0x10000000, .m, 0x0, 0x0, 0x0, 0x0, 0x0, 0x0, 0x0⟩
/-- RG_INTEG, spec/13: Integration and admission. -/
def RG_INTEG : Reg := ⟨0x80104, 0, 1, 0x1, 1, 0x10000000, .m, 0x0, 0x0, 0x0, 0x0, 0x0, 0x0, 0x0⟩
/-- RG_GTX, spec/13: Transmit guardian. -/
def RG_GTX : Reg := ⟨0x80108, 0, 1, 0x1, 1, 0x10000000, .m, 0x0, 0x0, 0x0, 0x0, 0x0, 0x0, 0x0⟩
/-- RG_GFWDp, spec/13: Forwarding guardian of port Pp, p = 0 to 3. -/
def RG_GFWD : Reg := ⟨0x8010C, 0, 4, 0x4, 1, 0x10000000, .m, 0x0, 0x0, 0x0, 0x0, 0x0, 0x0, 0x0⟩
/-- RG_SCNT2, spec/13: Truncations and clashes of the slot selected in RG_SSEL. -/
def RG_SCNT2 : Reg := ⟨0x8011C, 0, 1, 0x1, 1, 0x10000000, .m, 0x0, 0x0, 0x0, 0x0, 0x0, 0x0, 0x0⟩
/-- RG_HEAL, spec/13: Healing state. -/
def RG_HEAL : Reg := ⟨0x80120, 0, 1, 0x1, 1, 0x10000000, .m, 0x0, 0x0, 0x0, 0x0, 0x0, 0x0, 0x0⟩
/-- RG_LOSS, spec/13: Sync losses. -/
def RG_LOSS : Reg := ⟨0x80124, 0, 1, 0x1, 1, 0x10000000, .m, 0x0, 0x0, 0x0, 0x0, 0x0, 0x0, 0x0⟩
/-- RG_CLASH, spec/13: Last slot clash. -/
def RG_CLASH : Reg := ⟨0x80128, 0, 1, 0x1, 1, 0x10000000, .m, 0x0, 0x0, 0x0, 0x0, 0x0, 0x0, 0x0⟩
/-- RG_GCTRL, spec/13: Counter clear. -/
def RG_GCTRL : Reg := ⟨0x8012C, 0, 1, 0x1, 1, 0x10000000, .m, 0x0, 0x0, 0x0, 0x1, 0x0, 0x0, 0x0⟩
/-- CAN_CFG, spec/14: Rates, sample points, termination, wake mode. -/
def CAN_CFG : Reg := ⟨0x90000, 0, 40, 0x400, 1, 0x10000000, .m, 0x0, 0x0, 0x0, 0x0, 0x3FFF, 0x0, 0x0⟩
/-- CAN_CTL_CNT, spec/14: Controllers and sleep bit. -/
def CAN_CTL_CNT : Reg := ⟨0x90004, 0, 40, 0x400, 1, 0x10000000, .m, 0x0, 0x0, 0x0, 0x0, 0xFFFFC01F, 0x0, 0x0⟩
/-- CAN_WAKE_ID, spec/14: Wake frame identifier. -/
def CAN_WAKE_ID : Reg := ⟨0x90008, 0, 40, 0x400, 1, 0x10000000, .m, 0x0, 0x0, 0x0, 0x0, 0x9FFFFFFF, 0x0, 0x0⟩
/-- CAN_WAKE_DATA0, spec/14: Wake data bytes 0 to 3. -/
def CAN_WAKE_DATA0 : Reg := ⟨0x9000C, 0, 40, 0x400, 1, 0x10000000, .m, 0x0, 0x0, 0x0, 0x0, 0xFFFFFFFF, 0x0, 0x0⟩
/-- CAN_WAKE_DATA1, spec/14: Wake data bytes 4 to 7. -/
def CAN_WAKE_DATA1 : Reg := ⟨0x90010, 0, 40, 0x400, 1, 0x10000000, .m, 0x0, 0x0, 0x0, 0x0, 0xFFFFFFFF, 0x0, 0x0⟩
/-- CAN_WAKE_MASK0, spec/14: Mask of bytes 0 to 3. -/
def CAN_WAKE_MASK0 : Reg := ⟨0x90014, 0, 40, 0x400, 1, 0x10000000, .m, 0x0, 0x0, 0x0, 0x0, 0xFFFFFFFF, 0x0, 0x0⟩
/-- CAN_WAKE_MASK1, spec/14: Mask of bytes 4 to 7. -/
def CAN_WAKE_MASK1 : Reg := ⟨0x90018, 0, 40, 0x400, 1, 0x10000000, .m, 0x0, 0x0, 0x0, 0x0, 0xFFFFFFFF, 0x0, 0x0⟩
/-- CAN_STATUS, spec/14: Bus state, sleep, group. -/
def CAN_STATUS : Reg := ⟨0x9001C, 0, 40, 0x400, 1, 0x10000000, .b, 0x0, 0x0, 0x0, 0x0, 0x0, 0x0, 0x0⟩
/-- CAN_ABSENT, spec/14: Absent controllers. -/
def CAN_ABSENT : Reg := ⟨0x90020, 0, 40, 0x400, 1, 0x10000000, .b, 0x7FFFFFFE, 0x0, 0x0, 0x0, 0x0, 0x0, 0x0⟩
/-- CAN_ERR, spec/14: Error counters. -/
def CAN_ERR : Reg := ⟨0x90024, 0, 40, 0x400, 1, 0x10000000, .b, 0x0, 0x0, 0x0, 0x0, 0x0, 0x0, 0x0⟩
/-- CAN_TS, spec/14: Timestamp counter. -/
def CAN_TS : Reg := ⟨0x90028, 0, 40, 0x400, 1, 0x10000000, .b, 0x0, 0x0, 0x0, 0x0, 0x0, 0x0, 0x0⟩
/-- CAN_TS_LATCH, spec/14: TS at the last round start. -/
def CAN_TS_LATCH : Reg := ⟨0x9002C, 0, 40, 0x400, 1, 0x10000000, .b, 0x0, 0x0, 0x0, 0x0, 0x0, 0x0, 0x0⟩
/-- CAN_TXQ, spec/14: Queue fill and drops. -/
def CAN_TXQ : Reg := ⟨0x90030, 0, 40, 0x400, 1, 0x10000000, .b, 0x0, 0x0, 0x0, 0x0, 0x0, 0x0, 0x0⟩
/-- CAN_TXCNT, spec/14: Frames sent. -/
def CAN_TXCNT : Reg := ⟨0x90034, 0, 40, 0x400, 1, 0x10000000, .b, 0x0, 0x0, 0x0, 0x0, 0x0, 0x0, 0x0⟩
/-- CAN_RXCNT, spec/14: Frames received. -/
def CAN_RXCNT : Reg := ⟨0x90038, 0, 40, 0x400, 1, 0x10000000, .b, 0x0, 0x0, 0x0, 0x0, 0x0, 0x0, 0x0⟩
/-- CAN_REJ, spec/14: Discards by cause. -/
def CAN_REJ : Reg := ⟨0x9003C, 0, 40, 0x400, 1, 0x10000000, .b, 0x0, 0x0, 0x0, 0x0, 0x0, 0x0, 0x0⟩
/-- CAN_CLASH_ID, spec/14: Last clashing identifier. -/
def CAN_CLASH_ID : Reg := ⟨0x90040, 0, 40, 0x400, 1, 0x10000000, .b, 0x0, 0x0, 0x0, 0x0, 0x0, 0x0, 0x0⟩
/-- CAN_CLASH_OWN0, spec/14: Own data bytes 0 to 3. -/
def CAN_CLASH_OWN0 : Reg := ⟨0x90044, 0, 40, 0x400, 1, 0x10000000, .b, 0x0, 0x0, 0x0, 0x0, 0x0, 0x0, 0x0⟩
/-- CAN_CLASH_OWN1, spec/14: Own data bytes 4 to 7. -/
def CAN_CLASH_OWN1 : Reg := ⟨0x90048, 0, 40, 0x400, 1, 0x10000000, .b, 0x0, 0x0, 0x0, 0x0, 0x0, 0x0, 0x0⟩
/-- CAN_CLASH_RX0, spec/14: Received bytes 0 to 3. -/
def CAN_CLASH_RX0 : Reg := ⟨0x9004C, 0, 40, 0x400, 1, 0x10000000, .b, 0x0, 0x0, 0x0, 0x0, 0x0, 0x0, 0x0⟩
/-- CAN_CLASH_RX1, spec/14: Received bytes 4 to 7. -/
def CAN_CLASH_RX1 : Reg := ⟨0x90050, 0, 40, 0x400, 1, 0x10000000, .b, 0x0, 0x0, 0x0, 0x0, 0x0, 0x0, 0x0⟩
/-- CAN_CTRL, spec/14: Counter clear. -/
def CAN_CTRL : Reg := ⟨0x90054, 0, 40, 0x400, 1, 0x10000000, .b, 0x0, 0x0, 0x0, 0x1, 0x0, 0x0, 0x0⟩
/-- SS_CFG, spec/15: Sessions and queues defined. -/
def SS_CFG : Reg := ⟨0xA0000, 0, 1, 0x1, 1, 0x10000000, .m, 0x0, 0x0, 0x0, 0x0, 0x7F3F, 0x0, 0x0⟩
/-- SS_OWN, spec/15: OWN_ID. -/
def SS_OWN : Reg := ⟨0xA0004, 0, 1, 0x1, 1, 0x10000000, .m, 0x0, 0x0, 0x0, 0x0, 0xFFFFFFFF, 0x0, 0x0⟩
/-- SS_STATUS, spec/15: Sessions open. -/
def SS_STATUS : Reg := ⟨0xA0008, 0, 1, 0x1, 1, 0x10000000, .m, 0x0, 0x0, 0x0, 0x0, 0x0, 0x0, 0x0⟩
/-- QU_AUDIT, spec/15: Last credit failure. -/
def QU_AUDIT : Reg := ⟨0xA000C, 0, 1, 0x1, 1, 0x10000000, .m, 0x0, 0x0, 0x0, 0x0, 0x0, 0x0, 0x0⟩
/-- SS_CTRL, spec/15: Counter clear. -/
def SS_CTRL : Reg := ⟨0xA0010, 0, 1, 0x1, 1, 0x10000000, .m, 0x0, 0x0, 0x0, 0x1, 0x0, 0x0, 0x0⟩
/-- SSn_CFG, spec/15: Session n, n = 1 to 63. -/
def SSN_CFG : Reg := ⟨0xA0120, 1, 63, 0x20, 1, 0x10000000, .m, 0x0, 0x0, 0x0, 0x0, 0x1FFFFFFF, 0x0, 0x0⟩
/-- SSn_PEER, spec/15: PEER_ID. -/
def SSN_PEER : Reg := ⟨0xA0124, 1, 63, 0x20, 1, 0x10000000, .m, 0x0, 0x0, 0x0, 0x0, 0xFFFFFFFF, 0x0, 0x0⟩
/-- SSn_STATE, spec/15: State and cause. -/
def SSN_STATE : Reg := ⟨0xA0128, 1, 63, 0x20, 1, 0x10000000, .m, 0x0, 0x0, 0x0, 0x0, 0x0, 0x0, 0x0⟩
/-- SSn_TXSEQ, spec/15: Last SEQ sent. -/
def SSN_TXSEQ : Reg := ⟨0xA012C, 1, 63, 0x20, 1, 0x10000000, .m, 0x0, 0x0, 0x0, 0x0, 0x0, 0x0, 0x0⟩
/-- SSn_RXSEQ, spec/15: Last SEQ accepted. -/
def SSN_RXSEQ : Reg := ⟨0xA0130, 1, 63, 0x20, 1, 0x10000000, .m, 0x0, 0x0, 0x0, 0x0, 0x0, 0x0, 0x0⟩
/-- SSn_AGE, spec/15: Echo age. -/
def SSN_AGE : Reg := ⟨0xA0134, 1, 63, 0x20, 1, 0x10000000, .m, 0x0, 0x0, 0x0, 0x0, 0x0, 0x0, 0x0⟩
/-- SSn_CNT, spec/15: Frames accepted. -/
def SSN_CNT : Reg := ⟨0xA0138, 1, 63, 0x20, 1, 0x10000000, .m, 0x0, 0x0, 0x0, 0x0, 0x0, 0x0, 0x0⟩
/-- SSn_REJ, spec/15: Discards by cause. -/
def SSN_REJ : Reg := ⟨0xA013C, 1, 63, 0x20, 1, 0x10000000, .m, 0x0, 0x0, 0x0, 0x0, 0x0, 0x0, 0x0⟩
/-- QUq_CFG, spec/15: Queue q, q = 0 to 63. -/
def QU_CFG : Reg := ⟨0xA1000, 0, 64, 0x10, 1, 0x10000000, .m, 0x0, 0x0, 0x0, 0x0, 0x87FFFFFF, 0x0, 0x0⟩
/-- QUq_WIN, spec/15: Window and consumer. -/
def QU_WIN : Reg := ⟨0xA1004, 0, 64, 0x10, 1, 0x10000000, .m, 0x0, 0x0, 0x0, 0x0, 0x3FFF1FFF, 0x0, 0x0⟩
/-- QUq_CRED, spec/15: Credit positions. -/
def QU_CRED : Reg := ⟨0xA1008, 0, 64, 0x10, 1, 0x10000000, .m, 0x0, 0x0, 0x0, 0x0, 0x0, 0x0, 0x0⟩
/-- QUq_CNT, spec/15: Enqueued and dropped. -/
def QU_CNT : Reg := ⟨0xA100C, 0, 64, 0x10, 1, 0x10000000, .m, 0x0, 0x0, 0x0, 0x0, 0x0, 0x0, 0x0⟩
/-- CVS_CNTu, spec/15: Values computed by spire unit u, u = 0 to 3. -/
def CVS_CNT : Reg := ⟨0xB0000, 0, 4, 0x4, 3, 0x1000000, .c, 0x0, 0x0, 0x0, 0x0, 0x0, 0x0, 0x0⟩
/-- CV_CFG, spec/15: Parameters. -/
def CV_CFG : Reg := ⟨0xB1000, 0, 8, 0x40, 1, 0x10000000, .b, 0x0, 0x3FF7F, 0x0, 0x0, 0x0, 0x0, 0x0⟩
/-- CV_POLY_HI, spec/15: POLY bits [63:32], [31:0]. -/
def CV_POLY_HI : Reg := ⟨0xB1004, 0, 8, 0x40, 1, 0x10000000, .b, 0x0, 0xFFFFFFFF, 0x0, 0x0, 0x0, 0x0, 0x0⟩
/-- CV_POLY_LO, spec/15: POLY bits [63:32], [31:0]. -/
def CV_POLY_LO : Reg := ⟨0xB1008, 0, 8, 0x40, 1, 0x10000000, .b, 0x0, 0xFFFFFFFF, 0x0, 0x0, 0x0, 0x0, 0x0⟩
/-- CV_INIT_HI, spec/15: INIT. -/
def CV_INIT_HI : Reg := ⟨0xB100C, 0, 8, 0x40, 1, 0x10000000, .b, 0x0, 0xFFFFFFFF, 0x0, 0x0, 0x0, 0x0, 0x0⟩
/-- CV_INIT_LO, spec/15: INIT. -/
def CV_INIT_LO : Reg := ⟨0xB1010, 0, 8, 0x40, 1, 0x10000000, .b, 0x0, 0xFFFFFFFF, 0x0, 0x0, 0x0, 0x0, 0x0⟩
/-- CV_XOR_HI, spec/15: XOROUT. -/
def CV_XOR_HI : Reg := ⟨0xB1014, 0, 8, 0x40, 1, 0x10000000, .b, 0x0, 0xFFFFFFFF, 0x0, 0x0, 0x0, 0x0, 0x0⟩
/-- CV_XOR_LO, spec/15: XOROUT. -/
def CV_XOR_LO : Reg := ⟨0xB1018, 0, 8, 0x40, 1, 0x10000000, .b, 0x0, 0xFFFFFFFF, 0x0, 0x0, 0x0, 0x0, 0x0⟩
/-- CV_PFX0, spec/15: Prefix words W0, W1. -/
def CV_PFX0 : Reg := ⟨0xB101C, 0, 8, 0x40, 1, 0x10000000, .b, 0x0, 0xFFFFFFFF, 0x0, 0x0, 0x0, 0x0, 0x0⟩
/-- CV_PFX1, spec/15: Prefix words W0, W1. -/
def CV_PFX1 : Reg := ⟨0xB1020, 0, 8, 0x40, 1, 0x10000000, .b, 0x0, 0xFFFFFFFF, 0x0, 0x0, 0x0, 0x0, 0x0⟩
/-- CV_DATA, spec/15: A write feeds 4 bytes, [31:24] first. -/
def CV_DATA : Reg := ⟨0xB1024, 0, 8, 0x40, 1, 0x10000000, .b, 0x0, 0xFFFFFFFF, 0x0, 0x0, 0x0, 0x0, 0x0⟩
/-- CV_BYTE, spec/15: A write feeds [7:0]. -/
def CV_BYTE : Reg := ⟨0xB1028, 0, 8, 0x40, 1, 0x10000000, .b, 0x0, 0xFF, 0x0, 0x0, 0x0, 0x0, 0x0⟩
/-- CV_RES_HI, spec/15: Result bits [63:32], [31:0]. -/
def CV_RES_HI : Reg := ⟨0xB102C, 0, 8, 0x40, 1, 0x10000000, .b, 0x0, 0x0, 0x0, 0x0, 0x0, 0x0, 0x0⟩
/-- CV_RES_LO, spec/15: Result bits [63:32], [31:0]. -/
def CV_RES_LO : Reg := ⟨0xB1030, 0, 8, 0x40, 1, 0x10000000, .b, 0x0, 0x0, 0x0, 0x0, 0x0, 0x0, 0x0⟩
/-- CV_START, spec/15: Start. -/
def CV_START : Reg := ⟨0xB1034, 0, 8, 0x40, 1, 0x10000000, .b, 0x0, 0x0, 0x0, 0x1, 0x0, 0x0, 0x0⟩
/-- ETHk_STATUS, spec/15: Link, speed, use. -/
def ETH_STATUS : Reg := ⟨0xA2000, 0, 16, 0x20, 1, 0x10000000, .b, 0x0, 0x0, 0x0, 0x0, 0x0, 0x0, 0x0⟩
/-- ETHk_MAC_HI, spec/15: MAC address bits [47:32]. -/
def ETH_MAC_HI : Reg := ⟨0xA2004, 0, 16, 0x20, 1, 0x10000000, .n, 0x0, 0x0, 0x0, 0x0, 0x0, 0x0, 0x0⟩
/-- ETHk_MAC_LO, spec/15: MAC address bits [31:0]. -/
def ETH_MAC_LO : Reg := ⟨0xA2008, 0, 16, 0x20, 1, 0x10000000, .n, 0x0, 0x0, 0x0, 0x0, 0x0, 0x0, 0x0⟩
/-- ETHk_IPV4, spec/15: IPv4 address from the settings. -/
def ETH_IPV4 : Reg := ⟨0xA200C, 0, 16, 0x20, 1, 0x10000000, .m, 0x0, 0x0, 0x0, 0x0, 0x0, 0x0, 0x0⟩
/-- ETHk_IPCFG, spec/15: Prefix lengths and presence of addresses. -/
def ETH_IPCFG : Reg := ⟨0xA2010, 0, 16, 0x20, 1, 0x10000000, .m, 0x0, 0x0, 0x0, 0x0, 0x0, 0x0, 0x0⟩
/-- ETHk_RXCNT, spec/15: Frames received. -/
def ETH_RXCNT : Reg := ⟨0xA2014, 0, 16, 0x20, 1, 0x10000000, .b, 0x0, 0x0, 0x0, 0x0, 0x0, 0x0, 0x0⟩
/-- ETHk_TXCNT, spec/15: Frames sent. -/
def ETH_TXCNT : Reg := ⟨0xA2018, 0, 16, 0x20, 1, 0x10000000, .b, 0x0, 0x0, 0x0, 0x0, 0x0, 0x0, 0x0⟩
/-- ETHk_ERR, spec/15: Errors and drops. -/
def ETH_ERR : Reg := ⟨0xA201C, 0, 16, 0x20, 1, 0x10000000, .b, 0x0, 0x0, 0x0, 0x0, 0x0, 0x0, 0x0⟩
/-- ETH_CTRL, spec/15: Counter clear. -/
def ETH_CTRL : Reg := ⟨0xA2200, 0, 1, 0x1, 1, 0x10000000, .m, 0x0, 0x0, 0x0, 0x1, 0x0, 0x0, 0x0⟩
/-- IO_CFG, spec/16: Logic-silence time, pairs. -/
def IO_CFG : Reg := ⟨0xC0000, 0, 1, 0x1, 1, 0x10000000, .m, 0x0, 0x0, 0x0, 0x0, 0xFFFF07FF, 0x0, 0x0⟩
/-- IO_STATUS, spec/16: Supply, silence, edge-reset state. -/
def IO_STATUS : Reg := ⟨0xC0004, 0, 1, 0x1, 1, 0x10000000, .m, 0x0, 0x0, 0x0, 0x0, 0x0, 0x0, 0x0⟩
/-- IO_FS, spec/16: Field-supply voltage. -/
def IO_FS : Reg := ⟨0xC0008, 0, 1, 0x1, 1, 0x10000000, .m, 0x0, 0x0, 0x0, 0x0, 0x0, 0x0, 0x0⟩
/-- IO_IN_VAL, spec/16: Debounced input values. -/
def IO_IN_VAL : Reg := ⟨0xC000C, 0, 1, 0x1, 1, 0x10000000, .m, 0x0, 0x0, 0x0, 0x0, 0x0, 0x0, 0x0⟩
/-- IO_IN_WB, spec/16: Wire breaks. -/
def IO_IN_WB : Reg := ⟨0xC0010, 0, 1, 0x1, 1, 0x10000000, .m, 0x0, 0x0, 0x0, 0x0, 0x0, 0x0, 0x0⟩
/-- IO_PAIR, spec/16: Pair values and latches. -/
def IO_PAIR : Reg := ⟨0xC0014, 0, 1, 0x1, 1, 0x10000000, .m, 0x0, 0x0, 0x0, 0x0, 0x0, 0x0, 0x0⟩
/-- IO_OUT, spec/16: Voted word and energised outputs. -/
def IO_OUT : Reg := ⟨0xC0018, 0, 1, 0x1, 1, 0x10000000, .m, 0x0, 0x0, 0x0, 0x0, 0x0, 0x0, 0x0⟩
/-- IO_OLAT, spec/16: Output, group and supply latches. -/
def IO_OLAT : Reg := ⟨0xC001C, 0, 1, 0x1, 1, 0x10000000, .n, 0x0, 0x0, 0x0, 0x0, 0x0, 0x0, 0x0⟩
/-- IO_OVR, spec/16: Maintenance overrides. -/
def IO_OVR : Reg := ⟨0xC0020, 0, 1, 0x1, 1, 0x10000000, .b, 0x0, 0x0, 0x0, 0x0, 0x0, 0x3F3F, 0x0⟩
/-- IO_CNT, spec/16: Discrepancy and wire-break counts. -/
def IO_CNT : Reg := ⟨0xC0024, 0, 1, 0x1, 1, 0x10000000, .m, 0x0, 0x0, 0x0, 0x0, 0x0, 0x0, 0x0⟩
/-- IO_TCNT, spec/16: Test counts. -/
def IO_TCNT : Reg := ⟨0xC0028, 0, 1, 0x1, 1, 0x10000000, .m, 0x0, 0x0, 0x0, 0x0, 0x0, 0x0, 0x0⟩
/-- IO_CTRL, spec/16: Counter clear. -/
def IO_CTRL : Reg := ⟨0xC002C, 0, 1, 0x1, 1, 0x10000000, .m, 0x0, 0x0, 0x0, 0x1, 0x0, 0x0, 0x0⟩
/-- IO_INk, spec/16: Input k, k = 0 to 31. -/
def IO_IN : Reg := ⟨0xC0040, 0, 32, 0x4, 1, 0x10000000, .m, 0x0, 0x0, 0x0, 0x0, 0xFF, 0x0, 0x0⟩
/-- IO_DISCk, spec/16: Pair k, k = 0 to 15. -/
def IO_DISC : Reg := ⟨0xC00C0, 0, 16, 0x4, 1, 0x10000000, .m, 0x0, 0x0, 0x0, 0x0, 0xFF, 0x0, 0x0⟩
/-- IO_OUTn, spec/16: Output n, n = 0 to 15. -/
def IO_OUTCFG : Reg := ⟨0xC0100, 0, 16, 0x4, 1, 0x10000000, .m, 0x0, 0x0, 0x0, 0x0, 0x6, 0x0, 0x0⟩
/-- IO_OSTn, spec/16: Latch cause of output n. -/
def IO_OST : Reg := ⟨0xC0140, 0, 16, 0x4, 1, 0x10000000, .n, 0x0, 0x0, 0x0, 0x0, 0x0, 0x0, 0x0⟩
/-- IO_ORBn, spec/16: Readback of output n. -/
def IO_ORB : Reg := ⟨0xC0180, 0, 16, 0x4, 1, 0x10000000, .m, 0x0, 0x0, 0x0, 0x0, 0x0, 0x0, 0x0⟩
/-- FC_CFG, spec/17: Recovery window. -/
def FC_CFG : Reg := ⟨0xD0000, 0, 1, 0x1, 1, 0x10000000, .m, 0x0, 0x0, 0x0, 0x0, 0x3FF, 0x0, 0x0⟩
/-- FC_STATUS, spec/17: Summary. -/
def FC_STATUS : Reg := ⟨0xD0004, 0, 1, 0x1, 1, 0x10000000, .m, 0x0, 0x0, 0x0, 0x0, 0x0, 0x0, 0x0⟩
/-- FC_FIRST, spec/17: First fault. -/
def FC_FIRST : Reg := ⟨0xD0008, 0, 1, 0x1, 1, 0x10000000, .p, 0x0, 0x0, 0x0, 0x0, 0x0, 0x0, 0x0⟩
/-- FC_FIRST_TS, spec/17: Collector tick of the first fault. -/
def FC_FIRST_TS : Reg := ⟨0xD000C, 0, 1, 0x1, 1, 0x10000000, .p, 0x0, 0x0, 0x0, 0x0, 0x0, 0x0, 0x0⟩
/-- FC_FIRST_AT_LO, spec/17: AT of the first fault, bits [31:0]. -/
def FC_FIRST_AT_LO : Reg := ⟨0xD0010, 0, 1, 0x1, 1, 0x10000000, .p, 0x0, 0x0, 0x0, 0x0, 0x0, 0x0, 0x0⟩
/-- FC_FIRST_AT_HI, spec/17: AT of the first fault, bits [63:32]. -/
def FC_FIRST_AT_HI : Reg := ⟨0xD0014, 0, 1, 0x1, 1, 0x10000000, .p, 0x0, 0x0, 0x0, 0x0, 0x0, 0x0, 0x0⟩
/-- FC_CTRL, spec/17: Clears. -/
def FC_CTRL : Reg := ⟨0xD0018, 0, 1, 0x1, 1, 0x10000000, .m, 0x0, 0x0, 0x0, 0x3, 0x0, 0x0, 0x0⟩
/-- FC_INJ, spec/17: Check-bit injection. -/
def FC_INJ : Reg := ⟨0xD001C, 0, 1, 0x1, 1, 0x10000000, .m, 0x0, 0x0, 0x0, 0x0, 0x0, 0x80003FFF, 0x0⟩
/-- FC_STICKYw, spec/17: Sticky status, w = 0 to 3. -/
def FC_STICKY : Reg := ⟨0xD0040, 0, 4, 0x4, 1, 0x10000000, .m, 0x0, 0x0, 0xFFFFFFFF, 0x0, 0x0, 0x0, 0x0⟩
/-- FC_ACTIVEw, spec/17: Sources ACTIVE or QUIET. -/
def FC_ACTIVE : Reg := ⟨0xD0050, 0, 4, 0x4, 1, 0x10000000, .m, 0x0, 0x0, 0x0, 0x0, 0x0, 0x0, 0x0⟩
/-- FC_LATCHw, spec/17: Sources LATCHED. -/
def FC_LATCH : Reg := ⟨0xD0060, 0, 4, 0x4, 1, 0x10000000, .n, 0x0, 0x0, 0x0, 0x0, 0x0, 0x0, 0x0⟩
/-- FC_FORCEw, spec/17: Force bits. -/
def FC_FORCE : Reg := ⟨0xD0070, 0, 4, 0x4, 1, 0x10000000, .m, 0x0, 0x0, 0x0, 0x0, 0x0, 0xFFFFFFFF, 0x0⟩
/-- FC_SRCk, spec/17: State of source k, k = 0 to 127. -/
def FC_SRC : Reg := ⟨0xD0400, 0, 128, 0x4, 1, 0x10000000, .m, 0x0, 0x0, 0x0, 0x0, 0x0, 0x0, 0x0⟩
/-- FC_REACTk, spec/17: Reaction of source k. -/
def FC_REACT : Reg := ⟨0xD0600, 0, 128, 0x4, 1, 0x10000000, .m, 0x0, 0x0, 0x0, 0x0, 0xFF07001F, 0x0, 0x0⟩
/-- FC_RECk, spec/17: Recovery counts of source k. -/
def FC_REC : Reg := ⟨0xD0800, 0, 128, 0x4, 1, 0x10000000, .n, 0x0, 0x0, 0x0, 0x0, 0x0, 0x0, 0x0⟩
/-- FC_DETAILk, spec/17: Block of the last raise of source k. -/
def FC_DETAIL : Reg := ⟨0xD0A00, 0, 128, 0x4, 1, 0x10000000, .m, 0x0, 0x0, 0x0, 0x0, 0x0, 0x0, 0x0⟩
/-- REC_STATUS, spec/18: Queues and selected record. -/
def REC_STATUS : Reg := ⟨0xE0000, 0, 1, 0x1, 1, 0x10000000, .m, 0x0, 0x0, 0x0, 0x0, 0x0, 0x0, 0x0⟩
/-- REC_NEXT_LO, spec/18: Next record number, bits [31:0]. -/
def REC_NEXT_LO : Reg := ⟨0xE0004, 0, 1, 0x1, 1, 0x10000000, .n, 0x0, 0x0, 0x0, 0x0, 0x0, 0x0, 0x0⟩
/-- REC_NEXT_HI, spec/18: Bits [47:32]. -/
def REC_NEXT_HI : Reg := ⟨0xE0008, 0, 1, 0x1, 1, 0x10000000, .n, 0x0, 0x0, 0x0, 0x0, 0x0, 0x0, 0x0⟩
/-- REC_OLDEST_LO, spec/18: Oldest ring record, bits [31:0]. -/
def REC_OLDEST_LO : Reg := ⟨0xE000C, 0, 1, 0x1, 1, 0x10000000, .n, 0x1000, 0x0, 0x0, 0x0, 0x0, 0x0, 0x0⟩
/-- REC_OLDEST_HI, spec/18: Bits [47:32]. -/
def REC_OLDEST_HI : Reg := ⟨0xE0010, 0, 1, 0x1, 1, 0x10000000, .n, 0x0, 0x0, 0x0, 0x0, 0x0, 0x0, 0x0⟩
/-- REC_CLEAR_AT_LO, spec/18: AT of the last clear, bits [31:0]. -/
def REC_CLEAR_AT_LO : Reg := ⟨0xE0014, 0, 1, 0x1, 1, 0x10000000, .n, 0x0, 0x0, 0x0, 0x0, 0x0, 0x0, 0x0⟩
/-- REC_CLEAR_AT_HI, spec/18: Bits [63:32]. -/
def REC_CLEAR_AT_HI : Reg := ⟨0xE0018, 0, 1, 0x1, 1, 0x10000000, .n, 0x0, 0x0, 0x0, 0x0, 0x0, 0x0, 0x0⟩
/-- REC_CLEARS, spec/18: Clears since delivery. -/
def REC_CLEARS : Reg := ⟨0xE001C, 0, 1, 0x1, 1, 0x10000000, .n, 0x0, 0x0, 0x0, 0x0, 0x0, 0x0, 0x0⟩
/-- REC_DROPc, spec/18: Intake drops of class c, c = 0 to 3. -/
def REC_DROP : Reg := ⟨0xE0020, 0, 4, 0x4, 1, 0x10000000, .n, 0x0, 0x0, 0x0, 0x0, 0x0, 0x0, 0x0⟩
/-- ALM_DROPc, spec/18: Alarm drops of class c. -/
def ALM_DROP : Reg := ⟨0xE0030, 0, 4, 0x4, 1, 0x10000000, .n, 0x0, 0x0, 0x0, 0x0, 0x0, 0x0, 0x0⟩
/-- REC_SEL_LO, spec/18: Record selector, bits [31:0]. -/
def REC_SEL_LO : Reg := ⟨0xE0040, 0, 1, 0x1, 1, 0x10000000, .m, 0x0, 0xFFFFFFFF, 0x0, 0x0, 0x0, 0x0, 0x0⟩
/-- REC_SEL_HI, spec/18: Bits [47:32]. -/
def REC_SEL_HI : Reg := ⟨0xE0044, 0, 1, 0x1, 1, 0x10000000, .m, 0x0, 0xFFFF, 0x0, 0x0, 0x0, 0x0, 0x0⟩
/-- REC_WINw, spec/18: Word w of the selected record, w = 0 to 7. -/
def REC_WIN : Reg := ⟨0xE0050, 0, 8, 0x4, 1, 0x10000000, .m, 0x0, 0x0, 0x0, 0x0, 0x0, 0x0, 0x0⟩
/-- REC_DIRSEL, spec/18: Code selector. -/
def REC_DIRSEL : Reg := ⟨0xE0070, 0, 1, 0x1, 1, 0x10000000, .m, 0x0, 0xFFFF, 0x0, 0x0, 0x0, 0x0, 0x0⟩
/-- REC_DIR, spec/18: Directory entry of the selected code. -/
def REC_DIR : Reg := ⟨0xE0074, 0, 1, 0x1, 1, 0x10000000, .m, 0x0, 0x0, 0x0, 0x0, 0x0, 0x0, 0x0⟩
/-- CL_NEXT, spec/18: Next change-log SEQ. -/
def CL_NEXT : Reg := ⟨0xE0080, 0, 1, 0x1, 1, 0x10000000, .n, 0x0, 0x0, 0x0, 0x0, 0x0, 0x0, 0x0⟩
/-- CL_SEL, spec/18: Change-log selector. -/
def CL_SEL : Reg := ⟨0xE0084, 0, 1, 0x1, 1, 0x10000000, .m, 0x0, 0xFFFFFFFF, 0x0, 0x0, 0x0, 0x0, 0x0⟩
/-- CL_WINw, spec/18: Word w of the selected entry, w = 0 to 15. -/
def CL_WIN : Reg := ⟨0xE00A0, 0, 16, 0x4, 1, 0x10000000, .m, 0x0, 0x0, 0x0, 0x0, 0x0, 0x0, 0x0⟩
/-- HW_ID, spec/19: Hardware type identity. -/
def HW_ID : Reg := ⟨0x10000, 0, 1, 0x1, 1, 0x10000000, .n, 0xD030000, 0x0, 0x0, 0x0, 0x0, 0x0, 0x0⟩
/-- SERIAL_LO, spec/19: Serial number bits [31:0]. -/
def SERIAL_LO : Reg := ⟨0x10004, 0, 1, 0x1, 1, 0x10000000, .n, 0x0, 0x0, 0x0, 0x0, 0x0, 0x0, 0x0⟩
/-- SERIAL_HI, spec/19: Serial number bits [63:32]. -/
def SERIAL_HI : Reg := ⟨0x10008, 0, 1, 0x1, 1, 0x10000000, .n, 0x0, 0x0, 0x0, 0x0, 0x0, 0x0, 0x0⟩
/-- MODE, spec/19: Mode, previous mode, cause. -/
def MODE : Reg := ⟨0x1000C, 0, 1, 0x1, 1, 0x10000000, .m, 0x1, 0x0, 0x0, 0x0, 0x0, 0x0, 0x0⟩
/-- MODE_AT_LO, spec/19: AT of the last change, bits [31:0]. -/
def MODE_AT_LO : Reg := ⟨0x10010, 0, 1, 0x1, 1, 0x10000000, .m, 0x0, 0x0, 0x0, 0x0, 0x0, 0x0, 0x0⟩
/-- MODE_AT_HI, spec/19: AT of the last change, bits [63:32]. -/
def MODE_AT_HI : Reg := ⟨0x10014, 0, 1, 0x1, 1, 0x10000000, .m, 0x0, 0x0, 0x0, 0x0, 0x0, 0x0, 0x0⟩
/-- RESTART, spec/19: Authorised restart. -/
def RESTART : Reg := ⟨0x10018, 0, 1, 0x1, 1, 0x10000000, .p, 0x0, 0x0, 0x0, 0x0, 0x0, 0x0, 0x0⟩
/-- RST_CAUSE, spec/19: Causes of the last POR or MRST. -/
def RST_CAUSE : Reg := ⟨0xF0000, 0, 1, 0x1, 1, 0x10000000, .p, 0x1, 0x0, 0x0, 0x0, 0x0, 0x0, 0x0⟩
/-- RST_CNT, spec/19: Resets since delivery. -/
def RST_CNT : Reg := ⟨0xF0004, 0, 1, 0x1, 1, 0x10000000, .n, 0x0, 0x0, 0x0, 0x0, 0x0, 0x0, 0x0⟩
/-- RST_CMD, spec/19: Block reset request. -/
def RST_CMD : Reg := ⟨0xF0008, 0, 1, 0x1, 1, 0x10000000, .m, 0x0, 0x0, 0x0, 0x0, 0x0, 0xFF, 0x0⟩
/-- SUP_STATUS, spec/19: Supply state. -/
def SUP_STATUS : Reg := ⟨0xF000C, 0, 1, 0x1, 1, 0x10000000, .m, 0x0, 0x0, 0x0, 0x0, 0x0, 0x0, 0x0⟩
/-- SUP_FEEDS, spec/19: Feed voltages. -/
def SUP_FEEDS : Reg := ⟨0xF0010, 0, 1, 0x1, 1, 0x10000000, .m, 0x0, 0x0, 0x0, 0x0, 0x0, 0x0, 0x0⟩
/-- SUP_HOLDUP, spec/19: Hold-up bus and test. -/
def SUP_HOLDUP : Reg := ⟨0xF0014, 0, 1, 0x1, 1, 0x10000000, .m, 0x0, 0x0, 0x0, 0x0, 0x0, 0x0, 0x0⟩
/-- SUP_DIP, spec/19: Dips. -/
def SUP_DIP : Reg := ⟨0xF0018, 0, 1, 0x1, 1, 0x10000000, .n, 0x0, 0x0, 0x0, 0x0, 0x0, 0x0, 0x0⟩
/-- PWR_CFG, spec/19: Power-state ceilings. -/
def PWR_CFG : Reg := ⟨0xF001C, 0, 1, 0x1, 1, 0x10000000, .m, 0x0, 0x0, 0x0, 0x0, 0x77, 0x0, 0x0⟩
/-- PWR_STATE, spec/19: Spire power states. -/
def PWR_STATE : Reg := ⟨0xF0020, 0, 1, 0x1, 1, 0x10000000, .m, 0x0, 0x0, 0x0, 0x0, 0x0, 0x0, 0x0⟩
/-- PWR_WAKES, spec/19: Wake counts. -/
def PWR_WAKES : Reg := ⟨0xF0024, 0, 1, 0x1, 1, 0x10000000, .m, 0x0, 0x0, 0x0, 0x0, 0x0, 0x0, 0x0⟩
/-- PWR_CTRL, spec/19: Counter clear. -/
def PWR_CTRL : Reg := ⟨0xF0028, 0, 1, 0x1, 1, 0x10000000, .m, 0x0, 0x0, 0x0, 0x1, 0x0, 0x0, 0x0⟩
/-- ATT_STATUS, spec/20: Measured start and Lantern state. -/
def ATT_STATUS : Reg := ⟨0x100000, 0, 3, 0x1000000, 1, 0x10000000, .c, 0x0, 0x0, 0x0, 0x0, 0x0, 0x0, 0x0⟩
/-- ATT_EXT, spec/20: Extension counts. -/
def ATT_EXT : Reg := ⟨0x100004, 0, 3, 0x1000000, 1, 0x10000000, .c, 0x0, 0x0, 0x0, 0x0, 0x0, 0x0, 0x0⟩
/-- ATT_QCNT, spec/20: Quotes signed and dropped. -/
def ATT_QCNT : Reg := ⟨0x100008, 0, 3, 0x1000000, 1, 0x10000000, .m, 0x0, 0x0, 0x0, 0x0, 0x0, 0x0, 0x0⟩
/-- ATT_CTRL, spec/20: Counter clear. -/
def ATT_CTRL : Reg := ⟨0x10000C, 0, 3, 0x1000000, 1, 0x10000000, .m, 0x0, 0x0, 0x0, 0x1, 0x0, 0x0, 0x0⟩
/-- ATT_HSEL, spec/20: History selector. -/
def ATT_HSEL : Reg := ⟨0x100010, 0, 3, 0x1000000, 1, 0x10000000, .m, 0x0, 0x3F, 0x0, 0x0, 0x0, 0x0, 0x0⟩
/-- ATT_HINFO, spec/20: Selected history entry. -/
def ATT_HINFO : Reg := ⟨0x100014, 0, 3, 0x1000000, 1, 0x10000000, .m, 0x0, 0x0, 0x0, 0x0, 0x0, 0x0, 0x0⟩
/-- ATT_HWINw, spec/20: Digest word w of the entry, w = 0 to 7. -/
def ATT_HWIN : Reg := ⟨0x100020, 0, 8, 0x4, 3, 0x1000000, .m, 0x0, 0x0, 0x0, 0x0, 0x0, 0x0, 0x0⟩
/-- ATT_KEYFPw, spec/20: SHA-256 of the attestation public key, word w. -/
def ATT_KEYFP : Reg := ⟨0x100040, 0, 8, 0x4, 3, 0x1000000, .n, 0x0, 0x0, 0x0, 0x0, 0x0, 0x0, 0x0⟩
/-- TALLYt_w, spec/20: Tally t, t = 1 to 8, word w = 0 to 7. -/
def TALLY : Reg := ⟨0x100100, 0, 64, 0x4, 3, 0x1000000, .c, 0x0, 0x0, 0x0, 0x0, 0x0, 0x0, 0x0⟩
/-- UPD_STATUS, spec/21: Stage, sets and trial. -/
def UPD_STATUS : Reg := ⟨0x110000, 0, 1, 0x1, 1, 0x10000000, .m, 0x0, 0x0, 0x0, 0x0, 0x0, 0x0, 0x0⟩
/-- UPD_PKG, spec/21: Package in the inactive slot. -/
def UPD_PKG : Reg := ⟨0x110004, 0, 1, 0x1, 1, 0x10000000, .n, 0x0, 0x0, 0x0, 0x0, 0x0, 0x0, 0x0⟩
/-- UPD_SECVER, spec/21: Secure-element counter. -/
def UPD_SECVER : Reg := ⟨0x110008, 0, 1, 0x1, 1, 0x10000000, .n, 0x0, 0x0, 0x0, 0x0, 0x0, 0x0, 0x0⟩
/-- UPD_NEXTs, spec/21: Download progress of spire s, s = 0 to 2. -/
def UPD_NEXT : Reg := ⟨0x11000C, 0, 3, 0x4, 1, 0x10000000, .n, 0x0, 0x0, 0x0, 0x0, 0x0, 0x0, 0x0⟩
/-- UPD_FAIL, spec/21: Last verification failure. -/
def UPD_FAIL : Reg := ⟨0x110018, 0, 1, 0x1, 1, 0x10000000, .m, 0x0, 0x0, 0x0, 0x0, 0x0, 0x0, 0x0⟩
/-- UPD_LAST, spec/21: Last reversion. -/
def UPD_LAST : Reg := ⟨0x11001C, 0, 1, 0x1, 1, 0x10000000, .n, 0x0, 0x0, 0x0, 0x0, 0x0, 0x0, 0x0⟩
/-- UPD_DL_LO, spec/21: DEADLINE bits [31:0]. -/
def UPD_DL_LO : Reg := ⟨0x110020, 0, 1, 0x1, 1, 0x10000000, .n, 0x0, 0x0, 0x0, 0x0, 0x0, 0x0, 0x0⟩
/-- UPD_DL_HI, spec/21: DEADLINE bits [47:32]. -/
def UPD_DL_HI : Reg := ⟨0x110024, 0, 1, 0x1, 1, 0x10000000, .n, 0x0, 0x0, 0x0, 0x0, 0x0, 0x0, 0x0⟩
/-- OL_STATUS, spec/21: On-line change. -/
def OL_STATUS : Reg := ⟨0x110028, 0, 1, 0x1, 1, 0x10000000, .m, 0x0, 0x0, 0x0, 0x0, 0x0, 0x0, 0x0⟩
/-- OL_TARGET, spec/21: Target COUNT. -/
def OL_TARGET : Reg := ⟨0x11002C, 0, 1, 0x1, 1, 0x10000000, .m, 0x0, 0x0, 0x0, 0x0, 0x0, 0x0, 0x0⟩
/-- SVC_STATUS, spec/21: Service sessions. -/
def SVC_STATUS : Reg := ⟨0x110030, 0, 1, 0x1, 1, 0x10000000, .m, 0x0, 0x0, 0x0, 0x0, 0x0, 0x0, 0x0⟩
/-- STRAP, spec/22: Address strap as read in BOOT. -/
def STRAP : Reg := ⟨0x1001C, 0, 1, 0x1, 1, 0x10000000, .m, 0x0, 0x0, 0x0, 0x0, 0x0, 0x0, 0x0⟩
/-- SUP_TEMP, spec/22: Rail and spire temperatures. -/
def SUP_TEMP : Reg := ⟨0xF002C, 0, 1, 0x1, 1, 0x10000000, .m, 0x80808080, 0x0, 0x0, 0x0, 0x0, 0x0, 0x0⟩

end R

namespace F

/-- Field COUNT_L of AT_LO. -/
def AT_LO_COUNT_L : Field := ⟨R.AT_LO, 16, 16⟩
/-- Field ANGLE of AT_LO. -/
def AT_LO_ANGLE : Field := ⟨R.AT_LO, 0, 16⟩
/-- Field COUNT_H of AT_HI. -/
def AT_HI_COUNT_H : Field := ⟨R.AT_HI, 0, 32⟩
/-- Field TB_MS of TB_CFG. -/
def TB_CFG_TB_MS : Field := ⟨R.TB_CFG, 0, 9⟩
/-- Field TR_SEL of TB_CFG. -/
def TB_CFG_TR_SEL : Field := ⟨R.TB_CFG, 9, 3⟩
/-- Field REF_PRI of WV_CFG. -/
def WV_CFG_REF_PRI : Field := ⟨R.WV_CFG, 0, 3⟩
/-- Field REF_SEC of WV_CFG. -/
def WV_CFG_REF_SEC : Field := ⟨R.WV_CFG, 3, 3⟩
/-- Field N_CYC of WV_CFG. -/
def WV_CFG_N_CYC : Field := ⟨R.WV_CFG, 8, 8⟩
/-- Field N_REF of WV_CFG. -/
def WV_CFG_N_REF : Field := ⟨R.WV_CFG, 16, 16⟩
/-- Field STATE of WV_STATUS. -/
def WV_STATUS_STATE : Field := ⟨R.WV_STATUS, 0, 3⟩
/-- Field SRC of WV_STATUS. -/
def WV_STATUS_SRC : Field := ⟨R.WV_STATUS, 3, 3⟩
/-- Field MASTER of WV_STATUS. -/
def WV_STATUS_MASTER : Field := ⟨R.WV_STATUS, 6, 1⟩
/-- Field MHOLD of WV_STATUS. -/
def WV_STATUS_MHOLD : Field := ⟨R.WV_STATUS, 7, 1⟩
/-- Field AT_VALID of WV_STATUS. -/
def WV_STATUS_AT_VALID : Field := ⟨R.WV_STATUS, 8, 1⟩
/-- Field PHASE_ERR of WV_STATUS. -/
def WV_STATUS_PHASE_ERR : Field := ⟨R.WV_STATUS, 16, 16⟩
/-- Field TB_NS of TB_MEAS. -/
def TB_MEAS_TB_NS : Field := ⟨R.TB_MEAS, 0, 32⟩
/-- Field MINUTES of HOLD_LIMIT. -/
def HOLD_LIMIT_MINUTES : Field := ⟨R.HOLD_LIMIT, 0, 11⟩
/-- Field REF of ANCHOR_CFG. -/
def ANCHOR_CFG_REF : Field := ⟨R.ANCHOR_CFG, 0, 3⟩
/-- Field OFFSET of ANCHOR_CFG. -/
def ANCHOR_CFG_OFFSET : Field := ⟨R.ANCHOR_CFG, 8, 8⟩
/-- Field PHASE of REF_PHASE. -/
def REF_PHASE_PHASE : Field := ⟨R.REF_PHASE, 0, 16⟩
/-- Field VALID of REF_PHASE. -/
def REF_PHASE_VALID : Field := ⟨R.REF_PHASE, 16, 1⟩
/-- Field AGE of REF_PHASE. -/
def REF_PHASE_AGE : Field := ⟨R.REF_PHASE, 24, 8⟩
/-- Field PERIOD_NS of REF_PERIOD. -/
def REF_PERIOD_PERIOD_NS : Field := ⟨R.REF_PERIOD, 0, 32⟩
/-- Field SRC of CIVIL_STATUS. -/
def CIVIL_STATUS_SRC : Field := ⟨R.CIVIL_STATUS, 0, 2⟩
/-- Field VALID of CIVIL_STATUS. -/
def CIVIL_STATUS_VALID : Field := ⟨R.CIVIL_STATUS, 2, 1⟩
/-- Field STEPPED of CIVIL_STATUS. -/
def CIVIL_STATUS_STEPPED : Field := ⟨R.CIVIL_STATUS, 3, 1⟩
/-- Field PTP_PORT of CIVIL_STATUS. -/
def CIVIL_STATUS_PTP_PORT : Field := ⟨R.CIVIL_STATUS, 4, 4⟩
/-- Field MARK_L of AT_MARK_LO. -/
def AT_MARK_LO_MARK_L : Field := ⟨R.AT_MARK_LO, 0, 32⟩
/-- Field MARK_H of AT_MARK_HI. -/
def AT_MARK_HI_MARK_H : Field := ⟨R.AT_MARK_HI, 0, 16⟩
/-- Field LOSS_CNT of WV_EVENTS. -/
def WV_EVENTS_LOSS_CNT : Field := ⟨R.WV_EVENTS, 0, 16⟩
/-- Field HOLD_CNT of WV_EVENTS. -/
def WV_EVENTS_HOLD_CNT : Field := ⟨R.WV_EVENTS, 16, 16⟩
/-- Field FAIL_CODE of IMG_STATUS. -/
def IMG_STATUS_FAIL_CODE : Field := ⟨R.IMG_STATUS, 0, 8⟩
/-- Field FAIL_CODE of STG_STATUS. -/
def STG_STATUS_FAIL_CODE : Field := ⟨R.STG_STATUS, 0, 8⟩
/-- Field DONE of IMG_STATUS. -/
def IMG_STATUS_DONE : Field := ⟨R.IMG_STATUS, 8, 1⟩
/-- Field DONE of STG_STATUS. -/
def STG_STATUS_DONE : Field := ⟨R.STG_STATUS, 8, 1⟩
/-- Field BENCH of IMG_STATUS. -/
def IMG_STATUS_BENCH : Field := ⟨R.IMG_STATUS, 9, 1⟩
/-- Field BENCH of STG_STATUS. -/
def STG_STATUS_BENCH : Field := ⟨R.STG_STATUS, 9, 1⟩
/-- Field DELTA of IMG_STATUS. -/
def IMG_STATUS_DELTA : Field := ⟨R.IMG_STATUS, 10, 1⟩
/-- Field DELTA of STG_STATUS. -/
def STG_STATUS_DELTA : Field := ⟨R.STG_STATUS, 10, 1⟩
/-- Field ACCEPT of IMG_STATUS. -/
def IMG_STATUS_ACCEPT : Field := ⟨R.IMG_STATUS, 11, 3⟩
/-- Field ACCEPT of STG_STATUS. -/
def STG_STATUS_ACCEPT : Field := ⟨R.STG_STATUS, 11, 3⟩
/-- Field SECTION of IMG_STATUS. -/
def IMG_STATUS_SECTION : Field := ⟨R.IMG_STATUS, 16, 16⟩
/-- Field SECTION of STG_STATUS. -/
def STG_STATUS_SECTION : Field := ⟨R.STG_STATUS, 16, 16⟩
/-- Field OFFSET of IMG_FAIL_OFFSET. -/
def IMG_FAIL_OFFSET_OFFSET : Field := ⟨R.IMG_FAIL_OFFSET, 0, 32⟩
/-- Field SLOT0 of IMGKEY_STATE. -/
def IMGKEY_STATE_SLOT0 : Field := ⟨R.IMGKEY_STATE, 0, 2⟩
/-- Field SLOT1 of IMGKEY_STATE. -/
def IMGKEY_STATE_SLOT1 : Field := ⟨R.IMGKEY_STATE, 2, 2⟩
/-- Field SLOT2 of IMGKEY_STATE. -/
def IMGKEY_STATE_SLOT2 : Field := ⟨R.IMGKEY_STATE, 4, 2⟩
/-- Field SLOT3 of IMGKEY_STATE. -/
def IMGKEY_STATE_SLOT3 : Field := ⟨R.IMGKEY_STATE, 6, 2⟩
/-- Field LAST_USED of IMGKEY_STATE. -/
def IMGKEY_STATE_LAST_USED : Field := ⟨R.IMGKEY_STATE, 8, 8⟩
/-- Field RUN of LE_STATUS. -/
def LE_STATUS_RUN : Field := ⟨R.LE_STATUS, 0, 1⟩
/-- Field STOPPED of LE_STATUS. -/
def LE_STATUS_STOPPED : Field := ⟨R.LE_STATUS, 1, 1⟩
/-- Field BARRIER of LE_STATUS. -/
def LE_STATUS_BARRIER : Field := ⟨R.LE_STATUS, 2, 1⟩
/-- Field DEPTH of LE_STATUS. -/
def LE_STATUS_DEPTH : Field := ⟨R.LE_STATUS, 3, 5⟩
/-- Field EN of LE_STATUS. -/
def LE_STATUS_EN : Field := ⟨R.LE_STATUS, 8, 8⟩
/-- Field TYPE of LE_STATUS. -/
def LE_STATUS_TYPE : Field := ⟨R.LE_STATUS, 16, 10⟩
/-- Field CAUSE of LE_ERROR. -/
def LE_ERROR_CAUSE : Field := ⟨R.LE_ERROR, 0, 8⟩
/-- Field LANE of LE_ERROR. -/
def LE_ERROR_LANE : Field := ⟨R.LE_ERROR, 8, 3⟩
/-- Field PC of LE_ERR_PC. -/
def LE_ERR_PC_PC : Field := ⟨R.LE_ERR_PC, 0, 21⟩
/-- Field GROUP of LE_ERR_GROUP. -/
def LE_ERR_GROUP_GROUP : Field := ⟨R.LE_ERR_GROUP, 0, 13⟩
/-- Field CLR_MAX of LE_CTRL. -/
def LE_CTRL_CLR_MAX : Field := ⟨R.LE_CTRL, 0, 1⟩
/-- Field CLR_CNT of LE_CTRL. -/
def LE_CTRL_CLR_CNT : Field := ⟨R.LE_CTRL, 1, 1⟩
/-- Field NOW of LE_NOW. -/
def LE_NOW_NOW : Field := ⟨R.LE_NOW, 0, 30⟩
/-- Field TYPES of LE_TYPES. -/
def LE_TYPES_TYPES : Field := ⟨R.LE_TYPES, 0, 11⟩
/-- Field INSTANCES of LE_INSTANCES. -/
def LE_INSTANCES_INSTANCES : Field := ⟨R.LE_INSTANCES, 0, 17⟩
/-- Field TIMERS of LE_TIMERS. -/
def LE_TIMERS_TIMERS : Field := ⟨R.LE_TIMERS, 0, 18⟩
/-- Field WORDS of LE_CODE_LEN. -/
def LE_CODE_LEN_WORDS : Field := ⟨R.LE_CODE_LEN, 0, 21⟩
/-- Field INDEX of FORCE. -/
def FORCE_INDEX : Field := ⟨R.FORCE, 0, 21⟩
/-- Field SPACE of FORCE. -/
def FORCE_SPACE : Field := ⟨R.FORCE, 21, 3⟩
/-- Field ENABLE of FORCE. -/
def FORCE_ENABLE : Field := ⟨R.FORCE, 31, 1⟩
/-- Field COUNT of FORCE_COUNT. -/
def FORCE_COUNT_COUNT : Field := ⟨R.FORCE_COUNT, 0, 6⟩
/-- Field VITAL of FORCE_COUNT. -/
def FORCE_COUNT_VITAL : Field := ⟨R.FORCE_COUNT, 8, 6⟩
/-- Field MODE of SCH_CFG. -/
def SCH_CFG_MODE : Field := ⟨R.SCH_CFG, 0, 1⟩
/-- Field NPER of SCH_CFG. -/
def SCH_CFG_NPER : Field := ⟨R.SCH_CFG, 1, 4⟩
/-- Field NEVT of SCH_CFG. -/
def SCH_CFG_NEVT : Field := ⟨R.SCH_CFG, 5, 5⟩
/-- Field SEAL_ANG of SCH_CFG. -/
def SCH_CFG_SEAL_ANG : Field := ⟨R.SCH_CFG, 16, 16⟩
/-- Field BOUND of SWEEP_CFG. -/
def SWEEP_CFG_BOUND : Field := ⟨R.SWEEP_CFG, 0, 3⟩
/-- Field NSTART of SWEEP_CFG. -/
def SWEEP_CFG_NSTART : Field := ⟨R.SWEEP_CFG, 3, 3⟩
/-- Field NOUT of SWEEP_CFG. -/
def SWEEP_CFG_NOUT : Field := ⟨R.SWEEP_CFG, 6, 3⟩
/-- Field ANG_LO of SWEEP_ANG0. -/
def SWEEP_ANG0_ANG_LO : Field := ⟨R.SWEEP_ANG0, 0, 16⟩
/-- Field ANG_LO of SWEEP_ANG1. -/
def SWEEP_ANG1_ANG_LO : Field := ⟨R.SWEEP_ANG1, 0, 16⟩
/-- Field ANG_LO of SWEEP_ANG2. -/
def SWEEP_ANG2_ANG_LO : Field := ⟨R.SWEEP_ANG2, 0, 16⟩
/-- Field ANG_LO of SWEEP_ANG3. -/
def SWEEP_ANG3_ANG_LO : Field := ⟨R.SWEEP_ANG3, 0, 16⟩
/-- Field ANG_HI of SWEEP_ANG0. -/
def SWEEP_ANG0_ANG_HI : Field := ⟨R.SWEEP_ANG0, 16, 16⟩
/-- Field ANG_HI of SWEEP_ANG1. -/
def SWEEP_ANG1_ANG_HI : Field := ⟨R.SWEEP_ANG1, 16, 16⟩
/-- Field ANG_HI of SWEEP_ANG2. -/
def SWEEP_ANG2_ANG_HI : Field := ⟨R.SWEEP_ANG2, 16, 16⟩
/-- Field ANG_HI of SWEEP_ANG3. -/
def SWEEP_ANG3_ANG_HI : Field := ⟨R.SWEEP_ANG3, 16, 16⟩
/-- Field CUR of SCH_STATUS. -/
def SCH_STATUS_CUR : Field := ⟨R.SCH_STATUS, 0, 5⟩
/-- Field SEALED of SCH_STATUS. -/
def SCH_STATUS_SEALED : Field := ⟨R.SCH_STATUS, 5, 1⟩
/-- Field HOLD of SCH_STATUS. -/
def SCH_STATUS_HOLD : Field := ⟨R.SCH_STATUS, 6, 1⟩
/-- Field PER of SCH_READY. -/
def SCH_READY_PER : Field := ⟨R.SCH_READY, 0, 8⟩
/-- Field EVT of SCH_READY. -/
def SCH_READY_EVT : Field := ⟨R.SCH_READY, 8, 16⟩
/-- Field TASK of WDOG_STATUS. -/
def WDOG_STATUS_TASK : Field := ⟨R.WDOG_STATUS, 0, 5⟩
/-- Field TRIPPED of WDOG_STATUS. -/
def WDOG_STATUS_TRIPPED : Field := ⟨R.WDOG_STATUS, 8, 1⟩
/-- Field ANGLE of WDOG_STATUS. -/
def WDOG_STATUS_ANGLE : Field := ⟨R.WDOG_STATUS, 16, 16⟩
/-- Field GROUP of WDOG_GROUP. -/
def WDOG_GROUP_GROUP : Field := ⟨R.WDOG_GROUP, 0, 13⟩
/-- Field SEAL_MISS of SCH_EVENTS. -/
def SCH_EVENTS_SEAL_MISS : Field := ⟨R.SCH_EVENTS, 0, 16⟩
/-- Field HELD of SCH_EVENTS. -/
def SCH_EVENTS_HELD : Field := ⟨R.SCH_EVENTS, 16, 16⟩
/-- Field CLR_STATS of SCH_CTRL. -/
def SCH_CTRL_CLR_STATS : Field := ⟨R.SCH_CTRL, 0, 1⟩
/-- Field CAU of SWP_LAST. -/
def SWP_LAST_CAU : Field := ⟨R.SWP_LAST, 0, 18⟩
/-- Field CAU of SWP_MAX. -/
def SWP_MAX_CAU : Field := ⟨R.SWP_MAX, 0, 18⟩
/-- Field PERIOD_EXP of PT_CFG. -/
def PT_CFG_PERIOD_EXP : Field := ⟨R.PT_CFG, 0, 3⟩
/-- Field PHASE of PT_CFG. -/
def PT_CFG_PHASE : Field := ⟨R.PT_CFG, 3, 4⟩
/-- Field KIND of ET_CFG. -/
def ET_CFG_KIND : Field := ⟨R.ET_CFG, 0, 1⟩
/-- Field SRC of ET_CFG. -/
def ET_CFG_SRC : Field := ⟨R.ET_CFG, 1, 6⟩
/-- Field EDGE of ET_CFG. -/
def ET_CFG_EDGE : Field := ⟨R.ET_CFG, 8, 2⟩
/-- Field PRIO of PT_CFG. -/
def PT_CFG_PRIO : Field := ⟨R.PT_CFG, 16, 5⟩
/-- Field PRIO of ET_CFG. -/
def ET_CFG_PRIO : Field := ⟨R.ET_CFG, 16, 5⟩
/-- Field DEFINED of PT_CFG. -/
def PT_CFG_DEFINED : Field := ⟨R.PT_CFG, 31, 1⟩
/-- Field DEFINED of ET_CFG. -/
def ET_CFG_DEFINED : Field := ⟨R.ET_CFG, 31, 1⟩
/-- Field IN_ANG of PT_ANG_A. -/
def PT_ANG_A_IN_ANG : Field := ⟨R.PT_ANG_A, 0, 16⟩
/-- Field REL_ANG of PT_ANG_A. -/
def PT_ANG_A_REL_ANG : Field := ⟨R.PT_ANG_A, 16, 16⟩
/-- Field DL_ANG of PT_ANG_B. -/
def PT_ANG_B_DL_ANG : Field := ⟨R.PT_ANG_B, 0, 16⟩
/-- Field OUT_ANG of PT_ANG_B. -/
def PT_ANG_B_OUT_ANG : Field := ⟨R.PT_ANG_B, 16, 16⟩
/-- Field DL_REL of ET_TIME. -/
def ET_TIME_DL_REL : Field := ⟨R.ET_TIME, 0, 16⟩
/-- Field MIN_SEP of ET_TIME. -/
def ET_TIME_MIN_SEP : Field := ⟨R.ET_TIME, 16, 16⟩
/-- Field OUT_ANG of ET_OUT. -/
def ET_OUT_OUT_ANG : Field := ⟨R.ET_OUT, 0, 16⟩
/-- Field FIRST of PT_GROUPS. -/
def PT_GROUPS_FIRST : Field := ⟨R.PT_GROUPS, 0, 13⟩
/-- Field FIRST of ET_GROUPS. -/
def ET_GROUPS_FIRST : Field := ⟨R.ET_GROUPS, 0, 13⟩
/-- Field COUNT of PT_GROUPS. -/
def PT_GROUPS_COUNT : Field := ⟨R.PT_GROUPS, 16, 14⟩
/-- Field COUNT of ET_GROUPS. -/
def ET_GROUPS_COUNT : Field := ⟨R.ET_GROUPS, 16, 14⟩
/-- Field FIN_ANG of PT_LAST. -/
def PT_LAST_FIN_ANG : Field := ⟨R.PT_LAST, 0, 16⟩
/-- Field FIN_ANG of ET_LAST. -/
def ET_LAST_FIN_ANG : Field := ⟨R.ET_LAST, 0, 16⟩
/-- Field SLACK of PT_LAST. -/
def PT_LAST_SLACK : Field := ⟨R.PT_LAST, 16, 16⟩
/-- Field SLACK of ET_LAST. -/
def ET_LAST_SLACK : Field := ⟨R.ET_LAST, 16, 16⟩
/-- Field RELEASES of PT_CNT. -/
def PT_CNT_RELEASES : Field := ⟨R.PT_CNT, 0, 16⟩
/-- Field RELEASES of ET_CNT. -/
def ET_CNT_RELEASES : Field := ⟨R.ET_CNT, 0, 16⟩
/-- Field PREEMPT of PT_CNT. -/
def PT_CNT_PREEMPT : Field := ⟨R.PT_CNT, 16, 16⟩
/-- Field MERGED of ET_CNT. -/
def ET_CNT_MERGED : Field := ⟨R.ET_CNT, 16, 16⟩
/-- Field TOKENS of KP_TOKENS. -/
def KP_TOKENS_TOKENS : Field := ⟨R.KP_TOKENS, 0, 17⟩
/-- Field TRANSACTIONS of KP_TRANS. -/
def KP_TRANS_TRANSACTIONS : Field := ⟨R.KP_TRANS, 0, 13⟩
/-- Field ROUTES of KP_TRANS. -/
def KP_TRANS_ROUTES : Field := ⟨R.KP_TRANS, 16, 16⟩
/-- Field MATRIX of KP_LOCKM. -/
def KP_LOCKM_MATRIX : Field := ⟨R.KP_LOCKM, 0, 25⟩
/-- Field OPEN of KP_STATUS. -/
def KP_STATUS_OPEN : Field := ⟨R.KP_STATUS, 0, 13⟩
/-- Field AUDIT_RUN of KP_STATUS. -/
def KP_STATUS_AUDIT_RUN : Field := ⟨R.KP_STATUS, 16, 1⟩
/-- Field INTAKE_RUN of KP_STATUS. -/
def KP_STATUS_INTAKE_RUN : Field := ⟨R.KP_STATUS, 17, 1⟩
/-- Field PENDING of KP_STATUS. -/
def KP_STATUS_PENDING : Field := ⟨R.KP_STATUS, 24, 8⟩
/-- Field DONE of KP_AUDIT. -/
def KP_AUDIT_DONE : Field := ⟨R.KP_AUDIT, 0, 1⟩
/-- Field MISMATCH of KP_AUDIT. -/
def KP_AUDIT_MISMATCH : Field := ⟨R.KP_AUDIT, 1, 1⟩
/-- Field KIND of KP_AUDIT. -/
def KP_AUDIT_KIND : Field := ⟨R.KP_AUDIT, 2, 3⟩
/-- Field INDEX of KP_AUDIT. -/
def KP_AUDIT_INDEX : Field := ⟨R.KP_AUDIT, 16, 16⟩
/-- Field CLOCKS of KP_AUDIT_CLK. -/
def KP_AUDIT_CLK_CLOCKS : Field := ⟨R.KP_AUDIT_CLK, 0, 20⟩
/-- Field COUNT of KP_AUDIT_AT. -/
def KP_AUDIT_AT_COUNT : Field := ⟨R.KP_AUDIT_AT, 0, 32⟩
/-- Field CLR_CNT of KP_CTRL. -/
def KP_CTRL_CLR_CNT : Field := ⟨R.KP_CTRL, 0, 1⟩
/-- Field COUNT of KP_STATE. -/
def KP_STATE_COUNT : Field := ⟨R.KP_STATE, 0, 17⟩
/-- Field COUNT of KP_RES. -/
def KP_RES_COUNT : Field := ⟨R.KP_RES, 0, 32⟩
/-- Field OPEN_MAX of KP_PEAK. -/
def KP_PEAK_OPEN_MAX : Field := ⟨R.KP_PEAK, 0, 13⟩
/-- Field SHARE_MAX of KP_PEAK. -/
def KP_PEAK_SHARE_MAX : Field := ⟨R.KP_PEAK, 16, 8⟩
/-- Field TOKEN of KP_TSEL. -/
def KP_TSEL_TOKEN : Field := ⟨R.KP_TSEL, 0, 16⟩
/-- Field READY of KP_TSEL. -/
def KP_TSEL_READY : Field := ⟨R.KP_TSEL, 31, 1⟩
/-- Field SLOT of KP_XSEL. -/
def KP_XSEL_SLOT : Field := ⟨R.KP_XSEL, 0, 12⟩
/-- Field READY of KP_XSEL. -/
def KP_XSEL_READY : Field := ⟨R.KP_XSEL, 31, 1⟩
/-- Field TOKEN of KP_CMD. -/
def KP_CMD_TOKEN : Field := ⟨R.KP_CMD, 0, 16⟩
/-- Field CMD of KP_CMD. -/
def KP_CMD_CMD : Field := ⟨R.KP_CMD, 16, 4⟩
/-- Field BUSY of KP_CMD. -/
def KP_CMD_BUSY : Field := ⟨R.KP_CMD, 31, 1⟩
/-- Field RESULT of KP_CMD_RES. -/
def KP_CMD_RES_RESULT : Field := ⟨R.KP_CMD_RES, 0, 3⟩
/-- Field DONE of KP_CMD_RES. -/
def KP_CMD_RES_DONE : Field := ⟨R.KP_CMD_RES, 8, 1⟩
/-- Field PEERS of BT_CFG. -/
def BT_CFG_PEERS : Field := ⟨R.BT_CFG, 0, 5⟩
/-- Field T_OFFER of BT_CFG. -/
def BT_CFG_T_OFFER : Field := ⟨R.BT_CFG, 8, 8⟩
/-- Field T_CONF of BT_CFG. -/
def BT_CFG_T_CONF : Field := ⟨R.BT_CFG, 16, 8⟩
/-- Field T_FRESH of BT_CFG. -/
def BT_CFG_T_FRESH : Field := ⟨R.BT_CFG, 24, 5⟩
/-- Field T_LONG of BT_LONG. -/
def BT_LONG_T_LONG : Field := ⟨R.BT_LONG, 0, 12⟩
/-- Field TRANSFER of BT_STATUS. -/
def BT_STATUS_TRANSFER : Field := ⟨R.BT_STATUS, 0, 9⟩
/-- Field AUTH_REQ of BT_STATUS. -/
def BT_STATUS_AUTH_REQ : Field := ⟨R.BT_STATUS, 16, 16⟩
/-- Field COUNT of BT_RECON. -/
def BT_RECON_COUNT : Field := ⟨R.BT_RECON, 0, 17⟩
/-- Field COUNT of BT_RXCNT. -/
def BT_RXCNT_COUNT : Field := ⟨R.BT_RXCNT, 0, 32⟩
/-- Field COUNT of BT_TXCNT. -/
def BT_TXCNT_COUNT : Field := ⟨R.BT_TXCNT, 0, 32⟩
/-- Field EXPIRED of BT_TOCNT. -/
def BT_TOCNT_EXPIRED : Field := ⟨R.BT_TOCNT, 0, 16⟩
/-- Field WITHDRAWN of BT_TOCNT. -/
def BT_TOCNT_WITHDRAWN : Field := ⟨R.BT_TOCNT, 16, 16⟩
/-- Field CHECK of BT_REJ. -/
def BT_REJ_CHECK : Field := ⟨R.BT_REJ, 0, 8⟩
/-- Field SEQ of BT_REJ. -/
def BT_REJ_SEQ : Field := ⟨R.BT_REJ, 8, 8⟩
/-- Field FRESH of BT_REJ. -/
def BT_REJ_FRESH : Field := ⟨R.BT_REJ, 16, 8⟩
/-- Field ADMIT of BT_REJ. -/
def BT_REJ_ADMIT : Field := ⟨R.BT_REJ, 24, 8⟩
/-- Field UNKNOWN of BT_REJ2. -/
def BT_REJ2_UNKNOWN : Field := ⟨R.BT_REJ2, 0, 8⟩
/-- Field FULL of BT_REJ2. -/
def BT_REJ2_FULL : Field := ⟨R.BT_REJ2, 8, 8⟩
/-- Field FENCED of BT_REJ2. -/
def BT_REJ2_FENCED : Field := ⟨R.BT_REJ2, 16, 8⟩
/-- Field KIND of BT_REJ2. -/
def BT_REJ2_KIND : Field := ⟨R.BT_REJ2, 24, 8⟩
/-- Field RESULT of BT_AUTH_RES. -/
def BT_AUTH_RES_RESULT : Field := ⟨R.BT_AUTH_RES, 0, 3⟩
/-- Field FENCE of BT_AUTH_RES. -/
def BT_AUTH_RES_FENCE : Field := ⟨R.BT_AUTH_RES, 3, 1⟩
/-- Field NUMBER of BT_AUTH_RES. -/
def BT_AUTH_RES_NUMBER : Field := ⟨R.BT_AUTH_RES, 16, 16⟩
/-- Field CLR_CNT of BT_CTRL. -/
def BT_CTRL_CLR_CNT : Field := ⟨R.BT_CTRL, 0, 1⟩
/-- Field EPOCH of BT_EPOCH. -/
def BT_EPOCH_EPOCH : Field := ⟨R.BT_EPOCH, 0, 16⟩
/-- Field ADDR of BT_PEER. -/
def BT_PEER_ADDR : Field := ⟨R.BT_PEER, 0, 16⟩
/-- Field ADMITTED of BT_PEER. -/
def BT_PEER_ADMITTED : Field := ⟨R.BT_PEER, 16, 1⟩
/-- Field FENCED of BT_PEER. -/
def BT_PEER_FENCED : Field := ⟨R.BT_PEER, 17, 1⟩
/-- Field REACHABLE of BT_PEER. -/
def BT_PEER_REACHABLE : Field := ⟨R.BT_PEER, 18, 1⟩
/-- Field SEEN of BT_PEER_EP. -/
def BT_PEER_EP_SEEN : Field := ⟨R.BT_PEER_EP, 0, 16⟩
/-- Field FENCE_EP of BT_PEER_EP. -/
def BT_PEER_EP_FENCE_EP : Field := ⟨R.BT_PEER_EP, 16, 16⟩
/-- Field PF_DEPTH of PG_CFG. -/
def PG_CFG_PF_DEPTH : Field := ⟨R.PG_CFG, 0, 4⟩
/-- Field PF_LEAD of PG_CFG. -/
def PG_CFG_PF_LEAD : Field := ⟨R.PG_CFG, 16, 16⟩
/-- Field PINNED of PG_STATUS. -/
def PG_STATUS_PINNED : Field := ⟨R.PG_STATUS, 0, 10⟩
/-- Field FREE of PG_STATUS. -/
def PG_STATUS_FREE : Field := ⟨R.PG_STATUS, 16, 10⟩
/-- Field SLOT of PG_SNAP. -/
def PG_SNAP_SLOT : Field := ⟨R.PG_SNAP, 0, 6⟩
/-- Field SEQ of PG_SNAP. -/
def PG_SNAP_SEQ : Field := ⟨R.PG_SNAP, 8, 24⟩
/-- Field CORR of PG_DRAM_ECC. -/
def PG_DRAM_ECC_CORR : Field := ⟨R.PG_DRAM_ECC, 0, 16⟩
/-- Field UNCORR of PG_DRAM_ECC. -/
def PG_DRAM_ECC_UNCORR : Field := ⟨R.PG_DRAM_ECC, 16, 16⟩
/-- Field CLR_CNT of PG_CTRL. -/
def PG_CTRL_CLR_CNT : Field := ⟨R.PG_CTRL, 0, 1⟩
/-- Field COLL of BANK_STAT. -/
def BANK_STAT_COLL : Field := ⟨R.BANK_STAT, 0, 16⟩
/-- Field ECC_CORR of BANK_STAT. -/
def BANK_STAT_ECC_CORR : Field := ⟨R.BANK_STAT, 16, 8⟩
/-- Field SPARES of BANK_STAT. -/
def BANK_STAT_SPARES : Field := ⟨R.BANK_STAT, 24, 4⟩
/-- Field FENCED of BANK_STAT. -/
def BANK_STAT_FENCED : Field := ⟨R.BANK_STAT, 28, 1⟩
/-- Field FAULTY of BANK_STAT. -/
def BANK_STAT_FAULTY : Field := ⟨R.BANK_STAT, 29, 1⟩
/-- Field BANK of MT_CTRL. -/
def MT_CTRL_BANK : Field := ⟨R.MT_CTRL, 0, 5⟩
/-- Field ALG of MT_CTRL. -/
def MT_CTRL_ALG : Field := ⟨R.MT_CTRL, 8, 2⟩
/-- Field PRESERVE of MT_CTRL. -/
def MT_CTRL_PRESERVE : Field := ⟨R.MT_CTRL, 12, 1⟩
/-- Field START of MT_CTRL. -/
def MT_CTRL_START : Field := ⟨R.MT_CTRL, 31, 1⟩
/-- Field BUSY of MT_STATUS. -/
def MT_STATUS_BUSY : Field := ⟨R.MT_STATUS, 0, 1⟩
/-- Field RESULT of MT_STATUS. -/
def MT_STATUS_RESULT : Field := ⟨R.MT_STATUS, 1, 2⟩
/-- Field BANK of MT_STATUS. -/
def MT_STATUS_BANK : Field := ⟨R.MT_STATUS, 3, 5⟩
/-- Field ROW of MT_STATUS. -/
def MT_STATUS_ROW : Field := ⟨R.MT_STATUS, 16, 9⟩
/-- Field PERIOD of MT_AUTO. -/
def MT_AUTO_PERIOD : Field := ⟨R.MT_AUTO, 0, 11⟩
/-- Field COUNT of MT_PASS. -/
def MT_PASS_COUNT : Field := ⟨R.MT_PASS, 0, 32⟩
/-- Field SPA of BF_STATUS. -/
def BF_STATUS_SPA : Field := ⟨R.BF_STATUS, 0, 3⟩
/-- Field SPB of BF_STATUS. -/
def BF_STATUS_SPB : Field := ⟨R.BF_STATUS, 3, 3⟩
/-- Field SPC of BF_STATUS. -/
def BF_STATUS_SPC : Field := ⟨R.BF_STATUS, 6, 3⟩
/-- Field SLICE_ISO of BF_STATUS. -/
def BF_STATUS_SLICE_ISO : Field := ⟨R.BF_STATUS, 9, 3⟩
/-- Field TWO of BF_STATUS. -/
def BF_STATUS_TWO : Field := ⟨R.BF_STATUS, 12, 1⟩
/-- Field HOLD of BF_STATUS. -/
def BF_STATUS_HOLD : Field := ⟨R.BF_STATUS, 13, 1⟩
/-- Field LAG_US of BF_CFG. -/
def BF_CFG_LAG_US : Field := ⟨R.BF_CFG, 0, 11⟩
/-- Field SIG_US of BF_CFG. -/
def BF_CFG_SIG_US : Field := ⟨R.BF_CFG, 16, 11⟩
/-- Field FILL_A of BF_FIFO. -/
def BF_FIFO_FILL_A : Field := ⟨R.BF_FIFO, 0, 10⟩
/-- Field FILL_A of BF_FIFO_MAX. -/
def BF_FIFO_MAX_FILL_A : Field := ⟨R.BF_FIFO_MAX, 0, 10⟩
/-- Field FILL_B of BF_FIFO. -/
def BF_FIFO_FILL_B : Field := ⟨R.BF_FIFO, 10, 10⟩
/-- Field FILL_B of BF_FIFO_MAX. -/
def BF_FIFO_MAX_FILL_B : Field := ⟨R.BF_FIFO_MAX, 10, 10⟩
/-- Field FILL_C of BF_FIFO. -/
def BF_FIFO_FILL_C : Field := ⟨R.BF_FIFO, 20, 10⟩
/-- Field FILL_C of BF_FIFO_MAX. -/
def BF_FIFO_MAX_FILL_C : Field := ⟨R.BF_FIFO_MAX, 20, 10⟩
/-- Field VERDICT of BF_MM. -/
def BF_MM_VERDICT : Field := ⟨R.BF_MM, 0, 3⟩
/-- Field CLASS of BF_MM. -/
def BF_MM_CLASS : Field := ⟨R.BF_MM, 3, 3⟩
/-- Field SLICE_DIFF of BF_MM. -/
def BF_MM_SLICE_DIFF : Field := ⟨R.BF_MM, 6, 1⟩
/-- Field GROUP of BF_MM. -/
def BF_MM_GROUP : Field := ⟨R.BF_MM, 16, 13⟩
/-- Field POS of BF_MM_POS. -/
def BF_MM_POS_POS : Field := ⟨R.BF_MM_POS, 0, 32⟩
/-- Field CORR of BF_ECC. -/
def BF_ECC_CORR : Field := ⟨R.BF_ECC, 0, 16⟩
/-- Field UNCORR of BF_ECC. -/
def BF_ECC_UNCORR : Field := ⟨R.BF_ECC, 16, 16⟩
/-- Field WORD of BF_VOTE. -/
def BF_VOTE_WORD : Field := ⟨R.BF_VOTE, 0, 16⟩
/-- Field DIVERGE of BF_VOTE. -/
def BF_VOTE_DIVERGE : Field := ⟨R.BF_VOTE, 16, 16⟩
/-- Field PASS of BF_ST_RES. -/
def BF_ST_RES_PASS : Field := ⟨R.BF_ST_RES, 0, 4⟩
/-- Field DONE of BF_ST_RES. -/
def BF_ST_RES_DONE : Field := ⟨R.BF_ST_RES, 4, 1⟩
/-- Field SPIRE of BF_ST_RES. -/
def BF_ST_RES_SPIRE : Field := ⟨R.BF_ST_RES, 5, 2⟩
/-- Field DRAM_CORR of BF_ST_RES. -/
def BF_ST_RES_DRAM_CORR : Field := ⟨R.BF_ST_RES, 8, 8⟩
/-- Field DURATION of BF_ST_RES. -/
def BF_ST_RES_DURATION : Field := ⟨R.BF_ST_RES, 16, 16⟩
/-- Field SPIRE of BF_REINT. -/
def BF_REINT_SPIRE : Field := ⟨R.BF_REINT, 0, 2⟩
/-- Field RESULT of BF_REINT. -/
def BF_REINT_RESULT : Field := ⟨R.BF_REINT, 2, 3⟩
/-- Field RETRIES of BF_REINT. -/
def BF_REINT_RETRIES : Field := ⟨R.BF_REINT, 5, 3⟩
/-- Field HOLD_US of BF_REINT. -/
def BF_REINT_HOLD_US : Field := ⟨R.BF_REINT, 16, 16⟩
/-- Field DONE of BF_INJ. -/
def BF_INJ_DONE : Field := ⟨R.BF_INJ, 0, 1⟩
/-- Field FAIL of BF_INJ. -/
def BF_INJ_FAIL : Field := ⟨R.BF_INJ, 1, 3⟩
/-- Field GROUP of BF_INJ. -/
def BF_INJ_GROUP : Field := ⟨R.BF_INJ, 4, 4⟩
/-- Field PATTERN of BF_INJ. -/
def BF_INJ_PATTERN : Field := ⟨R.BF_INJ, 16, 9⟩
/-- Field CLR_CNT of BF_CTRL. -/
def BF_CTRL_CLR_CNT : Field := ⟨R.BF_CTRL, 0, 1⟩
/-- Field SPIRE of BF_CMD. -/
def BF_CMD_SPIRE : Field := ⟨R.BF_CMD, 0, 2⟩
/-- Field CMD of BF_CMD. -/
def BF_CMD_CMD : Field := ⟨R.BF_CMD, 2, 2⟩
/-- Field BUSY of BF_CMD. -/
def BF_CMD_BUSY : Field := ⟨R.BF_CMD, 31, 1⟩
/-- Field PARTNER of PAIR_CONF. -/
def PAIR_CONF_PARTNER : Field := ⟨R.PAIR_CONF, 0, 16⟩
/-- Field WITNESSES of PAIR_CONF. -/
def PAIR_CONF_WITNESSES : Field := ⟨R.PAIR_CONF, 16, 2⟩
/-- Field TK_PREP of PAIR_CONF. -/
def PAIR_CONF_TK_PREP : Field := ⟨R.PAIR_CONF, 24, 8⟩
/-- Field WIT0 of PAIR_WIT01. -/
def PAIR_WIT01_WIT0 : Field := ⟨R.PAIR_WIT01, 0, 16⟩
/-- Field WIT1 of PAIR_WIT01. -/
def PAIR_WIT01_WIT1 : Field := ⟨R.PAIR_WIT01, 16, 16⟩
/-- Field WIT2 of PAIR_LIMITS. -/
def PAIR_LIMITS_WIT2 : Field := ⟨R.PAIR_LIMITS, 0, 16⟩
/-- Field DELTA_MAX of PAIR_LIMITS. -/
def PAIR_LIMITS_DELTA_MAX : Field := ⟨R.PAIR_LIMITS, 16, 11⟩
/-- Field PMODE of PAIR_STATUS. -/
def PAIR_STATUS_PMODE : Field := ⟨R.PAIR_STATUS, 0, 4⟩
/-- Field PARTNER_SEEN of PAIR_STATUS. -/
def PAIR_STATUS_PARTNER_SEEN : Field := ⟨R.PAIR_STATUS, 4, 1⟩
/-- Field HANDOVER_RX of PAIR_STATUS. -/
def PAIR_STATUS_HANDOVER_RX : Field := ⟨R.PAIR_STATUS, 5, 1⟩
/-- Field TAKEOVER_RX of PAIR_STATUS. -/
def PAIR_STATUS_TAKEOVER_RX : Field := ⟨R.PAIR_STATUS, 6, 1⟩
/-- Field UNPROTECTED of PAIR_STATUS. -/
def PAIR_STATUS_UNPROTECTED : Field := ⟨R.PAIR_STATUS, 7, 1⟩
/-- Field WIT_SEEN of PAIR_STATUS. -/
def PAIR_STATUS_WIT_SEEN : Field := ⟨R.PAIR_STATUS, 8, 2⟩
/-- Field WIT_MAJ of PAIR_STATUS. -/
def PAIR_STATUS_WIT_MAJ : Field := ⟨R.PAIR_STATUS, 10, 1⟩
/-- Field LOWER of PAIR_STATUS. -/
def PAIR_STATUS_LOWER : Field := ⟨R.PAIR_STATUS, 11, 1⟩
/-- Field NAK of PAIR_STATUS. -/
def PAIR_STATUS_NAK : Field := ⟨R.PAIR_STATUS, 16, 16⟩
/-- Field SEQ of PAIR_SEQ. -/
def PAIR_SEQ_SEQ : Field := ⟨R.PAIR_SEQ, 0, 32⟩
/-- Field SEQ of PAIR_PSEQ. -/
def PAIR_PSEQ_SEQ : Field := ⟨R.PAIR_PSEQ, 0, 32⟩
/-- Field BYTES of PAIR_DELTA. -/
def PAIR_DELTA_BYTES : Field := ⟨R.PAIR_DELTA, 0, 21⟩
/-- Field BYTES of PAIR_DMAX. -/
def PAIR_DMAX_BYTES : Field := ⟨R.PAIR_DMAX, 0, 21⟩
/-- Field CHUNKS of PAIR_DELTA. -/
def PAIR_DELTA_CHUNKS : Field := ⟨R.PAIR_DELTA, 22, 10⟩
/-- Field CHUNKS of PAIR_DMAX. -/
def PAIR_DMAX_CHUNKS : Field := ⟨R.PAIR_DMAX, 22, 10⟩
/-- Field DONE of PAIR_COPY. -/
def PAIR_COPY_DONE : Field := ⟨R.PAIR_COPY, 0, 16⟩
/-- Field RESTARTS of PAIR_COPY. -/
def PAIR_COPY_RESTARTS : Field := ⟨R.PAIR_COPY, 16, 14⟩
/-- Field DIGEST_FAIL of PAIR_COPY. -/
def PAIR_COPY_DIGEST_FAIL : Field := ⟨R.PAIR_COPY, 30, 2⟩
/-- Field TAKEOVERS of PAIR_EVENTS. -/
def PAIR_EVENTS_TAKEOVERS : Field := ⟨R.PAIR_EVENTS, 0, 8⟩
/-- Field STEPDOWNS of PAIR_EVENTS. -/
def PAIR_EVENTS_STEPDOWNS : Field := ⟨R.PAIR_EVENTS, 8, 8⟩
/-- Field RESYNCS of PAIR_EVENTS. -/
def PAIR_EVENTS_RESYNCS : Field := ⟨R.PAIR_EVENTS, 16, 8⟩
/-- Field NO_QUORUM of PAIR_EVENTS. -/
def PAIR_EVENTS_NO_QUORUM : Field := ⟨R.PAIR_EVENTS, 24, 8⟩
/-- Field CHECK of PAIR_REJ. -/
def PAIR_REJ_CHECK : Field := ⟨R.PAIR_REJ, 0, 16⟩
/-- Field OTHER of PAIR_REJ. -/
def PAIR_REJ_OTHER : Field := ⟨R.PAIR_REJ, 16, 16⟩
/-- Field CAUSE of PAIR_LAST. -/
def PAIR_LAST_CAUSE : Field := ⟨R.PAIR_LAST, 0, 3⟩
/-- Field SEQ of PAIR_LAST. -/
def PAIR_LAST_SEQ : Field := ⟨R.PAIR_LAST, 8, 24⟩
/-- Field CLR_CNT of PAIR_CTRL. -/
def PAIR_CTRL_CLR_CNT : Field := ⟨R.PAIR_CTRL, 0, 1⟩
/-- Field ADDR_A of RG_ADDR. -/
def RG_ADDR_ADDR_A : Field := ⟨R.RG_ADDR, 0, 16⟩
/-- Field ADDR_B of RG_ADDR. -/
def RG_ADDR_ADDR_B : Field := ⟨R.RG_ADDR, 16, 16⟩
/-- Field TM_A of RG_RANK. -/
def RG_RANK_TM_A : Field := ⟨R.RG_RANK, 0, 3⟩
/-- Field TM_B of RG_RANK. -/
def RG_RANK_TM_B : Field := ⟨R.RG_RANK, 3, 3⟩
/-- Field SM of RG_RANK. -/
def RG_RANK_SM : Field := ⟨R.RG_RANK, 6, 3⟩
/-- Field CS_ROLE of RG_RANK. -/
def RG_RANK_CS_ROLE : Field := ⟨R.RG_RANK, 9, 3⟩
/-- Field BETA of RG_RANK. -/
def RG_RANK_BETA : Field := ⟨R.RG_RANK, 12, 2⟩
/-- Field ACTIVE of RG_SCHED. -/
def RG_SCHED_ACTIVE : Field := ⟨R.RG_SCHED, 0, 3⟩
/-- Field NSLOTS of RG_SCHED. -/
def RG_SCHED_NSLOTS : Field := ⟨R.RG_SCHED, 3, 9⟩
/-- Field SLOT_HALF of RG_SCHED. -/
def RG_SCHED_SLOT_HALF : Field := ⟨R.RG_SCHED, 12, 6⟩
/-- Field PRELOAD of RG_SCHED. -/
def RG_SCHED_PRELOAD : Field := ⟨R.RG_SCHED, 24, 8⟩
/-- Field DYN_MS of RG_SCHED2. -/
def RG_SCHED2_DYN_MS : Field := ⟨R.RG_SCHED2, 0, 16⟩
/-- Field NPOS of RG_SCHED2. -/
def RG_SCHED2_NPOS : Field := ⟨R.RG_SCHED2, 16, 11⟩
/-- Field STATE of RG_SYNC. -/
def RG_SYNC_STATE : Field := ⟨R.RG_SYNC, 0, 3⟩
/-- Field REF of RG_SYNC. -/
def RG_SYNC_REF : Field := ⟨R.RG_SYNC, 3, 2⟩
/-- Field NOREF of RG_SYNC. -/
def RG_SYNC_NOREF : Field := ⟨R.RG_SYNC, 5, 1⟩
/-- Field MASTER of RG_SYNC. -/
def RG_SYNC_MASTER : Field := ⟨R.RG_SYNC, 6, 1⟩
/-- Field UNSYNC of RG_SYNC. -/
def RG_SYNC_UNSYNC : Field := ⟨R.RG_SYNC, 8, 8⟩
/-- Field OFFSET of RG_SYNC. -/
def RG_SYNC_OFFSET : Field := ⟨R.RG_SYNC, 16, 16⟩
/-- Field RATE of RG_RATE. -/
def RG_RATE_RATE : Field := ⟨R.RG_RATE, 0, 24⟩
/-- Field NS of RG_DLY_PA. -/
def RG_DLY_PA_NS : Field := ⟨R.RG_DLY_PA, 0, 20⟩
/-- Field NS of RG_DLY_SA. -/
def RG_DLY_SA_NS : Field := ⟨R.RG_DLY_SA, 0, 20⟩
/-- Field NS of RG_LOOP_A. -/
def RG_LOOP_A_NS : Field := ⟨R.RG_LOOP_A, 0, 20⟩
/-- Field NS of RG_DLY_PB. -/
def RG_DLY_PB_NS : Field := ⟨R.RG_DLY_PB, 0, 20⟩
/-- Field NS of RG_DLY_SB. -/
def RG_DLY_SB_NS : Field := ⟨R.RG_DLY_SB, 0, 20⟩
/-- Field NS of RG_LOOP_B. -/
def RG_LOOP_B_NS : Field := ⟨R.RG_LOOP_B, 0, 20⟩
/-- Field VALID of RG_DLY_PA. -/
def RG_DLY_PA_VALID : Field := ⟨R.RG_DLY_PA, 31, 1⟩
/-- Field VALID of RG_DLY_SA. -/
def RG_DLY_SA_VALID : Field := ⟨R.RG_DLY_SA, 31, 1⟩
/-- Field VALID of RG_LOOP_A. -/
def RG_LOOP_A_VALID : Field := ⟨R.RG_LOOP_A, 31, 1⟩
/-- Field VALID of RG_DLY_PB. -/
def RG_DLY_PB_VALID : Field := ⟨R.RG_DLY_PB, 31, 1⟩
/-- Field VALID of RG_DLY_SB. -/
def RG_DLY_SB_VALID : Field := ⟨R.RG_DLY_SB, 31, 1⟩
/-- Field VALID of RG_LOOP_B. -/
def RG_LOOP_B_VALID : Field := ⟨R.RG_LOOP_B, 31, 1⟩
/-- Field TM of RG_MASTER. -/
def RG_MASTER_TM : Field := ⟨R.RG_MASTER, 0, 16⟩
/-- Field SM of RG_MASTER. -/
def RG_MASTER_SM : Field := ⟨R.RG_MASTER, 16, 16⟩
/-- Field TARGET of RG_SW. -/
def RG_SW_TARGET : Field := ⟨R.RG_SW, 0, 3⟩
/-- Field STATE of RG_SW. -/
def RG_SW_STATE : Field := ⟨R.RG_SW, 3, 2⟩
/-- Field REQ_NO of RG_SW. -/
def RG_SW_REQ_NO : Field := ⟨R.RG_SW, 8, 8⟩
/-- Field RESULT of RG_SW. -/
def RG_SW_RESULT : Field := ⟨R.RG_SW, 16, 3⟩
/-- Field PRESENT0 of RG_PORT. -/
def RG_PORT_PRESENT0 : Field := ⟨R.RG_PORT, 0, 1⟩
/-- Field PRESENT1 of RG_PORT. -/
def RG_PORT_PRESENT1 : Field := ⟨R.RG_PORT, 8, 1⟩
/-- Field PRESENT2 of RG_PORT. -/
def RG_PORT_PRESENT2 : Field := ⟨R.RG_PORT, 16, 1⟩
/-- Field PRESENT3 of RG_PORT. -/
def RG_PORT_PRESENT3 : Field := ⟨R.RG_PORT, 24, 1⟩
/-- Field QUAL0 of RG_PORT. -/
def RG_PORT_QUAL0 : Field := ⟨R.RG_PORT, 1, 1⟩
/-- Field QUAL1 of RG_PORT. -/
def RG_PORT_QUAL1 : Field := ⟨R.RG_PORT, 9, 1⟩
/-- Field QUAL2 of RG_PORT. -/
def RG_PORT_QUAL2 : Field := ⟨R.RG_PORT, 17, 1⟩
/-- Field QUAL3 of RG_PORT. -/
def RG_PORT_QUAL3 : Field := ⟨R.RG_PORT, 25, 1⟩
/-- Field LINK0 of RG_PORT. -/
def RG_PORT_LINK0 : Field := ⟨R.RG_PORT, 2, 1⟩
/-- Field LINK1 of RG_PORT. -/
def RG_PORT_LINK1 : Field := ⟨R.RG_PORT, 10, 1⟩
/-- Field LINK2 of RG_PORT. -/
def RG_PORT_LINK2 : Field := ⟨R.RG_PORT, 18, 1⟩
/-- Field LINK3 of RG_PORT. -/
def RG_PORT_LINK3 : Field := ⟨R.RG_PORT, 26, 1⟩
/-- Field ENABLED0 of RG_PORT. -/
def RG_PORT_ENABLED0 : Field := ⟨R.RG_PORT, 3, 1⟩
/-- Field ENABLED1 of RG_PORT. -/
def RG_PORT_ENABLED1 : Field := ⟨R.RG_PORT, 11, 1⟩
/-- Field ENABLED2 of RG_PORT. -/
def RG_PORT_ENABLED2 : Field := ⟨R.RG_PORT, 19, 1⟩
/-- Field ENABLED3 of RG_PORT. -/
def RG_PORT_ENABLED3 : Field := ⟨R.RG_PORT, 27, 1⟩
/-- Field OPTIC0 of RG_PORT. -/
def RG_PORT_OPTIC0 : Field := ⟨R.RG_PORT, 4, 2⟩
/-- Field OPTIC1 of RG_PORT. -/
def RG_PORT_OPTIC1 : Field := ⟨R.RG_PORT, 12, 2⟩
/-- Field OPTIC2 of RG_PORT. -/
def RG_PORT_OPTIC2 : Field := ⟨R.RG_PORT, 20, 2⟩
/-- Field OPTIC3 of RG_PORT. -/
def RG_PORT_OPTIC3 : Field := ⟨R.RG_PORT, 28, 2⟩
/-- Field LOOPED0 of RG_PORT. -/
def RG_PORT_LOOPED0 : Field := ⟨R.RG_PORT, 6, 1⟩
/-- Field LOOPED1 of RG_PORT. -/
def RG_PORT_LOOPED1 : Field := ⟨R.RG_PORT, 14, 1⟩
/-- Field LOOPED2 of RG_PORT. -/
def RG_PORT_LOOPED2 : Field := ⟨R.RG_PORT, 22, 1⟩
/-- Field LOOPED3 of RG_PORT. -/
def RG_PORT_LOOPED3 : Field := ⟨R.RG_PORT, 30, 1⟩
/-- Field ACCEPTED of RG_STATIC. -/
def RG_STATIC_ACCEPTED : Field := ⟨R.RG_STATIC, 0, 32⟩
/-- Field RES_BYTES of RG_DYN. -/
def RG_DYN_RES_BYTES : Field := ⟨R.RG_DYN, 0, 18⟩
/-- Field DEFER of RG_DYN. -/
def RG_DYN_DEFER : Field := ⟨R.RG_DYN, 18, 14⟩
/-- Field SLOT of RG_SSEL. -/
def RG_SSEL_SLOT : Field := ⟨R.RG_SSEL, 0, 8⟩
/-- Field RING of RG_SSEL. -/
def RG_SSEL_RING : Field := ⟨R.RG_SSEL, 8, 1⟩
/-- Field EMPTY of RG_SCNT. -/
def RG_SCNT_EMPTY : Field := ⟨R.RG_SCNT, 0, 16⟩
/-- Field INVALID of RG_SCNT. -/
def RG_SCNT_INVALID : Field := ⟨R.RG_SCNT, 16, 16⟩
/-- Field CLR_CNT of RG_CTRL. -/
def RG_CTRL_CLR_CNT : Field := ⟨R.RG_CTRL, 0, 1⟩
/-- Field Q_BASE of RG_EXPORT. -/
def RG_EXPORT_Q_BASE : Field := ⟨R.RG_EXPORT, 0, 18⟩
/-- Field EXW of RG_EXPORT. -/
def RG_EXPORT_EXW : Field := ⟨R.RG_EXPORT, 24, 4⟩
/-- Field VALID of RG_IMP_STAT. -/
def RG_IMP_STAT_VALID : Field := ⟨R.RG_IMP_STAT, 0, 16⟩
/-- Field PEER of RG_IMP. -/
def RG_IMP_PEER : Field := ⟨R.RG_IMP, 0, 16⟩
/-- Field WORDS of RG_IMP. -/
def RG_IMP_WORDS : Field := ⟨R.RG_IMP, 16, 4⟩
/-- Field I_BASE of RG_IMP. -/
def RG_IMP_I_BASE : Field := ⟨R.RG_IMP, 20, 10⟩
/-- Field ATTEMPT of RG_CS. -/
def RG_CS_ATTEMPT : Field := ⟨R.RG_CS, 0, 5⟩
/-- Field COLLISIONS of RG_CS. -/
def RG_CS_COLLISIONS : Field := ⟨R.RG_CS, 8, 8⟩
/-- Field WINNER of RG_CS. -/
def RG_CS_WINNER : Field := ⟨R.RG_CS, 16, 16⟩
/-- Field ANNOUNCE of RG_INTEG. -/
def RG_INTEG_ANNOUNCE : Field := ⟨R.RG_INTEG, 0, 1⟩
/-- Field ADMITTED of RG_INTEG. -/
def RG_INTEG_ADMITTED : Field := ⟨R.RG_INTEG, 1, 1⟩
/-- Field CAUSE of RG_INTEG. -/
def RG_INTEG_CAUSE : Field := ⟨R.RG_INTEG, 2, 8⟩
/-- Field SYNC_RND of RG_INTEG. -/
def RG_INTEG_SYNC_RND : Field := ⟨R.RG_INTEG, 10, 6⟩
/-- Field TIMEOUTS of RG_INTEG. -/
def RG_INTEG_TIMEOUTS : Field := ⟨R.RG_INTEG, 16, 16⟩
/-- Field TRUNC of RG_GTX. -/
def RG_GTX_TRUNC : Field := ⟨R.RG_GTX, 0, 16⟩
/-- Field CLOSED of RG_GTX. -/
def RG_GTX_CLOSED : Field := ⟨R.RG_GTX, 16, 16⟩
/-- Field EARLY of RG_GFWD. -/
def RG_GFWD_EARLY : Field := ⟨R.RG_GFWD, 0, 8⟩
/-- Field LATE of RG_GFWD. -/
def RG_GFWD_LATE : Field := ⟨R.RG_GFWD, 8, 8⟩
/-- Field LONG of RG_GFWD. -/
def RG_GFWD_LONG : Field := ⟨R.RG_GFWD, 16, 8⟩
/-- Field NIT of RG_GFWD. -/
def RG_GFWD_NIT : Field := ⟨R.RG_GFWD, 24, 8⟩
/-- Field TRUNC of RG_SCNT2. -/
def RG_SCNT2_TRUNC : Field := ⟨R.RG_SCNT2, 0, 16⟩
/-- Field CLASH of RG_SCNT2. -/
def RG_SCNT2_CLASH : Field := ⟨R.RG_SCNT2, 16, 16⟩
/-- Field SLOT of RG_CLASH. -/
def RG_CLASH_SLOT : Field := ⟨R.RG_CLASH, 0, 8⟩
/-- Field RING of RG_CLASH. -/
def RG_CLASH_RING : Field := ⟨R.RG_CLASH, 8, 1⟩
/-- Field SRC of RG_CLASH. -/
def RG_CLASH_SRC : Field := ⟨R.RG_CLASH, 16, 16⟩
/-- Field LOST of RG_HEAL. -/
def RG_HEAL_LOST : Field := ⟨R.RG_HEAL, 0, 4⟩
/-- Field ROLE_A of RG_HEAL. -/
def RG_HEAL_ROLE_A : Field := ⟨R.RG_HEAL, 4, 2⟩
/-- Field ROLE_B of RG_HEAL. -/
def RG_HEAL_ROLE_B : Field := ⟨R.RG_HEAL, 6, 2⟩
/-- Field HEALED of RG_HEAL. -/
def RG_HEAL_HEALED : Field := ⟨R.RG_HEAL, 8, 1⟩
/-- Field HEALS of RG_HEAL. -/
def RG_HEAL_HEALS : Field := ⟨R.RG_HEAL, 16, 16⟩
/-- Field LOST of RG_LOSS. -/
def RG_LOSS_LOST : Field := ⟨R.RG_LOSS, 0, 16⟩
/-- Field REJOINED of RG_LOSS. -/
def RG_LOSS_REJOINED : Field := ⟨R.RG_LOSS, 16, 16⟩
/-- Field CLR_CNT of RG_GCTRL. -/
def RG_GCTRL_CLR_CNT : Field := ⟨R.RG_GCTRL, 0, 1⟩
/-- Field NOM of CAN_CFG. -/
def CAN_CFG_NOM : Field := ⟨R.CAN_CFG, 0, 2⟩
/-- Field DATA of CAN_CFG. -/
def CAN_CFG_DATA : Field := ⟨R.CAN_CFG, 2, 3⟩
/-- Field NOM_SP of CAN_CFG. -/
def CAN_CFG_NOM_SP : Field := ⟨R.CAN_CFG, 5, 3⟩
/-- Field DATA_SP of CAN_CFG. -/
def CAN_CFG_DATA_SP : Field := ⟨R.CAN_CFG, 8, 3⟩
/-- Field TERM of CAN_CFG. -/
def CAN_CFG_TERM : Field := ⟨R.CAN_CFG, 11, 1⟩
/-- Field WAKE_MODE of CAN_CFG. -/
def CAN_CFG_WAKE_MODE : Field := ⟨R.CAN_CFG, 12, 1⟩
/-- Field SLEEP_EN of CAN_CFG. -/
def CAN_CFG_SLEEP_EN : Field := ⟨R.CAN_CFG, 13, 1⟩
/-- Field CONTROLLERS of CAN_CTL_CNT. -/
def CAN_CTL_CNT_CONTROLLERS : Field := ⟨R.CAN_CTL_CNT, 0, 5⟩
/-- Field SLEEP_Q of CAN_CTL_CNT. -/
def CAN_CTL_CNT_SLEEP_Q : Field := ⟨R.CAN_CTL_CNT, 14, 18⟩
/-- Field ID of CAN_WAKE_ID. -/
def CAN_WAKE_ID_ID : Field := ⟨R.CAN_WAKE_ID, 0, 29⟩
/-- Field EXT of CAN_WAKE_ID. -/
def CAN_WAKE_ID_EXT : Field := ⟨R.CAN_WAKE_ID, 31, 1⟩
/-- Field DATA of CAN_WAKE_DATA0. -/
def CAN_WAKE_DATA0_DATA : Field := ⟨R.CAN_WAKE_DATA0, 0, 32⟩
/-- Field DATA of CAN_WAKE_DATA1. -/
def CAN_WAKE_DATA1_DATA : Field := ⟨R.CAN_WAKE_DATA1, 0, 32⟩
/-- Field MASK of CAN_WAKE_MASK0. -/
def CAN_WAKE_MASK0_MASK : Field := ⟨R.CAN_WAKE_MASK0, 0, 32⟩
/-- Field MASK of CAN_WAKE_MASK1. -/
def CAN_WAKE_MASK1_MASK : Field := ⟨R.CAN_WAKE_MASK1, 0, 32⟩
/-- Field BUS of CAN_STATUS. -/
def CAN_STATUS_BUS : Field := ⟨R.CAN_STATUS, 0, 2⟩
/-- Field ASLEEP of CAN_STATUS. -/
def CAN_STATUS_ASLEEP : Field := ⟨R.CAN_STATUS, 2, 1⟩
/-- Field GROUP_FAIL of CAN_STATUS. -/
def CAN_STATUS_GROUP_FAIL : Field := ⟨R.CAN_STATUS, 3, 1⟩
/-- Field BLOCKED of CAN_STATUS. -/
def CAN_STATUS_BLOCKED : Field := ⟨R.CAN_STATUS, 4, 1⟩
/-- Field WAKE_CAUSE of CAN_STATUS. -/
def CAN_STATUS_WAKE_CAUSE : Field := ⟨R.CAN_STATUS, 5, 3⟩
/-- Field ABSENT of CAN_ABSENT. -/
def CAN_ABSENT_ABSENT : Field := ⟨R.CAN_ABSENT, 1, 30⟩
/-- Field TEC of CAN_ERR. -/
def CAN_ERR_TEC : Field := ⟨R.CAN_ERR, 0, 9⟩
/-- Field REC of CAN_ERR. -/
def CAN_ERR_REC : Field := ⟨R.CAN_ERR, 9, 7⟩
/-- Field BUSOFF_CNT of CAN_ERR. -/
def CAN_ERR_BUSOFF_CNT : Field := ⟨R.CAN_ERR, 16, 16⟩
/-- Field TS of CAN_TS. -/
def CAN_TS_TS : Field := ⟨R.CAN_TS, 0, 32⟩
/-- Field TS of CAN_TS_LATCH. -/
def CAN_TS_LATCH_TS : Field := ⟨R.CAN_TS_LATCH, 0, 32⟩
/-- Field FILL of CAN_TXQ. -/
def CAN_TXQ_FILL : Field := ⟨R.CAN_TXQ, 0, 6⟩
/-- Field PEAK of CAN_TXQ. -/
def CAN_TXQ_PEAK : Field := ⟨R.CAN_TXQ, 8, 6⟩
/-- Field DROP of CAN_TXQ. -/
def CAN_TXQ_DROP : Field := ⟨R.CAN_TXQ, 16, 16⟩
/-- Field COUNT of CAN_TXCNT. -/
def CAN_TXCNT_COUNT : Field := ⟨R.CAN_TXCNT, 0, 32⟩
/-- Field COUNT of CAN_RXCNT. -/
def CAN_RXCNT_COUNT : Field := ⟨R.CAN_RXCNT, 0, 32⟩
/-- Field CHECK of CAN_REJ. -/
def CAN_REJ_CHECK : Field := ⟨R.CAN_REJ, 0, 8⟩
/-- Field SEQ of CAN_REJ. -/
def CAN_REJ_SEQ : Field := ⟨R.CAN_REJ, 8, 8⟩
/-- Field FORMAT of CAN_REJ. -/
def CAN_REJ_FORMAT : Field := ⟨R.CAN_REJ, 16, 8⟩
/-- Field STAMP of CAN_REJ. -/
def CAN_REJ_STAMP : Field := ⟨R.CAN_REJ, 24, 8⟩
/-- Field ID of CAN_CLASH_ID. -/
def CAN_CLASH_ID_ID : Field := ⟨R.CAN_CLASH_ID, 0, 29⟩
/-- Field EXT of CAN_CLASH_ID. -/
def CAN_CLASH_ID_EXT : Field := ⟨R.CAN_CLASH_ID, 31, 1⟩
/-- Field DATA of CAN_CLASH_OWN0. -/
def CAN_CLASH_OWN0_DATA : Field := ⟨R.CAN_CLASH_OWN0, 0, 32⟩
/-- Field DATA of CAN_CLASH_OWN1. -/
def CAN_CLASH_OWN1_DATA : Field := ⟨R.CAN_CLASH_OWN1, 0, 32⟩
/-- Field DATA of CAN_CLASH_RX0. -/
def CAN_CLASH_RX0_DATA : Field := ⟨R.CAN_CLASH_RX0, 0, 32⟩
/-- Field DATA of CAN_CLASH_RX1. -/
def CAN_CLASH_RX1_DATA : Field := ⟨R.CAN_CLASH_RX1, 0, 32⟩
/-- Field CLR_CNT of CAN_CTRL. -/
def CAN_CTRL_CLR_CNT : Field := ⟨R.CAN_CTRL, 0, 1⟩
/-- Field SESSIONS of SS_CFG. -/
def SS_CFG_SESSIONS : Field := ⟨R.SS_CFG, 0, 6⟩
/-- Field QUEUES of SS_CFG. -/
def SS_CFG_QUEUES : Field := ⟨R.SS_CFG, 8, 7⟩
/-- Field OWN_ID of SS_OWN. -/
def SS_OWN_OWN_ID : Field := ⟨R.SS_OWN, 0, 32⟩
/-- Field OPEN of SS_STATUS. -/
def SS_STATUS_OPEN : Field := ⟨R.SS_STATUS, 0, 6⟩
/-- Field CLR_CNT of SS_CTRL. -/
def SS_CTRL_CLR_CNT : Field := ⟨R.SS_CTRL, 0, 1⟩
/-- Field QUEUE of QU_AUDIT. -/
def QU_AUDIT_QUEUE : Field := ⟨R.QU_AUDIT, 0, 6⟩
/-- Field FAILED of QU_AUDIT. -/
def QU_AUDIT_FAILED : Field := ⟨R.QU_AUDIT, 6, 1⟩
/-- Field FREE of QU_AUDIT. -/
def QU_AUDIT_FREE : Field := ⟨R.QU_AUDIT, 8, 8⟩
/-- Field IN_QUEUE of QU_AUDIT. -/
def QU_AUDIT_IN_QUEUE : Field := ⟨R.QU_AUDIT, 16, 8⟩
/-- Field HELD of QU_AUDIT. -/
def QU_AUDIT_HELD : Field := ⟨R.QU_AUDIT, 24, 8⟩
/-- Field FREE of QU_CRED. -/
def QU_CRED_FREE : Field := ⟨R.QU_CRED, 0, 6⟩
/-- Field IN_QUEUE of QU_CRED. -/
def QU_CRED_IN_QUEUE : Field := ⟨R.QU_CRED, 8, 6⟩
/-- Field HELD of QU_CRED. -/
def QU_CRED_HELD : Field := ⟨R.QU_CRED, 16, 6⟩
/-- Field FAILS of QU_CRED. -/
def QU_CRED_FAILS : Field := ⟨R.QU_CRED, 24, 8⟩
/-- Field ENQUEUED of QU_CNT. -/
def QU_CNT_ENQUEUED : Field := ⟨R.QU_CNT, 0, 16⟩
/-- Field DROPPED of QU_CNT. -/
def QU_CNT_DROPPED : Field := ⟨R.QU_CNT, 16, 16⟩
/-- Field ROLE of SSN_CFG. -/
def SSN_CFG_ROLE : Field := ⟨R.SSN_CFG, 0, 1⟩
/-- Field DELIVERY of SSN_CFG. -/
def SSN_CFG_DELIVERY : Field := ⟨R.SSN_CFG, 1, 1⟩
/-- Field DEFINED of SSN_CFG. -/
def SSN_CFG_DEFINED : Field := ⟨R.SSN_CFG, 2, 1⟩
/-- Field TASK of SSN_CFG. -/
def SSN_CFG_TASK : Field := ⟨R.SSN_CFG, 3, 5⟩
/-- Field TIMEOUT of SSN_CFG. -/
def SSN_CFG_TIMEOUT : Field := ⟨R.SSN_CFG, 8, 8⟩
/-- Field PORT of SSN_CFG. -/
def SSN_CFG_PORT : Field := ⟨R.SSN_CFG, 16, 4⟩
/-- Field POLY_A of SSN_CFG. -/
def SSN_CFG_POLY_A : Field := ⟨R.SSN_CFG, 20, 3⟩
/-- Field POLY_B of SSN_CFG. -/
def SSN_CFG_POLY_B : Field := ⟨R.SSN_CFG, 23, 3⟩
/-- Field POLY_C of SSN_CFG. -/
def SSN_CFG_POLY_C : Field := ⟨R.SSN_CFG, 26, 3⟩
/-- Field PEER_ID of SSN_PEER. -/
def SSN_PEER_PEER_ID : Field := ⟨R.SSN_PEER, 0, 32⟩
/-- Field STATE of SSN_STATE. -/
def SSN_STATE_STATE : Field := ⟨R.SSN_STATE, 0, 3⟩
/-- Field CAUSE of SSN_STATE. -/
def SSN_STATE_CAUSE : Field := ⟨R.SSN_STATE, 4, 4⟩
/-- Field OPENS of SSN_STATE. -/
def SSN_STATE_OPENS : Field := ⟨R.SSN_STATE, 8, 8⟩
/-- Field RETRIES of SSN_STATE. -/
def SSN_STATE_RETRIES : Field := ⟨R.SSN_STATE, 16, 16⟩
/-- Field SEQ of SSN_TXSEQ. -/
def SSN_TXSEQ_SEQ : Field := ⟨R.SSN_TXSEQ, 0, 32⟩
/-- Field SEQ of SSN_RXSEQ. -/
def SSN_RXSEQ_SEQ : Field := ⟨R.SSN_RXSEQ, 0, 32⟩
/-- Field AGE_MS of SSN_AGE. -/
def SSN_AGE_AGE_MS : Field := ⟨R.SSN_AGE, 0, 16⟩
/-- Field MAX_MS of SSN_AGE. -/
def SSN_AGE_MAX_MS : Field := ⟨R.SSN_AGE, 16, 16⟩
/-- Field ACCEPTED of SSN_CNT. -/
def SSN_CNT_ACCEPTED : Field := ⟨R.SSN_CNT, 0, 24⟩
/-- Field ONE_BAD of SSN_CNT. -/
def SSN_CNT_ONE_BAD : Field := ⟨R.SSN_CNT, 24, 8⟩
/-- Field CHECK of SSN_REJ. -/
def SSN_REJ_CHECK : Field := ⟨R.SSN_REJ, 0, 8⟩
/-- Field MAC of SSN_REJ. -/
def SSN_REJ_MAC : Field := ⟨R.SSN_REJ, 8, 8⟩
/-- Field SEQ of SSN_REJ. -/
def SSN_REJ_SEQ : Field := ⟨R.SSN_REJ, 16, 8⟩
/-- Field OTHER of SSN_REJ. -/
def SSN_REJ_OTHER : Field := ⟨R.SSN_REJ, 24, 8⟩
/-- Field SRC of QU_CFG. -/
def QU_CFG_SRC : Field := ⟨R.QU_CFG, 0, 16⟩
/-- Field RING of QU_CFG. -/
def QU_CFG_RING : Field := ⟨R.QU_CFG, 16, 1⟩
/-- Field CREDITS of QU_CFG. -/
def QU_CFG_CREDITS : Field := ⟨R.QU_CFG, 17, 6⟩
/-- Field DEPTH of QU_CFG. -/
def QU_CFG_DEPTH : Field := ⟨R.QU_CFG, 23, 4⟩
/-- Field DEFINED of QU_CFG. -/
def QU_CFG_DEFINED : Field := ⟨R.QU_CFG, 31, 1⟩
/-- Field I_WORD of QU_WIN. -/
def QU_WIN_I_WORD : Field := ⟨R.QU_WIN, 0, 13⟩
/-- Field CONSUMER of QU_WIN. -/
def QU_WIN_CONSUMER : Field := ⟨R.QU_WIN, 16, 5⟩
/-- Field DESC_MAX of QU_WIN. -/
def QU_WIN_DESC_MAX : Field := ⟨R.QU_WIN, 21, 9⟩
/-- Field COUNT of CVS_CNT. -/
def CVS_CNT_COUNT : Field := ⟨R.CVS_CNT, 0, 32⟩
/-- Field WIDTH of CV_CFG. -/
def CV_CFG_WIDTH : Field := ⟨R.CV_CFG, 0, 7⟩
/-- Field REFIN of CV_CFG. -/
def CV_CFG_REFIN : Field := ⟨R.CV_CFG, 8, 1⟩
/-- Field REFOUT of CV_CFG. -/
def CV_CFG_REFOUT : Field := ⟨R.CV_CFG, 9, 1⟩
/-- Field PRESET of CV_CFG. -/
def CV_CFG_PRESET : Field := ⟨R.CV_CFG, 10, 3⟩
/-- Field SET of CV_CFG. -/
def CV_CFG_SET : Field := ⟨R.CV_CFG, 13, 3⟩
/-- Field PFX of CV_CFG. -/
def CV_CFG_PFX : Field := ⟨R.CV_CFG, 16, 2⟩
/-- Field START of CV_START. -/
def CV_START_START : Field := ⟨R.CV_START, 0, 1⟩
/-- Field LINK of ETH_STATUS. -/
def ETH_STATUS_LINK : Field := ⟨R.ETH_STATUS, 0, 1⟩
/-- Field SPEED of ETH_STATUS. -/
def ETH_STATUS_SPEED : Field := ⟨R.ETH_STATUS, 1, 2⟩
/-- Field MDIX of ETH_STATUS. -/
def ETH_STATUS_MDIX : Field := ⟨R.ETH_STATUS, 3, 1⟩
/-- Field SESSION of ETH_STATUS. -/
def ETH_STATUS_SESSION : Field := ⟨R.ETH_STATUS, 4, 1⟩
/-- Field PTP of ETH_STATUS. -/
def ETH_STATUS_PTP : Field := ⟨R.ETH_STATUS, 5, 1⟩
/-- Field SERVICE of ETH_STATUS. -/
def ETH_STATUS_SERVICE : Field := ⟨R.ETH_STATUS, 6, 1⟩
/-- Field DOWNS of ETH_STATUS. -/
def ETH_STATUS_DOWNS : Field := ⟨R.ETH_STATUS, 16, 16⟩
/-- Field MAC_H of ETH_MAC_HI. -/
def ETH_MAC_HI_MAC_H : Field := ⟨R.ETH_MAC_HI, 0, 16⟩
/-- Field MAC_L of ETH_MAC_LO. -/
def ETH_MAC_LO_MAC_L : Field := ⟨R.ETH_MAC_LO, 0, 32⟩
/-- Field ADDR of ETH_IPV4. -/
def ETH_IPV4_ADDR : Field := ⟨R.ETH_IPV4, 0, 32⟩
/-- Field PREFIX4 of ETH_IPCFG. -/
def ETH_IPCFG_PREFIX4 : Field := ⟨R.ETH_IPCFG, 0, 6⟩
/-- Field PREFIX6 of ETH_IPCFG. -/
def ETH_IPCFG_PREFIX6 : Field := ⟨R.ETH_IPCFG, 8, 8⟩
/-- Field HAS4 of ETH_IPCFG. -/
def ETH_IPCFG_HAS4 : Field := ⟨R.ETH_IPCFG, 16, 1⟩
/-- Field HAS6 of ETH_IPCFG. -/
def ETH_IPCFG_HAS6 : Field := ⟨R.ETH_IPCFG, 17, 1⟩
/-- Field COUNT of ETH_RXCNT. -/
def ETH_RXCNT_COUNT : Field := ⟨R.ETH_RXCNT, 0, 32⟩
/-- Field COUNT of ETH_TXCNT. -/
def ETH_TXCNT_COUNT : Field := ⟨R.ETH_TXCNT, 0, 32⟩
/-- Field FCS of ETH_ERR. -/
def ETH_ERR_FCS : Field := ⟨R.ETH_ERR, 0, 16⟩
/-- Field DROP of ETH_ERR. -/
def ETH_ERR_DROP : Field := ⟨R.ETH_ERR, 16, 16⟩
/-- Field CLR_CNT of ETH_CTRL. -/
def ETH_CTRL_CLR_CNT : Field := ⟨R.ETH_CTRL, 0, 1⟩
/-- Field LS_MS of IO_CFG. -/
def IO_CFG_LS_MS : Field := ⟨R.IO_CFG, 0, 11⟩
/-- Field PAIRS of IO_CFG. -/
def IO_CFG_PAIRS : Field := ⟨R.IO_CFG, 16, 16⟩
/-- Field FS_STATE of IO_STATUS. -/
def IO_STATUS_FS_STATE : Field := ⟨R.IO_STATUS, 0, 2⟩
/-- Field SILENCE of IO_STATUS. -/
def IO_STATUS_SILENCE : Field := ⟨R.IO_STATUS, 2, 1⟩
/-- Field EDGE of IO_STATUS. -/
def IO_STATUS_EDGE : Field := ⟨R.IO_STATUS, 3, 3⟩
/-- Field SINCE_MS of IO_STATUS. -/
def IO_STATUS_SINCE_MS : Field := ⟨R.IO_STATUS, 16, 16⟩
/-- Field MV of IO_FS. -/
def IO_FS_MV : Field := ⟨R.IO_FS, 0, 16⟩
/-- Field MISSING of IO_FS. -/
def IO_FS_MISSING : Field := ⟨R.IO_FS, 16, 1⟩
/-- Field MIN_100MV of IO_FS. -/
def IO_FS_MIN_100MV : Field := ⟨R.IO_FS, 17, 15⟩
/-- Field WB of IO_IN_WB. -/
def IO_IN_WB_WB : Field := ⟨R.IO_IN_WB, 0, 32⟩
/-- Field LATCH of IO_PAIR. -/
def IO_PAIR_LATCH : Field := ⟨R.IO_PAIR, 16, 16⟩
/-- Field WORD of IO_OUT. -/
def IO_OUT_WORD : Field := ⟨R.IO_OUT, 0, 16⟩
/-- Field ON of IO_OUT. -/
def IO_OUT_ON : Field := ⟨R.IO_OUT, 16, 16⟩
/-- Field OUT of IO_OLAT. -/
def IO_OLAT_OUT : Field := ⟨R.IO_OLAT, 0, 16⟩
/-- Field GROUP of IO_OLAT. -/
def IO_OLAT_GROUP : Field := ⟨R.IO_OLAT, 16, 4⟩
/-- Field FS of IO_OLAT. -/
def IO_OLAT_FS : Field := ⟨R.IO_OLAT, 20, 1⟩
/-- Field OUT of IO_OVR. -/
def IO_OVR_OUT : Field := ⟨R.IO_OVR, 0, 4⟩
/-- Field OUT_EN of IO_OVR. -/
def IO_OVR_OUT_EN : Field := ⟨R.IO_OVR, 5, 1⟩
/-- Field IN of IO_OVR. -/
def IO_OVR_IN : Field := ⟨R.IO_OVR, 8, 5⟩
/-- Field IN_EN of IO_OVR. -/
def IO_OVR_IN_EN : Field := ⟨R.IO_OVR, 13, 1⟩
/-- Field DISC of IO_CNT. -/
def IO_CNT_DISC : Field := ⟨R.IO_CNT, 0, 16⟩
/-- Field WB of IO_CNT. -/
def IO_CNT_WB : Field := ⟨R.IO_CNT, 16, 16⟩
/-- Field NOT_DONE of IO_TCNT. -/
def IO_TCNT_NOT_DONE : Field := ⟨R.IO_TCNT, 0, 16⟩
/-- Field INDET of IO_TCNT. -/
def IO_TCNT_INDET : Field := ⟨R.IO_TCNT, 16, 16⟩
/-- Field CLR_CNT of IO_CTRL. -/
def IO_CTRL_CLR_CNT : Field := ⟨R.IO_CTRL, 0, 1⟩
/-- Field DEB of IO_IN. -/
def IO_IN_DEB : Field := ⟨R.IO_IN, 0, 7⟩
/-- Field WB_EN of IO_IN. -/
def IO_IN_WB_EN : Field := ⟨R.IO_IN, 7, 1⟩
/-- Field VITAL of IO_IN. -/
def IO_IN_VITAL : Field := ⟨R.IO_IN, 8, 1⟩
/-- Field DT of IO_DISC. -/
def IO_DISC_DT : Field := ⟨R.IO_DISC, 0, 8⟩
/-- Field VITAL of IO_OUTCFG. -/
def IO_OUTCFG_VITAL : Field := ⟨R.IO_OUTCFG, 0, 1⟩
/-- Field SAFE_ON of IO_OUTCFG. -/
def IO_OUTCFG_SAFE_ON : Field := ⟨R.IO_OUTCFG, 1, 1⟩
/-- Field USED of IO_OUTCFG. -/
def IO_OUTCFG_USED : Field := ⟨R.IO_OUTCFG, 2, 1⟩
/-- Field CAUSE of IO_OST. -/
def IO_OST_CAUSE : Field := ⟨R.IO_OST, 0, 3⟩
/-- Field PARTNER of IO_OST. -/
def IO_OST_PARTNER : Field := ⟨R.IO_OST, 4, 4⟩
/-- Field COUNT_L of IO_OST. -/
def IO_OST_COUNT_L : Field := ⟨R.IO_OST, 16, 16⟩
/-- Field P_100MV of IO_ORB. -/
def IO_ORB_P_100MV : Field := ⟨R.IO_ORB, 0, 9⟩
/-- Field N_100MV of IO_ORB. -/
def IO_ORB_N_100MV : Field := ⟨R.IO_ORB, 16, 9⟩
/-- Field OPEN_LOAD of IO_ORB. -/
def IO_ORB_OPEN_LOAD : Field := ⟨R.IO_ORB, 25, 1⟩
/-- Field DEAD of IO_ORB. -/
def IO_ORB_DEAD : Field := ⟨R.IO_ORB, 26, 1⟩
/-- Field REC_WIN of FC_CFG. -/
def FC_CFG_REC_WIN : Field := ⟨R.FC_CFG, 0, 10⟩
/-- Field ACTIVE of FC_STATUS. -/
def FC_STATUS_ACTIVE : Field := ⟨R.FC_STATUS, 0, 8⟩
/-- Field LATCHED of FC_STATUS. -/
def FC_STATUS_LATCHED : Field := ⟨R.FC_STATUS, 8, 8⟩
/-- Field MAX_SEV of FC_STATUS. -/
def FC_STATUS_MAX_SEV : Field := ⟨R.FC_STATUS, 16, 3⟩
/-- Field FOUT of FC_STATUS. -/
def FC_STATUS_FOUT : Field := ⟨R.FC_STATUS, 19, 1⟩
/-- Field SOURCE of FC_FIRST. -/
def FC_FIRST_SOURCE : Field := ⟨R.FC_FIRST, 0, 7⟩
/-- Field SEV of FC_FIRST. -/
def FC_FIRST_SEV : Field := ⟨R.FC_FIRST, 8, 3⟩
/-- Field VALID of FC_FIRST. -/
def FC_FIRST_VALID : Field := ⟨R.FC_FIRST, 11, 1⟩
/-- Field SIMUL of FC_FIRST. -/
def FC_FIRST_SIMUL : Field := ⟨R.FC_FIRST, 12, 1⟩
/-- Field FORCED of FC_FIRST. -/
def FC_FIRST_FORCED : Field := ⟨R.FC_FIRST, 13, 1⟩
/-- Field TICK of FC_FIRST_TS. -/
def FC_FIRST_TS_TICK : Field := ⟨R.FC_FIRST_TS, 0, 32⟩
/-- Field AT of FC_FIRST_AT_LO. -/
def FC_FIRST_AT_LO_AT : Field := ⟨R.FC_FIRST_AT_LO, 0, 32⟩
/-- Field AT of FC_FIRST_AT_HI. -/
def FC_FIRST_AT_HI_AT : Field := ⟨R.FC_FIRST_AT_HI, 0, 32⟩
/-- Field CLR_FIRST of FC_CTRL. -/
def FC_CTRL_CLR_FIRST : Field := ⟨R.FC_CTRL, 0, 1⟩
/-- Field CLR_OCC of FC_CTRL. -/
def FC_CTRL_CLR_OCC : Field := ⟨R.FC_CTRL, 1, 1⟩
/-- Field CHECKER of FC_INJ. -/
def FC_INJ_CHECKER : Field := ⟨R.FC_INJ, 0, 5⟩
/-- Field DOUBLE of FC_INJ. -/
def FC_INJ_DOUBLE : Field := ⟨R.FC_INJ, 5, 1⟩
/-- Field SPIRE of FC_INJ. -/
def FC_INJ_SPIRE : Field := ⟨R.FC_INJ, 6, 2⟩
/-- Field UNIT of FC_INJ. -/
def FC_INJ_UNIT : Field := ⟨R.FC_INJ, 8, 6⟩
/-- Field ARM of FC_INJ. -/
def FC_INJ_ARM : Field := ⟨R.FC_INJ, 31, 1⟩
/-- Field STATE of FC_SRC. -/
def FC_SRC_STATE : Field := ⟨R.FC_SRC, 0, 3⟩
/-- Field GONE of FC_SRC. -/
def FC_SRC_GONE : Field := ⟨R.FC_SRC, 3, 1⟩
/-- Field FORCED of FC_SRC. -/
def FC_SRC_FORCED : Field := ⟨R.FC_SRC, 4, 1⟩
/-- Field SEV of FC_SRC. -/
def FC_SRC_SEV : Field := ⟨R.FC_SRC, 5, 3⟩
/-- Field OCC of FC_SRC. -/
def FC_SRC_OCC : Field := ⟨R.FC_SRC, 8, 8⟩
/-- Field QUIET_LEFT of FC_SRC. -/
def FC_SRC_QUIET_LEFT : Field := ⟨R.FC_SRC, 16, 16⟩
/-- Field MASK of FC_REACT. -/
def FC_REACT_MASK : Field := ⟨R.FC_REACT, 0, 5⟩
/-- Field MIN of FC_REACT. -/
def FC_REACT_MIN : Field := ⟨R.FC_REACT, 8, 5⟩
/-- Field QUIET of FC_REACT. -/
def FC_REACT_QUIET : Field := ⟨R.FC_REACT, 16, 3⟩
/-- Field REC_LIMIT of FC_REACT. -/
def FC_REACT_REC_LIMIT : Field := ⟨R.FC_REACT, 24, 8⟩
/-- Field REC_CNT of FC_REC. -/
def FC_REC_REC_CNT : Field := ⟨R.FC_REC, 0, 8⟩
/-- Field WIN_CNT of FC_REC. -/
def FC_REC_WIN_CNT : Field := ⟨R.FC_REC, 8, 8⟩
/-- Field WIN_LEFT of FC_REC. -/
def FC_REC_WIN_LEFT : Field := ⟨R.FC_REC, 16, 10⟩
/-- Field UNIT of FC_DETAIL. -/
def FC_DETAIL_UNIT : Field := ⟨R.FC_DETAIL, 0, 8⟩
/-- Field KIND of FC_DETAIL. -/
def FC_DETAIL_KIND : Field := ⟨R.FC_DETAIL, 8, 8⟩
/-- Field COUNT_L of FC_DETAIL. -/
def FC_DETAIL_COUNT_L : Field := ⟨R.FC_DETAIL, 16, 16⟩
/-- Field INTAKE of REC_STATUS. -/
def REC_STATUS_INTAKE : Field := ⟨R.REC_STATUS, 0, 11⟩
/-- Field ALARM of REC_STATUS. -/
def REC_STATUS_ALARM : Field := ⟨R.REC_STATUS, 11, 11⟩
/-- Field SEL_READY of REC_STATUS. -/
def REC_STATUS_SEL_READY : Field := ⟨R.REC_STATUS, 24, 1⟩
/-- Field SEL_VALID of REC_STATUS. -/
def REC_STATUS_SEL_VALID : Field := ⟨R.REC_STATUS, 25, 1⟩
/-- Field SEL_CRC_OK of REC_STATUS. -/
def REC_STATUS_SEL_CRC_OK : Field := ⟨R.REC_STATUS, 26, 1⟩
/-- Field HOLD of REC_STATUS. -/
def REC_STATUS_HOLD : Field := ⟨R.REC_STATUS, 27, 1⟩
/-- Field NUMBER of REC_NEXT_LO. -/
def REC_NEXT_LO_NUMBER : Field := ⟨R.REC_NEXT_LO, 0, 32⟩
/-- Field NUMBER of REC_NEXT_HI. -/
def REC_NEXT_HI_NUMBER : Field := ⟨R.REC_NEXT_HI, 0, 16⟩
/-- Field NUMBER of REC_OLDEST_LO. -/
def REC_OLDEST_LO_NUMBER : Field := ⟨R.REC_OLDEST_LO, 0, 32⟩
/-- Field NUMBER of REC_OLDEST_HI. -/
def REC_OLDEST_HI_NUMBER : Field := ⟨R.REC_OLDEST_HI, 0, 16⟩
/-- Field AT of REC_CLEAR_AT_LO. -/
def REC_CLEAR_AT_LO_AT : Field := ⟨R.REC_CLEAR_AT_LO, 0, 32⟩
/-- Field AT of REC_CLEAR_AT_HI. -/
def REC_CLEAR_AT_HI_AT : Field := ⟨R.REC_CLEAR_AT_HI, 0, 32⟩
/-- Field COUNT of REC_CLEARS. -/
def REC_CLEARS_COUNT : Field := ⟨R.REC_CLEARS, 0, 32⟩
/-- Field COUNT of REC_DROP. -/
def REC_DROP_COUNT : Field := ⟨R.REC_DROP, 0, 32⟩
/-- Field COUNT of ALM_DROP. -/
def ALM_DROP_COUNT : Field := ⟨R.ALM_DROP, 0, 32⟩
/-- Field NUMBER of REC_SEL_LO. -/
def REC_SEL_LO_NUMBER : Field := ⟨R.REC_SEL_LO, 0, 32⟩
/-- Field NUMBER of REC_SEL_HI. -/
def REC_SEL_HI_NUMBER : Field := ⟨R.REC_SEL_HI, 0, 16⟩
/-- Field CODE of REC_DIRSEL. -/
def REC_DIRSEL_CODE : Field := ⟨R.REC_DIRSEL, 0, 16⟩
/-- Field DEFINED of REC_DIR. -/
def REC_DIR_DEFINED : Field := ⟨R.REC_DIR, 0, 1⟩
/-- Field CLASS of REC_DIR. -/
def REC_DIR_CLASS : Field := ⟨R.REC_DIR, 1, 2⟩
/-- Field LAYOUT of REC_DIR. -/
def REC_DIR_LAYOUT : Field := ⟨R.REC_DIR, 8, 8⟩
/-- Field SEQ of CL_NEXT. -/
def CL_NEXT_SEQ : Field := ⟨R.CL_NEXT, 0, 32⟩
/-- Field SEQ of CL_SEL. -/
def CL_SEL_SEQ : Field := ⟨R.CL_SEL, 0, 32⟩
/-- Field BENCH of HW_ID. -/
def HW_ID_BENCH : Field := ⟨R.HW_ID, 0, 1⟩
/-- Field CODE of HW_ID. -/
def HW_ID_CODE : Field := ⟨R.HW_ID, 1, 2⟩
/-- Field REV of HW_ID. -/
def HW_ID_REV : Field := ⟨R.HW_ID, 8, 8⟩
/-- Field PRODUCT of HW_ID. -/
def HW_ID_PRODUCT : Field := ⟨R.HW_ID, 16, 16⟩
/-- Field MODE of MODE. -/
def MODE_MODE : Field := ⟨R.MODE, 0, 4⟩
/-- Field PREV of MODE. -/
def MODE_PREV : Field := ⟨R.MODE, 4, 4⟩
/-- Field CAUSE of MODE. -/
def MODE_CAUSE : Field := ⟨R.MODE, 8, 8⟩
/-- Field TRACK of MODE. -/
def MODE_TRACK : Field := ⟨R.MODE, 16, 1⟩
/-- Field AT of MODE_AT_LO. -/
def MODE_AT_LO_AT : Field := ⟨R.MODE_AT_LO, 0, 32⟩
/-- Field AT of MODE_AT_HI. -/
def MODE_AT_HI_AT : Field := ⟨R.MODE_AT_HI, 0, 32⟩
/-- Field PENDING of RESTART. -/
def RESTART_PENDING : Field := ⟨R.RESTART, 0, 1⟩
/-- Field BENCH_BLOCK of RESTART. -/
def RESTART_BENCH_BLOCK : Field := ⟨R.RESTART, 1, 1⟩
/-- Field LEFT_S of RESTART. -/
def RESTART_LEFT_S : Field := ⟨R.RESTART, 16, 16⟩
/-- Field POR of RST_CAUSE. -/
def RST_CAUSE_POR : Field := ⟨R.RST_CAUSE, 0, 1⟩
/-- Field HOLDUP of RST_CAUSE. -/
def RST_CAUSE_HOLDUP : Field := ⟨R.RST_CAUSE, 1, 1⟩
/-- Field CMD of RST_CAUSE. -/
def RST_CAUSE_CMD : Field := ⟨R.RST_CAUSE, 4, 1⟩
/-- Field FAULT of RST_CAUSE. -/
def RST_CAUSE_FAULT : Field := ⟨R.RST_CAUSE, 5, 1⟩
/-- Field PIN of RST_CAUSE. -/
def RST_CAUSE_PIN : Field := ⟨R.RST_CAUSE, 6, 1⟩
/-- Field UPDATE of RST_CAUSE. -/
def RST_CAUSE_UPDATE : Field := ⟨R.RST_CAUSE, 7, 1⟩
/-- Field RESTART of RST_CAUSE. -/
def RST_CAUSE_RESTART : Field := ⟨R.RST_CAUSE, 8, 1⟩
/-- Field SOURCE of RST_CAUSE. -/
def RST_CAUSE_SOURCE : Field := ⟨R.RST_CAUSE, 16, 7⟩
/-- Field MRST of RST_CNT. -/
def RST_CNT_MRST : Field := ⟨R.RST_CNT, 0, 16⟩
/-- Field POR of RST_CNT. -/
def RST_CNT_POR : Field := ⟨R.RST_CNT, 16, 16⟩
/-- Field BLOCK of RST_CMD. -/
def RST_CMD_BLOCK : Field := ⟨R.RST_CMD, 0, 8⟩
/-- Field BUSY of RST_CMD. -/
def RST_CMD_BUSY : Field := ⟨R.RST_CMD, 31, 1⟩
/-- Field WARN of SUP_STATUS. -/
def SUP_STATUS_WARN : Field := ⟨R.SUP_STATUS, 0, 1⟩
/-- Field A_OK of SUP_STATUS. -/
def SUP_STATUS_A_OK : Field := ⟨R.SUP_STATUS, 1, 1⟩
/-- Field B_OK of SUP_STATUS. -/
def SUP_STATUS_B_OK : Field := ⟨R.SUP_STATUS, 2, 1⟩
/-- Field DEFER of SUP_STATUS. -/
def SUP_STATUS_DEFER : Field := ⟨R.SUP_STATUS, 3, 1⟩
/-- Field A_100MV of SUP_FEEDS. -/
def SUP_FEEDS_A_100MV : Field := ⟨R.SUP_FEEDS, 0, 9⟩
/-- Field B_100MV of SUP_FEEDS. -/
def SUP_FEEDS_B_100MV : Field := ⟨R.SUP_FEEDS, 16, 9⟩
/-- Field BUS_100MV of SUP_HOLDUP. -/
def SUP_HOLDUP_BUS_100MV : Field := ⟨R.SUP_HOLDUP, 0, 9⟩
/-- Field TEST_MS of SUP_HOLDUP. -/
def SUP_HOLDUP_TEST_MS : Field := ⟨R.SUP_HOLDUP, 16, 16⟩
/-- Field COUNT of SUP_DIP. -/
def SUP_DIP_COUNT : Field := ⟨R.SUP_DIP, 0, 16⟩
/-- Field LAST_MS of SUP_DIP. -/
def SUP_DIP_LAST_MS : Field := ⟨R.SUP_DIP, 16, 16⟩
/-- Field ACT_MAX of PWR_CFG. -/
def PWR_CFG_ACT_MAX : Field := ⟨R.PWR_CFG, 0, 3⟩
/-- Field STBY_MAX of PWR_CFG. -/
def PWR_CFG_STBY_MAX : Field := ⟨R.PWR_CFG, 4, 3⟩
/-- Field SPA of PWR_STATE. -/
def PWR_STATE_SPA : Field := ⟨R.PWR_STATE, 0, 3⟩
/-- Field SPB of PWR_STATE. -/
def PWR_STATE_SPB : Field := ⟨R.PWR_STATE, 3, 3⟩
/-- Field SPC of PWR_STATE. -/
def PWR_STATE_SPC : Field := ⟨R.PWR_STATE, 6, 3⟩
/-- Field LAST of PWR_STATE. -/
def PWR_STATE_LAST : Field := ⟨R.PWR_STATE, 16, 3⟩
/-- Field UNSCHED of PWR_WAKES. -/
def PWR_WAKES_UNSCHED : Field := ⟨R.PWR_WAKES, 0, 16⟩
/-- Field LATE of PWR_WAKES. -/
def PWR_WAKES_LATE : Field := ⟨R.PWR_WAKES, 16, 16⟩
/-- Field CLR_CNT of PWR_CTRL. -/
def PWR_CTRL_CLR_CNT : Field := ⟨R.PWR_CTRL, 0, 1⟩
/-- Field STAGE of ATT_STATUS. -/
def ATT_STATUS_STAGE : Field := ⟨R.ATT_STATUS, 0, 4⟩
/-- Field DONE of ATT_STATUS. -/
def ATT_STATUS_DONE : Field := ⟨R.ATT_STATUS, 4, 1⟩
/-- Field FAIL of ATT_STATUS. -/
def ATT_STATUS_FAIL : Field := ⟨R.ATT_STATUS, 5, 1⟩
/-- Field FAIL_STAGE of ATT_STATUS. -/
def ATT_STATUS_FAIL_STAGE : Field := ⟨R.ATT_STATUS, 6, 4⟩
/-- Field KEY_OK of ATT_STATUS. -/
def ATT_STATUS_KEY_OK : Field := ⟨R.ATT_STATUS, 10, 1⟩
/-- Field QUEUE of ATT_STATUS. -/
def ATT_STATUS_QUEUE : Field := ⟨R.ATT_STATUS, 16, 5⟩
/-- Field EXT1 of ATT_EXT. -/
def ATT_EXT_EXT1 : Field := ⟨R.ATT_EXT, 0, 4⟩
/-- Field EXT2 of ATT_EXT. -/
def ATT_EXT_EXT2 : Field := ⟨R.ATT_EXT, 4, 4⟩
/-- Field EXT3 of ATT_EXT. -/
def ATT_EXT_EXT3 : Field := ⟨R.ATT_EXT, 8, 4⟩
/-- Field EXT4 of ATT_EXT. -/
def ATT_EXT_EXT4 : Field := ⟨R.ATT_EXT, 12, 4⟩
/-- Field EXT5 of ATT_EXT. -/
def ATT_EXT_EXT5 : Field := ⟨R.ATT_EXT, 16, 4⟩
/-- Field EXT6 of ATT_EXT. -/
def ATT_EXT_EXT6 : Field := ⟨R.ATT_EXT, 20, 4⟩
/-- Field EXT7 of ATT_EXT. -/
def ATT_EXT_EXT7 : Field := ⟨R.ATT_EXT, 24, 4⟩
/-- Field EXT8 of ATT_EXT. -/
def ATT_EXT_EXT8 : Field := ⟨R.ATT_EXT, 28, 4⟩
/-- Field SIGNED of ATT_QCNT. -/
def ATT_QCNT_SIGNED : Field := ⟨R.ATT_QCNT, 0, 16⟩
/-- Field DROPPED of ATT_QCNT. -/
def ATT_QCNT_DROPPED : Field := ⟨R.ATT_QCNT, 16, 16⟩
/-- Field CLR_CNT of ATT_CTRL. -/
def ATT_CTRL_CLR_CNT : Field := ⟨R.ATT_CTRL, 0, 1⟩
/-- Field ENTRY of ATT_HSEL. -/
def ATT_HSEL_ENTRY : Field := ⟨R.ATT_HSEL, 0, 6⟩
/-- Field STAGE of ATT_HINFO. -/
def ATT_HINFO_STAGE : Field := ⟨R.ATT_HINFO, 0, 4⟩
/-- Field CAUSE of ATT_HINFO. -/
def ATT_HINFO_CAUSE : Field := ⟨R.ATT_HINFO, 4, 8⟩
/-- Field COUNT_L of ATT_HINFO. -/
def ATT_HINFO_COUNT_L : Field := ⟨R.ATT_HINFO, 16, 16⟩
/-- Field STAGE of UPD_STATUS. -/
def UPD_STATUS_STAGE : Field := ⟨R.UPD_STATUS, 0, 3⟩
/-- Field SET of UPD_STATUS. -/
def UPD_STATUS_SET : Field := ⟨R.UPD_STATUS, 3, 1⟩
/-- Field IMG of UPD_STATUS. -/
def UPD_STATUS_IMG : Field := ⟨R.UPD_STATUS, 4, 1⟩
/-- Field TRIAL_LEFT of UPD_STATUS. -/
def UPD_STATUS_TRIAL_LEFT : Field := ⟨R.UPD_STATUS, 5, 2⟩
/-- Field FALLBACK of UPD_STATUS. -/
def UPD_STATUS_FALLBACK : Field := ⟨R.UPD_STATUS, 7, 1⟩
/-- Field PTR_SEQ of UPD_STATUS. -/
def UPD_STATUS_PTR_SEQ : Field := ⟨R.UPD_STATUS, 16, 16⟩
/-- Field PKG_VERSION of UPD_PKG. -/
def UPD_PKG_PKG_VERSION : Field := ⟨R.UPD_PKG, 0, 32⟩
/-- Field COUNTER of UPD_SECVER. -/
def UPD_SECVER_COUNTER : Field := ⟨R.UPD_SECVER, 0, 16⟩
/-- Field PART of UPD_NEXT. -/
def UPD_NEXT_PART : Field := ⟨R.UPD_NEXT, 0, 3⟩
/-- Field NEXT_4K of UPD_NEXT. -/
def UPD_NEXT_NEXT_4K : Field := ⟨R.UPD_NEXT, 8, 24⟩
/-- Field CODE of UPD_FAIL. -/
def UPD_FAIL_CODE : Field := ⟨R.UPD_FAIL, 0, 8⟩
/-- Field IMG_CODE of UPD_FAIL. -/
def UPD_FAIL_IMG_CODE : Field := ⟨R.UPD_FAIL, 8, 8⟩
/-- Field SPIRE of UPD_FAIL. -/
def UPD_FAIL_SPIRE : Field := ⟨R.UPD_FAIL, 16, 3⟩
/-- Field PART of UPD_FAIL. -/
def UPD_FAIL_PART : Field := ⟨R.UPD_FAIL, 20, 4⟩
/-- Field CAUSE of UPD_LAST. -/
def UPD_LAST_CAUSE : Field := ⟨R.UPD_LAST, 0, 4⟩
/-- Field COUNT_L of UPD_LAST. -/
def UPD_LAST_COUNT_L : Field := ⟨R.UPD_LAST, 16, 16⟩
/-- Field DEADLINE of UPD_DL_LO. -/
def UPD_DL_LO_DEADLINE : Field := ⟨R.UPD_DL_LO, 0, 32⟩
/-- Field DEADLINE of UPD_DL_HI. -/
def UPD_DL_HI_DEADLINE : Field := ⟨R.UPD_DL_HI, 0, 32⟩
/-- Field STATE of OL_STATUS. -/
def OL_STATUS_STATE : Field := ⟨R.OL_STATUS, 0, 2⟩
/-- Field RESULT of OL_STATUS. -/
def OL_STATUS_RESULT : Field := ⟨R.OL_STATUS, 2, 3⟩
/-- Field ACTIVATIONS of OL_STATUS. -/
def OL_STATUS_ACTIVATIONS : Field := ⟨R.OL_STATUS, 8, 8⟩
/-- Field COUNT of OL_TARGET. -/
def OL_TARGET_COUNT : Field := ⟨R.OL_TARGET, 0, 32⟩
/-- Field SESSIONS of SVC_STATUS. -/
def SVC_STATUS_SESSIONS : Field := ⟨R.SVC_STATUS, 0, 4⟩
/-- Field LOCKOUTS of SVC_STATUS. -/
def SVC_STATUS_LOCKOUTS : Field := ⟨R.SVC_STATUS, 16, 16⟩
/-- Field NODE of STRAP. -/
def STRAP_NODE : Field := ⟨R.STRAP, 0, 8⟩
/-- Field PAR of STRAP. -/
def STRAP_PAR : Field := ⟨R.STRAP, 8, 1⟩
/-- Field VALID of STRAP. -/
def STRAP_VALID : Field := ⟨R.STRAP, 9, 1⟩
/-- Field MATCH of STRAP. -/
def STRAP_MATCH : Field := ⟨R.STRAP, 10, 1⟩
/-- Field SECOND of STRAP. -/
def STRAP_SECOND : Field := ⟨R.STRAP, 11, 1⟩
/-- Field LEFT of SUP_TEMP. -/
def SUP_TEMP_LEFT : Field := ⟨R.SUP_TEMP, 0, 8⟩
/-- Field RIGHT of SUP_TEMP. -/
def SUP_TEMP_RIGHT : Field := ⟨R.SUP_TEMP, 8, 8⟩
/-- Field SP_RAIL of SUP_TEMP. -/
def SUP_TEMP_SP_RAIL : Field := ⟨R.SUP_TEMP, 16, 8⟩
/-- Field DIE of SUP_TEMP. -/
def SUP_TEMP_DIE : Field := ⟨R.SUP_TEMP, 24, 8⟩
/-- Field USE0 of BANK_USE. -/
def BANK_USE_USE0 : Field := ⟨R.BANK_USE, 0, 8⟩
/-- Field USE1 of BANK_USE. -/
def BANK_USE_USE1 : Field := ⟨R.BANK_USE, 8, 8⟩
/-- Field USE2 of BANK_USE. -/
def BANK_USE_USE2 : Field := ⟨R.BANK_USE, 16, 8⟩
/-- Field USE3 of BANK_USE. -/
def BANK_USE_USE3 : Field := ⟨R.BANK_USE, 24, 8⟩

end F

/-- Part 0 of the register table. -/
def regTable0 : List Reg := [R.AT_LO, R.AT_HI, R.TB_CFG, R.WV_CFG, R.WV_STATUS, R.TB_MEAS, R.HOLD_LIMIT, R.ANCHOR_CFG, R.REF_PHASE, R.REF_PERIOD, R.CIVIL_LO, R.CIVIL_HI, R.CIVIL_STATUS, R.AT_MARK_LO, R.AT_MARK_HI, R.WV_EVENTS, R.IMG_ID_LO, R.IMG_ID_HI, R.IMG_VERSION, R.IMG_STATUS, R.IMG_FAIL_OFFSET, R.STG_ID_LO, R.STG_ID_HI, R.STG_STATUS, R.IMGKEY_STATE, R.LE_STATUS, R.LE_ERROR, R.LE_ERR_PC, R.LE_ERR_GROUP, R.LE_CLK_LAST]

/-- Part 1 of the register table. -/
def regTable1 : List Reg := [R.LE_CLK_MAX, R.LE_CTRL, R.LE_SAT_CNT, R.LE_PRESET_CNT, R.LE_NOW, R.LE_TYPES, R.LE_INSTANCES, R.LE_TIMERS, R.LE_CODE_LEN, R.FORCE, R.FORCE_COUNT, R.SCH_CFG, R.SWEEP_CFG, R.SWEEP_ANG0, R.SWEEP_ANG1, R.SWEEP_ANG2, R.SWEEP_ANG3, R.SCH_STATUS, R.SCH_READY, R.WDOG_STATUS, R.WDOG_GROUP, R.SCH_EVENTS, R.SCH_CTRL, R.SWP_LAST, R.SWP_MAX, R.SWP_STALL, R.SWP_CLK, R.PT_CFG, R.PT_ANG_A, R.PT_ANG_B]

/-- Part 2 of the register table. -/
def regTable2 : List Reg := [R.PT_GROUPS, R.PT_LAST, R.PT_STALL, R.PT_CLK, R.PT_CNT, R.ET_CFG, R.ET_TIME, R.ET_OUT, R.ET_GROUPS, R.ET_LAST, R.ET_STALL, R.ET_CLK, R.ET_CNT, R.KP_TOKENS, R.KP_TRANS, R.KP_LOCKM, R.KP_STATUS, R.KP_AUDIT, R.KP_AUDIT_CLK, R.KP_AUDIT_AT, R.KP_CTRL, R.KP_STATE, R.KP_RES, R.KP_PEAK, R.KP_TSEL, R.KP_TQ, R.KP_XSEL, R.KP_XWIN, R.KP_CMD, R.KP_CMD_RES]

/-- Part 3 of the register table. -/
def regTable3 : List Reg := [R.BT_CFG, R.BT_LONG, R.BT_STATUS, R.BT_RECON, R.BT_RXCNT, R.BT_TXCNT, R.BT_REJ, R.BT_REJ2, R.BT_TOCNT, R.BT_AUTH_RES, R.BT_CTRL, R.BT_EPOCH, R.BT_PEER, R.BT_PEER_EP, R.PG_CFG, R.PG_STATUS, R.PG_FILLS, R.PG_WBACK, R.PG_DEMAND, R.PG_ST, R.PG_SNAP, R.PG_DRAM_ECC, R.PG_CTRL, R.BANK_USE, R.BANK_STAT, R.MT_CTRL, R.MT_STATUS, R.MT_AUTO, R.MT_PASS, R.BF_STATUS]

/-- Part 4 of the register table. -/
def regTable4 : List Reg := [R.BF_CFG, R.BF_FIFO, R.BF_FIFO_MAX, R.BF_MM, R.BF_MM_POS, R.BF_MM_HI, R.BF_MM_LO, R.BF_MM_AT_LO, R.BF_MM_AT_HI, R.BF_RECS, R.BF_BARRIERS, R.BF_WAIT, R.BF_SIGWIN, R.BF_ECC, R.BF_VOTE, R.BF_ST_RES, R.BF_REINT, R.BF_INJ, R.BF_CTRL, R.BF_CMD, R.PAIR_CONF, R.PAIR_WIT01, R.PAIR_LIMITS, R.PAIR_STATUS, R.PAIR_SEQ, R.PAIR_PSEQ, R.PAIR_DELTA, R.PAIR_DMAX, R.PAIR_COPY, R.PAIR_EVENTS]

/-- Part 5 of the register table. -/
def regTable5 : List Reg := [R.PAIR_REJ, R.PAIR_LAST, R.PAIR_CTRL, R.RG_ADDR, R.RG_RANK, R.RG_SCHED, R.RG_SCHED2, R.RG_SYNC, R.RG_RATE, R.RG_DLY_PA, R.RG_DLY_SA, R.RG_LOOP_A, R.RG_DLY_PB, R.RG_DLY_SB, R.RG_LOOP_B, R.RG_MASTER, R.RG_SW, R.RG_PORT, R.RG_STATIC, R.RG_DYN, R.RG_SSEL, R.RG_SCNT, R.RG_CTRL, R.RG_EXPORT, R.RG_IMP_STAT, R.RG_IMP, R.RG_CS, R.RG_INTEG, R.RG_GTX, R.RG_GFWD]

/-- Part 6 of the register table. -/
def regTable6 : List Reg := [R.RG_SCNT2, R.RG_HEAL, R.RG_LOSS, R.RG_CLASH, R.RG_GCTRL, R.CAN_CFG, R.CAN_CTL_CNT, R.CAN_WAKE_ID, R.CAN_WAKE_DATA0, R.CAN_WAKE_DATA1, R.CAN_WAKE_MASK0, R.CAN_WAKE_MASK1, R.CAN_STATUS, R.CAN_ABSENT, R.CAN_ERR, R.CAN_TS, R.CAN_TS_LATCH, R.CAN_TXQ, R.CAN_TXCNT, R.CAN_RXCNT, R.CAN_REJ, R.CAN_CLASH_ID, R.CAN_CLASH_OWN0, R.CAN_CLASH_OWN1, R.CAN_CLASH_RX0, R.CAN_CLASH_RX1, R.CAN_CTRL, R.SS_CFG, R.SS_OWN, R.SS_STATUS]

/-- Part 7 of the register table. -/
def regTable7 : List Reg := [R.QU_AUDIT, R.SS_CTRL, R.SSN_CFG, R.SSN_PEER, R.SSN_STATE, R.SSN_TXSEQ, R.SSN_RXSEQ, R.SSN_AGE, R.SSN_CNT, R.SSN_REJ, R.QU_CFG, R.QU_WIN, R.QU_CRED, R.QU_CNT, R.CVS_CNT, R.CV_CFG, R.CV_POLY_HI, R.CV_POLY_LO, R.CV_INIT_HI, R.CV_INIT_LO, R.CV_XOR_HI, R.CV_XOR_LO, R.CV_PFX0, R.CV_PFX1, R.CV_DATA, R.CV_BYTE, R.CV_RES_HI, R.CV_RES_LO, R.CV_START, R.ETH_STATUS]

/-- Part 8 of the register table. -/
def regTable8 : List Reg := [R.ETH_MAC_HI, R.ETH_MAC_LO, R.ETH_IPV4, R.ETH_IPCFG, R.ETH_RXCNT, R.ETH_TXCNT, R.ETH_ERR, R.ETH_CTRL, R.IO_CFG, R.IO_STATUS, R.IO_FS, R.IO_IN_VAL, R.IO_IN_WB, R.IO_PAIR, R.IO_OUT, R.IO_OLAT, R.IO_OVR, R.IO_CNT, R.IO_TCNT, R.IO_CTRL, R.IO_IN, R.IO_DISC, R.IO_OUTCFG, R.IO_OST, R.IO_ORB, R.FC_CFG, R.FC_STATUS, R.FC_FIRST, R.FC_FIRST_TS, R.FC_FIRST_AT_LO]

/-- Part 9 of the register table. -/
def regTable9 : List Reg := [R.FC_FIRST_AT_HI, R.FC_CTRL, R.FC_INJ, R.FC_STICKY, R.FC_ACTIVE, R.FC_LATCH, R.FC_FORCE, R.FC_SRC, R.FC_REACT, R.FC_REC, R.FC_DETAIL, R.REC_STATUS, R.REC_NEXT_LO, R.REC_NEXT_HI, R.REC_OLDEST_LO, R.REC_OLDEST_HI, R.REC_CLEAR_AT_LO, R.REC_CLEAR_AT_HI, R.REC_CLEARS, R.REC_DROP, R.ALM_DROP, R.REC_SEL_LO, R.REC_SEL_HI, R.REC_WIN, R.REC_DIRSEL, R.REC_DIR, R.CL_NEXT, R.CL_SEL, R.CL_WIN, R.HW_ID]

/-- Part 10 of the register table. -/
def regTable10 : List Reg := [R.SERIAL_LO, R.SERIAL_HI, R.MODE, R.MODE_AT_LO, R.MODE_AT_HI, R.RESTART, R.RST_CAUSE, R.RST_CNT, R.RST_CMD, R.SUP_STATUS, R.SUP_FEEDS, R.SUP_HOLDUP, R.SUP_DIP, R.PWR_CFG, R.PWR_STATE, R.PWR_WAKES, R.PWR_CTRL, R.ATT_STATUS, R.ATT_EXT, R.ATT_QCNT, R.ATT_CTRL, R.ATT_HSEL, R.ATT_HINFO, R.ATT_HWIN, R.ATT_KEYFP, R.TALLY, R.UPD_STATUS, R.UPD_PKG, R.UPD_SECVER, R.UPD_NEXT]

/-- Part 11 of the register table. -/
def regTable11 : List Reg := [R.UPD_FAIL, R.UPD_LAST, R.UPD_DL_LO, R.UPD_DL_HI, R.OL_STATUS, R.OL_TARGET, R.SVC_STATUS, R.STRAP, R.SUP_TEMP]

/-- Every register of the module register space. -/
def regTable : List Reg :=
  regTable0 ++ regTable1 ++ regTable2 ++ regTable3 ++ regTable4 ++ regTable5 ++ regTable6 ++ regTable7 ++ regTable8 ++ regTable9 ++ regTable10 ++ regTable11

/-- Does key `k` (address plus copy) name a member of the family `r`? -/
def Reg.covers (r : Reg) (k : Nat) : Bool :=
  Nat.ble r.addr k &&
  (let e := (k - r.addr) % r.s2
   Nat.blt ((k - r.addr) / r.s2) r.n2 && Nat.beq (e % r.s1) 0 && Nat.blt (e / r.s1) r.n1)

/-- The register that key `k` names. -/
def regAt (k : Nat) : Option Reg := regTable.find? (fun r => r.covers k)

/-- The key of member (i, j) of a family. -/
def Reg.key (r : Reg) (i j : Nat) : Nat := r.addr + r.s1 * (i - r.i0) + r.s2 * j

/-- The registers whose reset value is not zero. -/
def regTableNonZero : List Reg := [R.WV_STATUS, R.IMGKEY_STATE, R.SCH_STATUS, R.WDOG_STATUS, R.PAIR_STATUS, R.CAN_ABSENT, R.REC_OLDEST_LO, R.HW_ID, R.MODE, R.RST_CAUSE, R.SUP_TEMP]

/-- What an unlisted register reads as: its reset value (spec/00 R14); 0 for a register fed from the image
(before LOAD) and for one whose value is per unit (log entries 1 and 2). -/
def regReset (k : Nat) : Word :=
  match regTableNonZero.find? (fun r => r.covers k) with
  | some r => BitVec.ofNat 32 r.reset
  | none => 0

end Sys2Proof.Machine
end

