-- ==== Sys2Proof/Machine/Sparse.lean ====
section
/-! DEFINITION. Operations on sparse storage (`Sparse α`) and on things held once per spire (`Three α`).
`d` is what an unlisted key reads as. -/

namespace Sys2Proof.Machine

/-- The value at key `k`. -/
def Sparse.get (d : Nat → α) : List (Nat × α) → Nat → α
  | [], k => d k
  | (k', v) :: t, k => if k = k' then v else Sparse.get d t k

/-- Insert a pair whose key is not listed, keeping the keys rising. -/
def Sparse.insert (k : Nat) (v : α) : List (Nat × α) → List (Nat × α)
  | [] => [(k, v)]
  | (k', v') :: t => if k < k' then (k, v) :: (k', v') :: t else (k', v') :: Sparse.insert k v t

/-- Remove key `k`. -/
def Sparse.erase (m : List (Nat × α)) (k : Nat) : List (Nat × α) :=
  m.filter (fun e => e.1 != k)

/-- Write `v` at `k`; writing what an unlisted key reads as removes the entry. -/
def Sparse.set [DecidableEq α] (d : Nat → α) (m : List (Nat × α)) (k : Nat) (v : α) : List (Nat × α) :=
  if v = d k then Sparse.erase m k else Sparse.insert k v (Sparse.erase m k)

/-- Change the value at `k` by `f`. -/
def Sparse.upd [DecidableEq α] (d : Nat → α) (m : List (Nat × α)) (k : Nat) (f : α → α) : List (Nat × α) :=
  Sparse.set d m k (f (Sparse.get d m k))

/-- Every key of the list is above `k`. -/
def Sparse.above (k : Nat) (m : List (Nat × α)) : Bool := m.all (fun e => decide (k < e.1))

/-- The canonical form: keys strictly rising, no entry equal to its default. -/
def Sparse.wf [DecidableEq α] (d : Nat → α) : List (Nat × α) → Bool
  | [] => true
  | (k, v) :: t => decide (v ≠ d k) && Sparse.above k t && Sparse.wf d t

/-- Component `i` of three: 0 A, 1 B, anything else C. -/
def Three.get (t : Three α) (i : Nat) : α := if i = 0 then t.a else if i = 1 then t.b else t.c

/-- Replace component `i`. -/
def Three.set (t : Three α) (i : Nat) (v : α) : Three α :=
  if i = 0 then { t with a := v } else if i = 1 then { t with b := v } else { t with c := v }

/-- Apply `f` to component `i`. -/
def Three.upd (t : Three α) (i : Nat) (f : α → α) : Three α := t.set i (f (t.get i))

/-- Apply `f` to each component, with its index. -/
def Three.mapI (t : Three α) (f : Nat → α → β) : Three β := ⟨f 0 t.a, f 1 t.b, f 2 t.c⟩

/-- The same thing three times. -/
def Three.all (v : α) : Three α := ⟨v, v, v⟩

/-- The indices 0, 1, 2 for which `p` holds. -/
def threeIdx (p : Nat → Bool) : List Nat := [0, 1, 2].filter p

end Sys2Proof.Machine
end

