-- ==== Sys2Proof/Machine/State.lean ====
section
/-! DEFINITION. The state of the module, as plain data, and the state right after a power-on reset.
Each field names the rule of spec/ that gives it. Registers that are plain status words, counters or
configuration live in `State.regs`; state that the spec describes as queues, timers, tokens, sources or modes
is typed, and the registers that show it are views of it (`Sys2Proof.Machine.viewReg`). -/

namespace Sys2Proof.Machine

/-- The module registers that hold plain words: key (address plus copy) and value. -/
abbrev RegFile := Sparse Word

/-! ### Modes (spec/19) -/

/-- The modes of spec/19 R404. -/
inductive Mode where
  | boot | selftest | load | integrate | shadow | standby | active | active2oo2
  | safeHalt | isolated | maintenance | update
deriving DecidableEq, Repr

/-- Mode, previous mode code, cause and AT of the last change (spec/19 R422, retention M), and the authorised
restart (spec/19 R408, retention P). -/
structure ModeSt where
  /-- R404, R422 MODE.MODE. Reset: BOOT. -/
  cur : Mode
  /-- R422 MODE.PREV. Reset 0. -/
  prev : Nat
  /-- R422 MODE.CAUSE. Reset 0. -/
  cause : Nat
  /-- R422 MODE_AT. Reset 0. -/
  stamp : Nat
  /-- R408 RESTART.PENDING. Reset 0 (POR only). -/
  restartPending : Bool
  /-- R408: the time (ns of the module's running clock) at which PENDING clears unused. -/
  restartUntil : Nat
  /-- R3, R408 RESTART.BENCH_BLOCK. Reset 0. -/
  benchBlock : Bool
  /-- R3: system address of the joining module that the block waits for. Reset 0. -/
  benchAddr : Nat
  /-- R3: an authorised restart has still to be given before ACTIVE. Reset 0. -/
  benchWait : Bool
deriving DecidableEq, Repr

/-! ### Angle time and civil time (spec/02) -/

/-- Angle time, base cycle length and civil time. -/
structure TimeSt where
  /-- R30, R32: base cycle count, 48 bits. -/
  count : Nat
  /-- R30: cycle angle, 0 to 65,535 CAU. -/
  angle : Nat
  /-- R34: AT has resumed with a COUNT no lower than the mark. Reset false. -/
  atValid : Bool
  /-- R34: the stored AT mark (a COUNT). Retention N; at delivery 0. -/
  mark : Nat
  /-- R34, R421: a mark whose write the supply warning defers. -/
  markDeferred : Option Nat
  /-- The module's free-running time in ns: the spec's ns, ms and s deadlines are kept against it. -/
  clockNs : Nat
  /-- R42: length of the base cycle in progress, ns; 0 before LOAD. -/
  tbNs : Nat
  /-- spec/14 R323: the clock at the last MRST or POR. -/
  resetNs : Nat
  /-- The value of `clockNs` at which the base cycle in progress began. -/
  cycleNs : Nat
  /-- R48: civil time, TAI ns. -/
  civil : Nat
  /-- R49: offset still to be slewed, ns, source minus module. -/
  civilOff : Int
  /-- R35: a higher COUNT to be adopted at the next boundary (AT_JUMP). (What R50 latches stands in the registers
  CIVIL_HI and AT_HI.) -/
  jumpTo : Option Nat
  /-- R42: length of the base cycle before the one in progress, ns; 0 before LOAD. -/
  lastNs : Nat
  /-- spec/12 R267: the corrections of master time made in the base cycle in progress, ns. -/
  corrNs : Int
  /-- R35: this module has joined a running ring and has not yet adopted its COUNT. -/
  adopt : Bool
deriving DecidableEq, Repr

/-- One reference input of the weathervane (spec/02 R39, R40). -/
structure RefSt where
  /-- R40: the last periods between edges, ns, newest first, at most 8. -/
  periods : List Nat
  /-- R40: the amplitude of the last edge suffices (AC inputs). -/
  ampOk : Bool
  /-- R40: an edge has come within the last 3 expected periods. -/
  fresh : Bool
  /-- R40: consecutive base cycles in which all conditions held, at most 16. -/
  good : Nat
  /-- R40: the reference is valid. -/
  valid : Bool
  /-- R40: a condition has failed in the base cycle in progress. -/
  bad : Bool
  /-- R41: the same for locking, where the locked length within 2 % of nominal is one condition more: good base cycles, usable,
  failed in this cycle. -/
  lockGood : Nat
  lockOk : Bool
  lockBad : Bool
  /-- R39: clock value of the latest edge, in steps of 10 ns. -/
  edgeNs : Option Nat
deriving DecidableEq, Repr

/-- A reference of which no edge has come. -/
def RefSt.idle : RefSt := ⟨[], false, false, 0, false, true, 0, false, true, none⟩

/-- The lock states of the weathervane (spec/02 R43); their codes are 0 to 4 in this order. -/
inductive LockState where
  | free | acquire | locked | holdover | follow
deriving DecidableEq, Repr

/-- The weathervane (spec/02). -/
structure WvSt where
  /-- R43. Reset: FREE (code 0 in the reset value of WV_STATUS). -/
  lock : LockState
  /-- R50 WV_STATUS.SRC: the reference in use; 7 when none. -/
  src : Nat
  /-- R50 WV_STATUS.MASTER: this module is ring time master. -/
  master : Bool
  /-- R44 WV_STATUS.MHOLD: the holdover flag, own or received. -/
  mhold : Bool
  /-- R43: LOCKED reached since the last FREE. -/
  lockedSinceFree : Bool
  /-- R43: consecutive cycles within 64 CAU and 0.01 %. -/
  lockCnt : Nat
  /-- R43: lengths of the last locked cycles, newest first, at most 64. -/
  hist : List Nat
  /-- R43: the held T_B in HOLDOVER. -/
  held : Nat
  /-- R43: time spent in the present HOLDOVER, ns. -/
  holdNs : Nat
  /-- R43: WV_HOLDOVER_LONG already recorded in this HOLDOVER. -/
  holdLong : Bool
  /-- R43: cycles since a locked T_B was received as a follower; none before the first. -/
  ringLockedAge : Option Nat
  /-- R43: T_B as received in ring reference frames, ns. -/
  ringTb : Nat
  /-- R40: the five references, keyed 0 to 4. -/
  refs : Sparse RefSt
  /-- R40, R48: the PTP port reports a synchronised slave state. -/
  ptpSynced : Bool
  /-- R47: clock value of the last anchor of the sample grid. -/
  anchorNs : Option Nat
  /-- R47: clock value of the last sample window. -/
  winNs : Option Nat
  /-- R35, spec/12 R274: COUNT in the reference last used. -/
  ringCount : Option Nat
deriving DecidableEq, Repr

/-! ### Fault collector (spec/17) -/

/-- States of a fault source (spec/17 R381), codes 0 to 3 in this order. -/
inductive SrcState where
  | clear | active | quiet | latched
deriving DecidableEq, Repr

/-- One fault source (spec/17 R381, R385, R387, R390). -/
structure SrcSt where
  /-- FC_SRC.STATE. -/
  st : SrcState
  /-- The condition stands (R381). -/
  cond : Bool
  /-- FC_STICKY bit (R385). -/
  sticky : Bool
  /-- FC_SRC.GONE (R385). -/
  gone : Bool
  /-- FC_SRC.FORCED (R387). -/
  forced : Bool
  /-- FC_FORCE bit (R387). -/
  force : Bool
  /-- FC_SRC.SEV: severity of the last raise. -/
  sev : Nat
  /-- FC_SRC.OCC, saturating at 255. -/
  occ : Nat
  /-- The time at which the quiet period ends, ns (FC_SRC.QUIET_LEFT). -/
  quietEnd : Nat
  /-- FC_REC.REC_CNT, saturating at 255 (N). -/
  recCnt : Nat
  /-- FC_REC.WIN_CNT (N). -/
  winCnt : Nat
  /-- The recovery window runs (N). -/
  winOpen : Bool
  /-- The time at which the recovery window closes, ns (N; FC_REC.WIN_LEFT). -/
  winEnd : Nat
  /-- FC_DETAIL.UNIT. -/
  unit : Nat
  /-- FC_DETAIL.KIND. -/
  kind : Nat
  /-- FC_DETAIL.COUNT_L. -/
  countL : Nat
deriving DecidableEq, Repr

/-- A fault source that nothing has raised. -/
def SrcSt.idle : SrcSt :=
  ⟨.clear, false, false, false, false, false, 0, 0, 0, 0, 0, false, 0, 0, 0, 0⟩

/-- FC_FIRST and its time registers (spec/17 R386, retention P). -/
structure FirstFault where
  source : Nat
  sev : Nat
  simul : Bool
  forced : Bool
  tick : Nat
  stamp : Nat
deriving DecidableEq, Repr

/-- The fault collector (spec/17). -/
structure FcSt where
  /-- The 128 sources, keyed by number. -/
  src : Sparse SrcSt
  /-- FC_FIRST. Reset none. -/
  first : Option FirstFault
  /-- R388: armed injections, checker and the unit or spire it acts on; consumed by the next check. -/
  inject : List Injection
deriving DecidableEq, Repr

/-! ### Event recorder and change log (spec/18) -/

/-- The event records that the spec names or describes and whose numbers it leaves to the running firmware's
code list (spec/18 R392). -/
inductive RecName where
  /-- spec/00 R10, R28: refused write; P1 the offset, P2 the role (or the SEQ of R401). -/
  | serviceRefused
  /-- spec/02 R43 WV_LOCK. -/
  | wvLock
  /-- spec/02 R43 WV_REF_SWITCH. -/
  | wvRefSwitch
  /-- spec/02 R43 WV_HOLDOVER. -/
  | wvHoldover
  /-- spec/02 R43 WV_HOLDOVER_LONG. -/
  | wvHoldoverLong
  /-- spec/18 R392: AT mark events. -/
  | atMarkEvent
  /-- spec/00 R3: system address of the joining module. -/
  | benchJoin
  /-- spec/03 R72 IMAGE_LOADED. -/
  | imageLoaded
  /-- spec/03 R61 IMAGE_APPROVAL. -/
  | imageApproval
  /-- spec/05 R122 WDOG_OVERRUN. -/
  | wdogOverrun
  /-- spec/05 R117 SEAL_MISSED. -/
  | sealMissed
  /-- spec/04 R101: a force is lifted. -/
  | forceLift
  /-- spec/06 KEEP_OFFER_WITHDRAWN. -/
  | keepOfferWithdrawn
  /-- spec/06 R141: a token is blocked. -/
  | keepBlock
  /-- spec/06 R141: a block is released. -/
  | keepUnblock
  /-- spec/07 BT_RECON_AUTH. -/
  | btReconAuth
  /-- spec/07 BT_LONG_PARTITION. -/
  | btLongPartition
  /-- spec/07 BT_CONFLICT. -/
  | btConflict
  /-- spec/07 BT_ADMIT_LOST. -/
  | btAdmitLost
  /-- spec/07: a fence is set. -/
  | btFence
  /-- spec/09 BANK_ROW_SPARED. -/
  | bankRowSpared
  /-- spec/10 R222: spire isolation. -/
  | bfIsolated
  /-- spec/10 BF_NO_MAJORITY. -/
  | bfNoMajority
  /-- spec/10 R218: slice isolation. -/
  | bfSliceIsolated
  /-- spec/10 BF_INJECT_FAIL. -/
  | bfInjectFail
  /-- spec/10 SPIRE_REINT_LATCHED. -/
  | spireReintLatched
  /-- spec/10: a spire joins. -/
  | spireRejoined
  /-- spec/11 PAIR_TAKEOVER. -/
  | pairTakeover
  /-- spec/11 PAIR_NO_QUORUM. -/
  | pairNoQuorum
  /-- spec/11 PAIR_NO_STATE. -/
  | pairNoState
  /-- spec/11 PAIR_COPY_FAIL. -/
  | pairCopyFail
  /-- spec/21 PAIR_COPY_IDENTITY. -/
  | pairCopyIdentity
  /-- spec/11 PAIR_RESYNC. -/
  | pairResync
  /-- spec/11 PAIR_UNPROTECTED. -/
  | pairUnprotected
  /-- spec/11 step-down. -/
  | pairStepDown
  /-- spec/11 DELTA_OVERSIZE. -/
  | deltaOversize
  /-- spec/12 RING_SCHED_ABSENT. -/
  | ringSchedAbsent
  /-- spec/13 RING_CS_START. -/
  | ringCsStart
  /-- spec/13 RING_SLOT_CLASH. -/
  | ringSlotClash
  /-- spec/13 RING_SYNC_LOST. -/
  | ringSyncLost
  /-- spec/13 RING_HEALED. -/
  | ringHealed
  /-- spec/13 RING_RESTORED. -/
  | ringRestored
  /-- spec/13 RING_ADMIT_TIMEOUT. -/
  | ringAdmitTimeout
  /-- spec/14 CAN_BUSOFF. -/
  | canBusoff
  /-- spec/14 CAN_ID_CLASH. -/
  | canIdClash
  /-- spec/14 CAN_TXQ_FULL. -/
  | canTxqFull
  /-- spec/14 CAN_WAKE. -/
  | canWake
  /-- spec/15 SESSION_OPEN. -/
  | sessionOpen
  /-- spec/15: a session leaves OPEN. -/
  | sessionClosed
  /-- spec/15 QUEUE_CREDIT. -/
  | queueCredit
  /-- spec/15 QUEUE_FULL. -/
  | queueFull
  /-- spec/16 IO_WIRE_BREAK. -/
  | ioWireBreak
  /-- spec/16 IO_OUT_LATCH. -/
  | ioOutLatch
  /-- spec/16 IO_LOGIC_SILENCE. -/
  | ioLogicSilence
  /-- spec/18 IO_FS. -/
  | ioFs
  /-- spec/16 IO_DISCREPANCY. -/
  | ioDisc
  /-- spec/16 IO_DISC_CLEAR. -/
  | ioDiscClear
  /-- spec/16 R372: an edge reset. -/
  | edgeReset
  /-- spec/16 R373: an override is lifted. -/
  | overrideLift
  /-- spec/17 FC_UNLATCH. -/
  | fcUnlatch
  /-- spec/17 R387: a force bit is lifted. -/
  | fcForceLift
  /-- spec/18 R392: an injection is lifted. -/
  | fcInjLift
  /-- spec/18 R392: FC_REC_CLEAR. -/
  | fcRecClear
  /-- spec/19 MODE_CHANGE. -/
  | modeChange
  /-- spec/19 R405: a reset is recorded. -/
  | reset
  /-- spec/19 BLOCK_RESET. -/
  | blockReset
  /-- spec/19 RESTART_EXPIRED. -/
  | restartExpired
  /-- spec/19 SUPPLY_DIP. -/
  | supplyDip
  /-- spec/21 UPD_ACTIVATED. -/
  | updActivated
  /-- spec/21 UPD_ACTIVATE_LOST. -/
  | updActivateLost
  /-- spec/21 UPD_REVERTED. -/
  | updReverted
  /-- spec/21 UPD_CONFIRMED. -/
  | updConfirmed
  /-- spec/21 UPD_MIGRATION_FAIL. -/
  | updMigrationFail
  /-- spec/21 ONLINE_REFUSED. -/
  | onlineRefused
  /-- spec/21 ONLINE_ACTIVATED. -/
  | onlineActivated
  /-- spec/21 ONLINE_ABANDONED. -/
  | onlineAbandoned
  /-- spec/21 SVC_LOCKOUT. -/
  | svcLockout
  /-- spec/11 PAIR_REFUSED. -/
  | pairRefused
  /-- spec/11 R246: a copy starts again. -/
  | shadowRestart
  /-- spec/10 SPIRE_SELFTEST_FAIL. -/
  | spireSelftestFail
  /-- spec/10: a donor fails. -/
  | reintDonor
  /-- spec/10: a join hold ends without the report. -/
  | reintJoin
  /-- spec/11 R256: a switch-over. -/
  | pairSwitch
  /-- spec/13: a cold-start collision. -/
  | ringCsCollision
  /-- spec/13: a cold start fails. -/
  | ringCsFail
  /-- spec/13 R300: admission refused. -/
  | ringAdmitRefused
  /-- spec/12 R286: a schedule switch. -/
  | ringSchedSwitch
  /-- spec/16 R371 IO_RESTART_STUCK. -/
  | ioRestartStuck
  /-- spec/16 R371 IO_RESTART_EXPIRED. -/
  | ioRestartExpired
deriving DecidableEq, Repr

/-- A record code (spec/18 R392): a fault raise, a code the spec states, or a code that the spec names and
leaves to the running firmware's code list (log entry 20). -/
inductive RecCode where
  | raise (source : Nat)
  | num (code : Nat)
  | named (n : RecName)
deriving DecidableEq, Repr

/-- One record (spec/18 R391); its CRC is computed when the record is seen as bytes. -/
structure Rec where
  code : RecCode
  source : Nat
  simul : Bool
  forced : Bool
  latch : Bool
  atInvalid : Bool
  civilInvalid : Bool
  cls : Nat
  rep : Nat
  stamp : Nat
  civil : Nat
  p1 : Nat
  p2 : Nat
deriving DecidableEq, Repr

/-- The recorder (spec/18). Its queues are emptied by POR only (R397); its stored records and pointers are
non-volatile (R402). -/
structure RecSt where
  /-- R394: intake queue, oldest first. -/
  intake : List Rec
  /-- R394: alarm queue, oldest first. -/
  alarm : List Rec
  /-- R398: stored records by number, newest first. -/
  store : List (Nat × Rec)
  /-- R398 REC_NEXT. At delivery 0. -/
  next : Nat
  /-- R395: intake drops since the last summary, per class 0 to 3. -/
  sinceIntake : List Nat
  /-- R395: alarm drops since the last summary, per class. -/
  sinceAlarm : List Nat
  /-- R397: drops at 13.0 V for which no summary has been written, per class. -/
  sincePower : List Nat
  /-- R397: the hold-up bus has fallen below 13.0 V and the recorder stores nothing. -/
  stopped : Bool
  /-- R394: alarm subscriptions, service session and the lowest priority wanted. -/
  subs : List (Nat × Nat)
deriving DecidableEq, Repr

/-- One entry of the change log (spec/18 R401). -/
structure ChgEntry where
  seq : Nat
  role : Nat
  port : Nat
  kind : Nat
  spires : Nat
  stamp : Nat
  civil : Nat
  target : Nat
  old : Nat
  new : Nat
  opnd2 : Nat
deriving DecidableEq, Repr

/-! ### Service protocol (spec/21) -/

/-- One service session (spec/21 R454). -/
structure SvcSess where
  sid : Nat
  role : Role
  port : Nat
  lastSeq : Nat
  lastNs : Nat
deriving DecidableEq, Repr

/-- A login that has been challenged (spec/21 R456). -/
structure LoginSt where
  port : Nat
  role : Role
  clientNonce : Nat
  moduleNonce : Nat
deriving DecidableEq, Repr

/-- Failed proofs or a lockout of one role on one port (spec/21 R456). -/
structure LockoutSt where
  port : Nat
  role : Role
  /-- Times of the failed proofs within the last 60 s, ns. -/
  fails : List Nat
  /-- The role is refused on the port. -/
  locked : Bool
deriving DecidableEq, Repr

/-- A command that waits for its confirmation (spec/18 R399, spec/19 R408, spec/21 R440 and others). -/
structure Confirm where
  code : Nat
  opnds : List Nat
  untilNs : Nat
deriving DecidableEq, Repr

/-- The service side of the comms plane (spec/21 R454 to R456). -/
structure SvcSt where
  sessions : List SvcSess
  logins : List LoginSt
  lockouts : List LockoutSt
  confirms : List Confirm
deriving DecidableEq, Repr

/-! ### Supplies, resets, power states and lamps (spec/19, spec/22) -/

/-- One supply feed (spec/01 R26, spec/19 R420). -/
structure FeedSt where
  /-- Last measured voltage, mV. -/
  mv : Nat
  /-- The over-voltage switch has connected the feed (R26). -/
  connected : Bool
deriving DecidableEq, Repr

/-- Supplies and reset inputs. -/
structure PwrSt where
  feedA : FeedSt
  feedB : FeedSt
  /-- Hold-up bus voltage, mV. -/
  busMv : Nat
  /-- R420: lowest bus voltage in the present supply warning, mV. -/
  busMin : Nat
  /-- R420: the supply warning stands, and since when (ns). -/
  warn : Bool
  warnSince : Nat
  /-- R461: the nine strap contacts as the wiring presents them, ADDR7 to ADDR0 and ADDR_PAR in bit 8. -/
  strap : Nat
  /-- R420: the module is held in POR until its supplies return. -/
  porHeld : Bool
  /-- R467: amber lamp test at the entry to BOOT runs. -/
  lampTest : Bool
  /-- R415: the absolute angle at which a sleeping spire begins to wake. -/
  wakeAt : Three (Option Nat)
  /-- R421: repair-map entries whose flash write the supply warning defers: spire, bank, row. -/
  deferRows : List (Nat × Nat × Nat)
deriving DecidableEq, Repr

/-! ### Safe sessions (spec/15) -/

/-- Session states (spec/15 R338), codes 0 to 4 in this order. -/
inductive SessState where
  | disabled | idle | connecting | opened | holdoff
deriving DecidableEq, Repr

/-- One session. -/
structure SessSt where
  st : SessState
  nI : Nat
  nR : Nat
  txSeq : Nat
  rxSeq : Nat
  lastTs : Nat
  lastTsEcho : Nat
  /-- R339: frames held since the last freeze, oldest first, at most 4. -/
  held : List SFrame
  /-- AT at the entry into OPEN, and whether DATA has been accepted since. -/
  openAt : Nat
  dataSeen : Bool
  /-- The payload last accepted (DELIVERY 0). -/
  payload : List Byte
  cause : Nat
deriving DecidableEq, Repr

/-- A session that the image does not define. -/
def SessSt.none' : SessSt := ⟨.disabled, 0, 0, 0, 0, 0, 0, [], 0, false, [], 0⟩

/-! ### Logic engine and memory of a spire (spec/04, spec/09) -/

/-- A write record of 64 bits (spec/10 R205). -/
abbrev WRec := BitVec 64

/-- One logic engine (spec/04 R76, R77, R99, R104, R105). -/
structure Eng where
  /-- LE_STATUS.RUN: a group executes. Reset 0. -/
  run : Bool
  /-- LE_STATUS.STOPPED: stopped under R104. Reset 0. -/
  stopped : Bool
  /-- LE_STATUS.BARRIER: waiting at a finial. Reset 0. -/
  barrier : Bool
  /-- The instance group in execution. -/
  group : Nat
  /-- R99, LE_ERR_PC: instruction index in logic code. -/
  pc : Nat
  /-- R88: instructions still to be passed over by SKIPZ. -/
  skip : Nat
  /-- R77: the mask stack, top first; the last entry is the base mask. -/
  stack : List (BitVec 8)
  /-- R76: ACC, bit j for lane j. -/
  acc : BitVec 8
  /-- R76: WACC of the eight lanes. -/
  wacc : List Word
  /-- R79: instruction clocks in the base cycle in progress. -/
  clkCycle : Nat
  /-- R79: instruction clocks of the running execution, per task code. -/
  clkTask : Sparse Nat
  /-- R191: stall clocks of the running execution, per task code. -/
  stallTask : Sparse Nat
  /-- spec/21 R451: new edge detectors that read FIRST as 1 at their first acting execution: space and key of P. -/
  freshEdges : List (Nat × Nat)
deriving DecidableEq, Repr

/-- The memory spaces that logic writes (spec/04, Memory spaces): F and V by instance (group * 8 + lane), G, H, Q
and T by address. F, G and Q bits and V, H and T words that are not listed read 0. -/
structure SMem where
  f : Sparse Bool
  v : Sparse Word
  g : Sparse Bool
  h : Sparse Word
  q : Sparse Bool
  t : Sparse Word
deriving DecidableEq, Repr

/-! ### Token keep and boundary tokens of a spire (spec/06, spec/07) -/

/-- A token (spec/06 R126), field by field; `rsvd` holds its reserved flag bits, `crc` its stored CRC. -/
structure Token where
  holder : Nat
  shareCnt : Nat
  st : Nat
  cls : Nat
  gen : Nat
  boundary : Bool
  resident : Bool
  recon : Bool
  shareSet : Nat
  rsvd : Nat
  home : Nat
  peer : Nat
  tseq : Nat
  crc : Nat
deriving DecidableEq, Repr

/-- An entry of a transaction (spec/06, Transaction entry). -/
structure TEntry where
  token : Nat
  cls : Nat
  live : Bool
  added : Bool
deriving DecidableEq, Repr

/-- A transaction slot (spec/06, Transaction slot); `hchk` is its stored check value. -/
structure TSlot where
  tstate : Nat
  route : Nat
  nEntries : Nat
  nLive : Nat
  domain : Nat
  openAt : Nat
  inst : Nat
  hchk : Nat
  entries : List TEntry
deriving DecidableEq, Repr

/-- A closed slot: all zeros. -/
def TSlot.closed : TSlot := ⟨0, 0, 0, 0, 0, 0, 0, 0, []⟩

/-- A stored offer (spec/07 R160): from which module, for which token, with which transfer sequence. -/
structure StoredOffer where
  src : Nat
  token : Nat
  tseq : Nat
deriving DecidableEq, Repr

/-- The boundary timers (spec/07 R162). -/
inductive BtTimerKind where
  | offer | confirm | completion | retry | long
deriving DecidableEq, Repr

/-- A running boundary timer: its token and the COUNT of the boundary-count start. -/
structure BtTimer where
  kind : BtTimerKind
  token : Nat
  /-- COUNT at the transmission that started it; none while the record has not left (R159). -/
  start : Option Nat
deriving DecidableEq, Repr

/-- A pending SETTLE of this module (spec/07 R167). -/
structure SettlePend where
  number : Nat
  role : Nat
  token : Nat
  /-- Peers that have not answered. -/
  waiting : List Nat
  start : Nat
deriving DecidableEq, Repr

/-- Boundary state of one spire: part of the sealed state (spec/07). -/
structure BtSt where
  /-- R160: stored offers. -/
  offers : List StoredOffer
  /-- R162, R164, R169: tokens with AUTH_REQ, and the peer against which the long-partition timeout set it (0xFFFF: the
  answers set it). -/
  authReq : List (Nat × Nat)
  /-- R164: for an AWAY token with RECON, the modules that have answered neither owning nor in transfer. -/
  noOwner : List (Nat × Nat)
  timers : List BtTimer
  /-- R159: records produced and not yet transmitted, oldest first, with the cycle that produced them. -/
  outbox : List (Nat × BRec)
  /-- R158: RSEQ of the last record sent, per receiver. -/
  rseqTx : Sparse Nat
  /-- R158: RSEQ of the last record taken in, per sender. -/
  rseqRx : Sparse Nat
  /-- R169: fenced EPOCH per peer. -/
  fences : List (Nat × Nat)
  /-- R158 BT_EPOCH as kept with the sealed state. -/
  epoch : Nat
  /-- R167: pending SETTLE commands of this module. -/
  settles : List SettlePend
  /-- R163: where the query turn stands. -/
  queryPos : Nat
  /-- R163: tokens that need a QUERY. -/
  queries : List (Nat × Nat × Bool)
deriving DecidableEq, Repr

/-- The keep copy of one spire. -/
structure KeepSt where
  tokens : List Token
  slots : Sparse TSlot
  bt : BtSt
deriving DecidableEq, Repr

/-! ### Pager, banks and snapshots of a spire (spec/09) -/

/-- A resident page (spec/09, Residency). -/
structure PgSlot where
  page : PageId
  /-- R182: the number of the page slot it occupies; those of the scratch banks come first (R185). -/
  home : Nat
  dirty : Bool
  pinned : Bool
  /-- R188: fetched on demand. -/
  demand : Bool
  /-- R190: poisoned by an uncorrectable DRAM error. -/
  poisoned : Bool
deriving DecidableEq, Repr

/-- A march test in progress or requested (spec/09 R201, R203). -/
structure MarchReq where
  bank : Nat
  alg : Nat
  preserve : Bool
  /-- The next block of 4 KiB. -/
  block : Nat
  /-- R201: its step has started and its 4 KiB is fenced; else it waits for a finial barrier. -/
  go : Bool
deriving DecidableEq, Repr

/-- The sealed state that a snapshot slot holds (spec/09 R193). -/
structure Snapshot where
  seq : Nat
  count : Nat
  /-- AT of the seal. -/
  stamp : Nat
  img : ImageId
  mem : SMem
  keep : KeepSt
  /-- Other sealed state (spec/11 R237, spec/15 R339): the session state. -/
  sess : Sparse SessSt
  /-- The transmit sequence numbers of the output messages (spec/14 R319, spec/15 R345). -/
  txSeq : Sparse Nat
deriving DecidableEq, Repr

/-- The pager of one spire (spec/09). -/
structure PagerSt where
  /-- Resident pages, least recently used first. -/
  slots : List PgSlot
  /-- R182: page slots that the partition gives. -/
  nslots : Nat
  /-- R193: the snapshot channel still copies the frame parts of the last seal. -/
  copying : Bool
  /-- R192: snapshots, newest first, at most 64. -/
  snaps : List Snapshot
  /-- R203: a march test asked for through MT_CTRL. -/
  march : Option MarchReq
  /-- R203: the next block of the automatic pass: bank and block. -/
  autoPos : Nat
  /-- R181: the next word of the scrub. -/
  scrubPos : Nat
  /-- spec/17 SP_ECC_RATE: clock values of the corrected errors of the last hour. -/
  eccNs : List Nat
  /-- R202: the repair map in flash (N): the banks and rows that stand in a spare row, in the order in which they were
  mapped; the n-th row of a bank stands in its spare n. -/
  repair : List (Nat × Nat)
  /-- R194: Q copies per task code: the Q bits that are set. -/
  qcopy : Sparse (Sparse Bool)
  /-- R194: pages of Q whose copy is still to be made, and the task. -/
  qpend : List (Nat × Nat)
  /-- R186, R189: the page whose fill is in progress. -/
  filling : Option PageId
deriving DecidableEq, Repr

/-- One spire. -/
structure Spire where
  eng : Eng
  mem : SMem
  keep : KeepSt
  pg : PagerSt
deriving DecidableEq, Repr

/-! ### Scheduler (spec/05) -/

/-- One task, periodic (codes 0 to 7) or event (8 to 23), or the sweep (24). Angles are absolute:
COUNT * 65,536 + ANGLE. -/
structure TaskSt where
  /-- Released and not yet past its last finial. -/
  ready : Bool
  /-- R110: pending release of an event task. -/
  pend : Bool
  /-- R117, R192: the release is held until the seal is complete. -/
  held : Bool
  /-- The next group to run, counted from the task's first. -/
  next : Nat
  /-- R108, R111: the frozen input image: the I bits that are 1. -/
  input : Sparse Bool
  /-- R90: NOW. -/
  now : Nat
  /-- Angle of the last release; none before the first. -/
  rel : Option Nat
  /-- R111, R121: deadline, while the watchdog is armed. -/
  deadline : Option Nat
  /-- R98: messages marked by the execution in progress, in order: spire and message. -/
  marks : List (Nat × Nat)
  /-- R115: messages marked at the latest completed execution. -/
  outMarks : List Nat
  /-- Angle at which the latest execution was completed: its last finial, of a sweep the end of its audit (R119); none before
  the first. -/
  fin : Option Nat
  /-- R108: the base cycle whose IN_ANG froze the input image (periodic tasks). -/
  frozen : Option Nat
  /-- R115, R119: the last output angle that has passed. -/
  lastOut : Option Nat
  /-- R111: the completed execution's messages have been emitted once (event tasks). -/
  sent : Bool
  /-- spec/09 R187: the lead fills of the task may begin. -/
  lead : Bool
deriving DecidableEq, Repr

/-- A task at rest. -/
def TaskSt.idle : TaskSt := ⟨false, false, false, 0, [], 0, none, none, [], [], none, none, none, false, false⟩

/-- The scheduler; the three spires' schedulers take the same decisions (spec/05). -/
structure SchedSt where
  tasks : Sparse TaskSt
  /-- SCH_STATUS.CUR: the running task code; 31 none. -/
  cur : Nat
  /-- R116: the audit of this base cycle has run. -/
  audited : Bool
  /-- R116: the audit found no mismatch in any compared spire. -/
  auditOk : Bool
  /-- R117: SEAL_ANG has been reached and the seal waits for the running task. -/
  sealWaits : Bool
  /-- R192: the seal's write-back wait and copy run. -/
  sealRuns : Bool
  /-- SCH_STATUS.SEALED. -/
  sealDone : Bool
  /-- SCH_STATUS.HOLD (R117). -/
  hold : Bool
  /-- R23: a spire was isolated or an audit failed in this cycle, so it produces no delta. -/
  noDelta : Bool
  /-- R118: absolute angle of the seal of the last sweep; none before the first. -/
  sweepSeal : Option Nat
  /-- R118: absolute start angle of the sweep in progress. -/
  sweepStart : Option Nat
  /-- R112: releases that have occurred while a task runs, by task code and release angle. -/
  relq : List (Nat × Nat)
  /-- R133: keep intake has run in this base cycle (or sweep). -/
  intake : Bool
  /-- R133: the first task released in this base cycle (or the sweep), and the angle up to which its intake takes events. -/
  firstRel : Option (Nat × Nat)
  /-- spec/06 R152: a write of KP_TSEL, of KP_XSEL waits for the next barrier. -/
  tsel : List Nat
  xsel : List Nat
deriving DecidableEq, Repr

/-- An event that waits for the keep's next intake (spec/06 R133): a boundary record or a KP_CMD command. -/
inductive KEvent where
  | brec (r : BRec)
  | cmd (token cmd : Nat)
deriving DecidableEq, Repr

/-- A boundary peer as the comms plane and the management firmware see it (spec/07 R171, R175). -/
structure PeerSt where
  addr : Nat
  /-- R171: the system master reports it admitted to the ring. -/
  ringAdmitted : Bool
  /-- R171: time of the last quote that met the conditions, ns; none without one. -/
  quoteNs : Option Nat
  /-- R171: our own nonce in the request that is open. -/
  nonce : Option Nat
  /-- R171: mode code that the quote reports. -/
  quoteMode : Nat
  /-- R171: admitted. -/
  admitted : Bool
  /-- R175 BT_PEER.REACHABLE: a static frame within the last 2 rounds. -/
  reachable : Bool
  /-- R169: since when it has been unreachable, ns. -/
  lostNs : Nat
  /-- R175 BT_PEER_EP.SEEN. -/
  seenEpoch : Nat
deriving DecidableEq, Repr

/-! ### Belfry (spec/10) -/

/-- Comparison state of a spire (spec/10 BF_STATUS), codes 0 to 5 in this order. -/
inductive SpireState where
  | compared | selftest | quiet | copy | join | latched
deriving DecidableEq, Repr

/-- What a class of triple is (spec/10 BF_MM.CLASS), codes 0 to 4 in this order. -/
inductive TripleClass where
  | record | outputWord | tickSig | serviceSig | ecc
deriving DecidableEq, Repr

/-- The belfry. -/
structure BfSt where
  /-- R234 BF_STATUS.SPA to SPC. -/
  spst : Three SpireState
  /-- R222: raised without a counted recovery, so R478 governs the reintegration. -/
  uncounted : Three Bool
  /-- R382, R478: freed from its latch at the edge reset; it waits out a quiet period of its own. -/
  freed : Three Bool
  /-- R218, R221: isolated slices. -/
  sliceIso : Three Bool
  /-- R206: each spire's records not yet compared: the delay register's 512 and those behind them. -/
  streams : Three (List WRec)
  /-- R208: records compared since the start of the group. -/
  pos : Nat
  /-- R212: the finial (or digest, R213) triple has passed and the barrier may complete. -/
  barrierReady : Bool
  /-- R220: comparison has stopped after NO_MAJORITY. -/
  stopped : Bool
  /-- R230: the voted output word last formed. -/
  vote : BitVec 16
  /-- spec/19 R418: the present tick window opened while the spires were in L4. -/
  openL4 : Bool
  /-- R227: the spire has joined and waits for the first release after the hold to be compared. -/
  entering : Three Bool
  /-- R227: a join hold runs, and since when (ns). -/
  joinHold : Bool
  joinSince : Nat
  /-- R226: the spire that reintegrates waits for the first snapshot copy completed in both donors. -/
  copySeq : Three (Option Nat)
  /-- R226: retries since the last join. -/
  retries : Three Nat
  /-- R233: the injection test has failed. -/
  injectFailed : Bool
deriving DecidableEq, Repr

/-! ### Pair (spec/11) -/

/-- spec/19 R418: the vital parts that a standby has computed ahead: the pair status that they carry, the last base cycle that
they reach, and, once NAK, TAKEOVER or the mode has changed, the clock value from which frames carry the change. -/
structure PreVital where
  status : PairStatus
  upTo : Nat
  since : Option Nat
deriving DecidableEq, Repr

/-- Pair operation. -/
structure PairSt where
  /-- R248: consecutive rounds without a partner frame; the witnesses seen in the present and the last round. -/
  missRounds : Nat
  witNow : List Nat
  witPrev : List Nat
  /-- R237: the partner's last pair status. -/
  partner : PairStatus
  /-- Own flags of R237. -/
  handover : Bool
  takeover : Bool
  copyReq : Bool
  /-- R250: a takeover is decided: cause and clock value. -/
  decided : Option (Nat × Nat)
  /-- R242: chunks taken of the delta or copy in reception, newest first. -/
  chunks : List Chunk
  /-- R245: complete deltas that wait, oldest first. -/
  buffered : List (List Chunk)
  /-- R245: chunks of the copy taken. -/
  copy : List Chunk
  /-- R256: an accepted PAIR_SWITCH: the session, and the seal awaited and boundaries since it. -/
  switching : Option (Nat × Nat)
  /-- R256: the partner has reported the seal and the role is handed over at the next boundary. -/
  switchReady : Bool
  /-- R235: time of the last valid quote of the partner. -/
  quoteNs : Option Nat
  nonce : Option Nat
  /-- R192 SNAP_SEQ, the last seal; for a standby the last applied. -/
  snapSeq : Nat
  /-- R253 and R449: the partner's quote showed STAGED with equal tallies 8, and when. -/
  stagedNs : Option Nat
  /-- R241: delta chunks still to send, and R245: copy chunks still to send, in order. -/
  outq : List Chunk
  copyq : List Chunk
  /-- R241: chunks sent of the current delta and copy, kept for NAK. -/
  sent : List Chunk
  /-- R245: the seal that the initial copy under way carries; the clock value when its last chunk left. -/
  copySeq : Option Nat
  copyEnd : Option Nat
  /-- spec/19 R418: the vital parts computed ahead. -/
  pre : Option PreVital
deriving DecidableEq, Repr

/-! ### Ring (spec/12, spec/13) -/

/-- Ring states (spec/13 R289), codes 0 to 4 in this order. -/
inductive RingState where
  | listen | coldstart | integrate | sync | inhibit
deriving DecidableEq, Repr

/-- What a ring brought in a static slot in the round (spec/12 R278, spec/13 R305): a frame that was accepted, one that failed, or
one that a guardian cut off. -/
inductive SlotSeen where
  | accepted | invalid | cut
deriving DecidableEq, Repr

/-- What a node knows of another node. -/
structure NodeSt where
  addr : Nat
  /-- R299: COUNT at the last ADMIT accepted for it. -/
  admitted : Option Nat
  /-- Rounds since a vital part of it was accepted. -/
  silent : Nat
  mode : Nat
  /-- R286: votes in the last two rounds: request number and YES. -/
  votes : List (Nat × Bool)
  /-- R271: consecutive base cycles with accepted reference frames. -/
  refCycles : Nat
  /-- R35, R298: the mark and identity of its last integration frame. -/
  mark : Nat
  /-- spec/00 R2: its integration frame or its quote showed bench flag 1. -/
  bench : Bool
  /-- R300: the image that it quoted when this module, as system master, admitted it. -/
  quoted : ImageId
deriving DecidableEq, Repr

/-- A quote that the system master has asked of a node (spec/13 R299): nonce, time, identity of its frame. -/
structure AdmQuote where
  addr : Nat
  nonce : Nat
  since : Nat
  id : Option ImageId
deriving DecidableEq, Repr

/-- Schedule switch states (spec/12 R286). -/
inductive SwState where
  | idle | voting | committed
deriving DecidableEq, Repr

/-- The accepted reference of the lowest rank in a round (spec/12 R267, R269): rank, sender, COUNT, round and schedule, the
stamps on the two inputs, LOOP_NS. -/
structure BestRef where
  rank : Nat
  src : Nat
  count : Nat
  round : Nat
  sched : Nat
  tP : Option Nat
  tS : Option Nat
  loopNs : Nat
deriving DecidableEq, Repr

/-- One node of the ring. Register views: RG_SYNC.STATE and MASTER, RG_MASTER, RG_SW, RG_HEAL. -/
structure RingSt where
  st : RingState
  /-- R289: announcing phase, and synchronised passive rounds. -/
  announcing : Bool
  passive : Nat
  /-- R300: when announcing began; when a pause in announcing began. -/
  announceNs : Option Nat
  pauseNs : Option Nat
  /-- R299: this node is admitted. -/
  admitted : Bool
  /-- R262: the round in progress. -/
  round : Nat
  /-- R269: the accepted reference of the lowest rank in this round; R267: error e of the round, ns. -/
  best : Option BestRef
  err : Option Int
  errPrev : Int
  offset : Int
  rate : Int
  /-- R268: silent in this round after an unsynchronised one. -/
  mute : Bool
  unsync : Nat
  /-- R267: the last 16 values of tP and tS with L. -/
  delays : List (Nat × Nat × Nat)
  /-- R296, R311: D_P, D_S and L last valid before the node left the ring. -/
  heldDly : Option (Nat × Nat × Nat)
  tm : Nat
  sm : Nat
  /-- R271: rounds without the master's reference. -/
  tmMissing : Nat
  /-- R286. -/
  sw : SwState
  swTarget : Nat
  swReq : Nat
  swRounds : Nat
  /-- Request that this node votes on, from a reference with REQ. -/
  voteFor : Option (Nat × Nat)
  /-- R286: the request of the round's reference; it is voted on from the next round. -/
  voteNext : Option (Nat × Nat)
  commitFor : Option Nat
  sched : Nat
  nodes : List NodeSt
  quotes : List AdmQuote
  /-- R292: clock value up to which no cold start begins. -/
  csBlock : Nat
  csAttempt : Nat
  csClean : Nat
  /-- R309: rounds without a frame, per port. -/
  portSilent : List Nat
  /-- R312: rounds with the link up, per lost port. -/
  portUp : List Nat
  lost : List Bool
  healed : Bool
  /-- R280: per import: data words of the last accepted frame and rounds without one. -/
  imports : List (List Nat × Nat)
  /-- R279: the export words now sent. -/
  exports : List Nat
  /-- R278: per slot of ring α EMPTY, INVALID, TRUNC, CLASH. -/
  slots : Sparse (Nat × Nat × Nat × Nat)
  /-- R260, R278: what came in each slot in this round, own slots included. -/
  slotSeen : List (Nat × SlotSeen)
  /-- R289: schedules already recorded absent. -/
  absent : List Nat
  /-- R297, R13: RING_SLOT_CLASH already recorded in this base cycle. -/
  clashRec : Bool
  /-- R304: round in which the transmit guardian is closed. -/
  txClosed : Bool
  /-- R308: a sync loss not yet followed by SYNC. -/
  lostSync : Bool
  /-- R282: payload sent at own reserved positions in this round. -/
  resBytes : Nat
  /-- R276: senders whose vital part was accepted in this round, and in the last. -/
  heard : List Nat
  heardPrev : List Nat
  /-- R271: senders whose reference frame was accepted in this round, this node's own sending included. -/
  heardRefs : List Nat
  refsPrev : List Nat
  /-- R286: result of the last switch (RG_SW.RESULT). -/
  swResult : Nat
  /-- R311: a frame with HEALED has been accepted; the nodes that send it. -/
  healSeen : Bool
  healNodes : List Nat
  /-- R311: this is the round in which this node first loops. R312: the ports concerned, until the closed ring is back. -/
  loopRound : Bool
  healPorts : List Nat
  /-- R299: this node is system master, since it last checked every node (COUNT). -/
  smSince : Option Nat
  /-- R281: the mini-slot counter MSC; R282: an SFD has been seen in the mini-slot in progress, in the one before it. -/
  msc : Nat
  sfdNow : Bool
  sfdLast : Bool
deriving DecidableEq, Repr

/-- spec/12 R265, spec/13 R290, R310: the forwarding path of the four ring ports, which only POR resets. -/
structure FwdSt where
  /-- R258: the port holds a qualified SFP and is in use. -/
  up : List Bool
  /-- R310: the port is lost and its loop or path end is made. -/
  looped : List Bool
deriving DecidableEq, Repr

/-! ### CAN channels (spec/14) -/

/-- A transmit-queue entry (spec/14 R324): identifier, message number, data, consecutive data-field errors, and the
emission that has fallen due while its frame was on the bus. -/
structure CanEntry where
  id : Nat
  msg : Nat
  data : List Byte
  clash : Nat
  again : Option (List Byte)
deriving DecidableEq, Repr

/-- One channel. -/
structure CanCh where
  queue : List CanEntry
  /-- R326: refused identifiers. -/
  blocked : List Nat
  /-- R323: the current latch and the previous one: TS and AT. -/
  latch : Nat × Nat
  prevLatch : Nat × Nat
  /-- R324: CAN_TXQ_FULL recorded in this base cycle. -/
  fullRec : Bool
  /-- Data of the latest non-vital message received, by its place in CAN_SETUP. -/
  plain : Sparse (List Byte)
  /-- R323, R329: the clock at the channel's last BRST; TS counts from there, or from the last reset of the module. -/
  ts0 : Nat
deriving DecidableEq, Repr

/-- A channel with nothing queued. -/
def CanCh.idle : CanCh := ⟨[], [], (0, 0), (0, 0), false, [], 0⟩

/-- One object controller, keyed channel * 32 + address (spec/14 R319, R321). -/
structure CtlSt where
  /-- Last accepted SEQ; none before the first. -/
  lastSeq : Option Nat
  data : List Byte
  absent : Bool
  /-- AT at the last accepted status. -/
  lastAt : Nat
  /-- R323: the AT to which its stamp converted; none when it did not. -/
  stampAt : Option Nat
  /-- Commands sent: SEQ [15:0] and AT. -/
  sent : List (Nat × Nat)
deriving DecidableEq, Repr

/-- A controller after LOAD. -/
def CtlSt.idle : CtlSt := ⟨none, [], true, 0, none, []⟩

/-! ### Sessions, queues, check-value units (spec/15) -/

/-- A descriptor in a queue (spec/15 R343). -/
inductive Desc where
  | sess (n : Nat) (f : SFrame)
  | ring (m : QMsg)
deriving DecidableEq, Repr

/-- One queue (spec/15 R343, R344). -/
structure QueueSt where
  descs : List Desc
  /-- HELD in each spire's credit word. -/
  held : Three Nat
  free : Nat
  /-- Dropped since the previous freeze of the consumer. -/
  dropped : Nat
  /-- QUEUE_FULL recorded in this base cycle. -/
  fullRec : Bool
  /-- R345: last accepted ring SEQ. -/
  lastSeq : Option Nat
  /-- R344: an atomic add has returned range status since the last check. -/
  range : Bool
  /-- R343: the window as last filled at a freeze: its bits that are 1, by their address in I. -/
  window : List (Nat × Bool)
  /-- R344: descriptors accepted at that freeze. -/
  taken : Nat
deriving DecidableEq, Repr

/-- A queue that the image does not define. -/
def QueueSt.none' : QueueSt := ⟨[], Three.all 0, 0, 0, false, none, false, [], 0⟩

/-- A comms-plane check-value unit's running remainder and the number of data bytes fed since START. -/
structure CvSt where
  reg : Nat
deriving DecidableEq, Repr

/-! ### Safe inputs and outputs (spec/16) -/

/-- A local input (spec/16 R355, R356). -/
structure InSt where
  /-- Consecutive ON (or, non-vital, differing) windows. -/
  cnt : Nat
  val : Bool
  brk : Nat
  noBrk : Nat
  wb : Bool
deriving DecidableEq, Repr

/-- A pair of inputs (spec/16 R359, R360). -/
structure PairInSt where
  /-- Clock value at which the running discrepancy began. -/
  since : Option Nat
  latch : Bool
  /-- R360: both channels have been 0 in one window since the latch; the window in which the first became 1. -/
  bothZero : Bool
  firstOne : Option Nat
  value : Bool
deriving DecidableEq, Repr

/-- One output's diagnostics (spec/16 R363 to R366). -/
structure OutSt where
  /-- Consecutive equal rest results: result code and count. -/
  rest : Nat × Nat
  /-- Consecutive checks, while energised, of a terminal that is not as it should be. -/
  deadCnt : Nat
  /-- The test pulse in progress: true the high side. -/
  pulse : Option Bool
  /-- A reading between the thresholds in the last test of slot 2n, of slot 2n + 1. -/
  ambHigh : Bool
  ambLow : Bool
  /-- R366: consecutive test seconds with tests not done. -/
  notDone : Nat
  /-- Clock value of the last change of the voted bit. -/
  changeNs : Nat
  /-- R372: rest checks still to pass after an edge reset. -/
  recheck : Nat
deriving DecidableEq, Repr

/-- Field-supply states (spec/16 R368), codes 0 to 3. -/
inductive FsState where
  | normal | low | fault | missing
deriving DecidableEq, Repr

/-- Edge-reset states (spec/16 R371), codes 0 to 3. -/
inductive EdgeState where
  | idle | high | armed | stuck
deriving DecidableEq, Repr

/-- The I/O plane. -/
structure IoSt where
  inputs : List InSt
  pairs : List PairInSt
  outs : List OutSt
  fs : FsState
  /-- Measurements (ms) below 16.8 V, and below 2.0 V, in a row. -/
  below168 : Nat
  below2 : Nat
  /-- R374 IO_FS.MIN_100MV: the lowest measurement since the clear; none before the first. -/
  fsMin : Option Nat
  /-- R369: clock value of the last presentation; none before the first. -/
  present : Option Nat
  silence : Bool
  /-- R369: the last presentation was marked HOLD. -/
  hold : Bool
  /-- The voted output word last received. -/
  word : BitVec 16
  edge : EdgeState
  riseNs : Nat
  armedNs : Nat
  /-- R371: debounce of RESTART_IN: value and count of differing windows. -/
  restart : Bool
  restartCnt : Nat
  /-- Both switches of On closed. -/
  on : BitVec 16
deriving DecidableEq, Repr

/-! ### Attestation (spec/20) -/

/-- An entry of a spire's attestation history (spec/20 R434). -/
structure HistEntry where
  digest : Nat
  count : Nat
  stage : Nat
  cause : Nat
deriving DecidableEq, Repr

/-- What R430 latches for a quote. -/
structure QuoteHead where
  mode : Nat
  stamp : Nat
  id : ImageId
  addr : Nat
  pair : Nat
deriving DecidableEq, Repr

/-- A quote (spec/20 R429): the path that asked for it, signed bits, flags, nonce, what R430 latched, tallies, signatures. -/
structure Quote where
  path : QuotePath
  signed : Nat
  qflags : Nat
  nonce : Nat
  head : QuoteHead
  tallies : Three (List Nat)
  sigs : Three Nat
deriving DecidableEq, Repr

/-- Measured start and the Lanterns. -/
structure AttSt where
  /-- Histories of the three spires, newest first (N). -/
  hist : Three (List HistEntry)
  /-- R433: the queue, in service order. -/
  queue : List QuoteReq
  /-- R430: the latch of the request at the head of the queue. -/
  latch : Option QuoteHead
  /-- R433: quotes that wait for a dynamic position of this node. -/
  ringOut : List Quote
  /-- R426: the digests of the comms-plane and the I/O-plane firmware that run: two spires measured them alike. -/
  comms : Option Nat
  ioPlane : Option Nat
deriving DecidableEq, Repr

/-! ### Updates, settings, on-line change (spec/21) -/

/-- A boot pointer record (spec/21 R436). -/
structure BootRec where
  seq : Nat
  set : Nat
  img : Nat
  trial : Bool
  left : Nat
  deadline : Nat
  migrated : Bool
deriving DecidableEq, Repr

/-- Update stages (spec/21 R457 UPD_STATUS.STAGE), codes 0 to 5. -/
inductive UpdStage where
  | idle | download | complete | verifying | verified | trial
deriving DecidableEq, Repr

/-- The settings (spec/20 R425 tally 7, spec/21 R447, R455, R456), non-volatile. -/
structure Settings where
  format : Nat
  /-- R62: the four image keys; their states stand in IMGKEY_STATE. -/
  imageKeys : List Nat
  /-- R301: the system manifest. -/
  manifest : List (Nat × ImageId)
  salt : Nat
  /-- R456: verifiers of engineer, maintainer, auditor. -/
  verifiers : List Nat
  /-- R455: per port IPv4 and IPv6 address, with prefix length and default gateway. -/
  ip4 : List (Option PortAddr)
  ip6 : List (Option PortAddr)
  /-- R431: the public key of Morurhal's device certificate authority, that quotes are verified by. -/
  caKey : Nat
  /-- R59: the key-encryption key, held by the secure elements. -/
  kek : Nat
  /-- R438: Morurhal's firmware keys 0 and 1, whose digests the boot ROM holds. -/
  fwKeys : List Nat
  /-- R447: settings that the spec does not name, by name. -/
  other : List (Nat × Nat)
deriving DecidableEq, Repr

/-- Updates and on-line change. -/
structure UpdSt where
  stage : UpdStage
  /-- R437: the current record of each spire (N). -/
  boot : Three BootRec
  /-- R436: the other copy of the record in each spire; none while it is not valid (N). -/
  bootAlt : Three (Option BootRec)
  /-- R425: the digests of the stages 1 to 5 that the signed manifests of sets A and B list (N); none for the manifest of
  delivery (`Config.delivered`). -/
  listed : Option (List Nat) × Option (List Nat)
  /-- R445: set and image to which a trial reverts (N). -/
  oldSet : Nat
  oldImg : Nat
  fallback : Bool
  /-- R441: the manifest being downloaded (N). -/
  manifest : Option Manifest
  /-- R442: NEXT of each part in each spire (N). -/
  next : Three (List Nat)
  /-- R442: NEXT of the staged delta in each spire. -/
  olNext : Three Nat
  /-- R441, R442: the bytes of each part as each spire's inactive slot holds them (N). -/
  flash : Three (List (List Byte))
  /-- R448: the bytes of the delta as received. -/
  olFlash : Three (List Byte)
  /-- R439: the descriptor found at VERIFY (N). -/
  desc : Option Descriptor
  /-- R439: TB_MS of the image that the verified set loads (N). -/
  newTb : Nat
  /-- R439: secure-element counters (N). -/
  secVer : Three Nat
  /-- R448: header of the delta in reception or staged. -/
  olHeader : Option OlHeader
  /-- R448: the merged image, staged and passed; its load failure otherwise shows in STG_STATUS. -/
  staged : Option ImageContent
  /-- R449: armed target COUNT. -/
  target : Option Nat
  /-- R450: image place of the old record, to write back. -/
  backImg : Nat
  /-- R443: UPD_ACTIVATE was accepted and its MRST runs: the SEQ that the new record has. -/
  activating : Option Nat
  /-- R447: the settings copy of the old set and its image-key states, while a migrated copy is in use (N). -/
  oldSettings : Option (Settings × Nat)
deriving DecidableEq, Repr

/-- An engine after POR (spec/04, reset values of LE_STATUS). -/
def Eng.idle : Eng := ⟨false, false, false, 0, 0, 0, [], 0, List.replicate 8 0, 0, [], [], []⟩

/-- Memory spaces with nothing set. -/
def SMem.empty : SMem := ⟨[], [], [], [], [], []⟩

/-- Boundary state with nothing stored. -/
def BtSt.empty : BtSt := ⟨[], [], [], [], [], [], [], [], 0, [], 0, []⟩

/-- A keep with no tokens. -/
def KeepSt.empty : KeepSt := ⟨[], [], BtSt.empty⟩

/-- A pager with nothing resident. -/
def PagerSt.empty : PagerSt := ⟨[], 0, false, [], none, 0, 0, [], [], [], [], none⟩

/-- A spire after POR. -/
def Spire.idle : Spire := ⟨Eng.idle, SMem.empty, KeepSt.empty, PagerSt.empty⟩

/-- A scheduler that runs nothing; SCH_STATUS.CUR reads 31. -/
def SchedSt.idle : SchedSt :=
  ⟨[], 31, false, false, false, false, false, false, false, none, none, [], false, none, [], []⟩

/-- The belfry after POR: every spire compared (BF_STATUS resets to 0), no vote. -/
def BfSt.idle : BfSt :=
  ⟨Three.all .compared, Three.all false, Three.all false, Three.all false, Three.all [], 0, false, false, 0, false, Three.all false, false, 0,
   Three.all none, Three.all 0, false⟩

/-- A pair status with every field 0 and NAK 0xFFFF. -/
def PairStatus.none' : PairStatus := ⟨0, false, false, false, 0, 0xFFFF, 0⟩

/-- The pair after POR. -/
def PairSt.idle : PairSt :=
  ⟨2, [], [], PairStatus.none', false, false, false, none, [], [], [], none, false, none, none, 0, none, [], [], [], none, none, none⟩

/-- The ring node after POR: LISTEN, no time master. -/
def RingSt.idle : RingSt where
  st := .listen
  announcing := false
  passive := 0
  announceNs := none
  pauseNs := none
  admitted := false
  round := 0
  best := none
  err := none
  errPrev := 0
  offset := 0
  rate := 0
  mute := false
  unsync := 0
  delays := []
  heldDly := none
  tm := 0
  sm := 0
  tmMissing := 0
  sw := .idle
  swTarget := 0
  swReq := 0
  swRounds := 0
  voteFor := none
  voteNext := none
  commitFor := none
  sched := 0
  nodes := []
  quotes := []
  csBlock := 0
  csAttempt := 0
  csClean := 0
  portSilent := [0, 0, 0, 0]
  portUp := [0, 0, 0, 0]
  lost := [false, false, false, false]
  healed := false
  imports := []
  exports := []
  slots := []
  slotSeen := []
  absent := []
  clashRec := false
  txClosed := false
  lostSync := false
  resBytes := 0
  heard := []
  heardPrev := []
  heardRefs := []
  refsPrev := []
  swResult := 0
  healSeen := false
  healNodes := []
  loopRound := false
  healPorts := []
  smSince := none
  msc := 1
  sfdNow := false
  sfdLast := false

/-- An input, a pair and an output after MRST (spec/16 R357). -/
def InSt.idle : InSt := ⟨0, false, 0, 0, false⟩
def PairInSt.idle : PairInSt := ⟨none, false, false, none, false⟩
def OutSt.idle : OutSt := ⟨(0, 0), 0, none, false, false, 0, 0, 0⟩

/-- The I/O plane after MRST. -/
def IoSt.idle : IoSt where
  inputs := List.replicate 32 InSt.idle
  pairs := List.replicate 16 PairInSt.idle
  outs := List.replicate 16 OutSt.idle
  fs := .normal
  below168 := 0
  below2 := 0
  fsMin := none
  present := none
  silence := false
  hold := false
  word := 0
  edge := .idle
  riseNs := 0
  armedNs := 0
  restart := false
  restartCnt := 0
  on := 0

/-- The boot pointer at delivery: set A, place 0, confirmed (log entry 2). -/
def BootRec.delivery : BootRec := ⟨0, 0, 0, false, 0, 0, false⟩

/-- Updates at delivery. -/
def UpdSt.delivery : UpdSt where
  stage := .idle
  boot := Three.all BootRec.delivery
  bootAlt := Three.all none
  listed := (none, none)
  oldSet := 0
  oldImg := 0
  fallback := false
  manifest := none
  next := Three.all []
  olNext := Three.all 0
  flash := Three.all []
  olFlash := Three.all []
  desc := none
  newTb := 0
  secVer := Three.all 0
  olHeader := none
  staged := none
  target := none
  backImg := 0
  activating := none
  oldSettings := none

/-- The settings at delivery (log entry 2). -/
def Settings.delivery : Settings where
  format := 0
  imageKeys := [0, 0, 0, 0]
  manifest := []
  salt := 0
  verifiers := [0, 0, 0]
  ip4 := List.replicate 16 none
  ip6 := List.replicate 16 none
  caKey := 0
  kek := 0
  fwKeys := [0, 0]
  other := []

/-! ### What leaves the module -/

/-- What the module sends, answers or drives while it acts on one command. -/
inductive Output where
  /-- An answer of the service protocol (spec/21 R454). -/
  | answer (sid : Nat) (data : List Nat)
  /-- The status BUSY (spec/21 R442). -/
  | busy (sid : Nat)
  /-- A refusal status (spec/00 R10). -/
  | refusal (sid : Nat) (target : Nat)
  /-- Reaction I of a fault source (spec/17 R377): interrupt to the management cores. -/
  | interrupt (source : Nat)
  /-- Reaction N (spec/17 R377): a service window 0xFA00 + source is asked of each compared spire. -/
  | trap (source : Nat)
  /-- A record forwarded to an alarm subscription (spec/18 R394). -/
  | alarm (sid : Nat) (r : Rec)
  /-- A safe-session frame on the ports of session n (spec/15 R338, R341). -/
  | sessionFrame (n : Nat) (f : SFrame)
  /-- A CAN frame enters a channel's queue (spec/14 R324). -/
  | canQueued (ch id : Nat) (data : List Byte)
  /-- A ring queue message (spec/15 R345). -/
  | queueMsg (m : QMsg)
  /-- A boundary record (spec/07 R159). -/
  | boundary (r : BRec)
  /-- A chunk of a delta or of an initial copy (spec/11 R239). -/
  | chunk (k : Chunk)
  /-- The voted output word is presented to the I/O plane (spec/10 R230); `hold` marks HOLD. -/
  | present (word : BitVec 16) (hold : Bool)
  /-- A static or reference frame is sent in a slot (spec/12 R263, R274). -/
  | staticFrame (h : TxHead) (slot : Nat) (block : Option RefBlock) (vital : VitalPart)
  /-- A frame is forwarded on a port's output (spec/12 R265): its SRC, and its slot when static. -/
  | forwarded (port src slot : Nat)
  /-- A gateway copies a payload into the dynamic segment of its other ring (spec/13 R302); `beta`: into ring β. -/
  | relayAdmission (beta : Bool) (m : AdmMsg)
  | relayRequest (beta : Bool) (q : QuoteReq)
  | relayQuote (beta : Bool) (m : QuoteMsg)
  /-- A dynamic frame (spec/12 R277): position and payload length, LAST. -/
  | dynamicFrame (h : TxHead) (pos bytes : Nat) (last : Bool)
  /-- An integration frame (spec/13 R298). -/
  | integrationFrame (h : TxHead) (slot hwid : Nat) (id : ImageId) (mark serial : Nat) (cv : Three Nat)
  /-- A cold-start frame (spec/13 R293). -/
  | coldstartFrame (h : TxHead) (rank attempt tbNs : Nat)
  /-- ADMIT or REFUSE (spec/13 R300). -/
  | admission (m : AdmMsg)
  /-- A quote request of this module (spec/20 R432): to whom, nonce. -/
  | quoteRequest (addr nonce : Nat)
  /-- A quote (spec/20 R429). -/
  | quote (q : Quote)
  /-- CHALLENGE (spec/21 R456): salt and module nonce. -/
  | challenge (port salt nonce : Nat)
  /-- A session key is agreed and the session opened (spec/21 R456). -/
  | login (port sid : Nat)
  /-- An ARP, neighbour-discovery or echo answer (spec/21 R455). -/
  | netAnswer (port kind addr data : Nat)
  /-- The error code group in place of the next byte (spec/13 R305). -/
  | violation (port : Nat)
  /-- An output's switch is moved for a test pulse (spec/16 R364): output, high side, closed. -/
  | pulse (out : Nat) (high closed : Bool)
deriving DecidableEq, Repr

/-- The state of the module. -/
structure State where
  /-- The commands that wait, first in, first out. Reset: empty. -/
  pending : List Instr
  /-- What the module sent out while it acted on the last command (the model's own field; log entry 3). -/
  out : List Output
  /-- How many free values have been drawn (the model's own field; log entry 4). -/
  free : Nat
  /-- The plain registers of the module register space (spec/01 R27). -/
  regs : RegFile
  /-- spec/02: angle time and civil time. -/
  time : TimeSt
  /-- spec/02: the weathervane. -/
  wv : WvSt
  /-- spec/19: mode and restart. -/
  mode : ModeSt
  /-- spec/17: the fault collector. -/
  fc : FcSt
  /-- spec/18: the recorder. -/
  rcd : RecSt
  /-- spec/18 R401: the change log, newest first. -/
  chg : List ChgEntry
  /-- spec/18 R401 CL_NEXT: the next SEQ. At delivery 0. -/
  chgNext : Nat
  /-- spec/21: service sessions. -/
  svc : SvcSt
  /-- spec/19: supplies and resets. -/
  pwr : PwrSt
  /-- spec/04, 06, 07, 09: the three spires. Reset: engines stopped, memories, keep and pager empty. -/
  sp : Three Spire
  /-- spec/05: the scheduler. -/
  sched : SchedSt
  /-- spec/06 R133: events that wait for the keep's next intake, oldest first, each with the absolute angle of its
  receipt. -/
  kevents : List (Nat × KEvent)
  /-- spec/07: boundary peers. -/
  peers : List PeerSt
  /-- spec/10: the belfry. -/
  bf : BfSt
  /-- spec/03: the image in use; none until LOAD accepts one. -/
  img : Option ImageContent
  /-- spec/03 R70 check 0x07, spec/21 R438: the version of the management firmware in set 0 and in set 1; MIN_FW of an
  image is compared with that of the running set. The spec does not give the versions at delivery (DESIGN CHOICE 0, log
  entry 2). -/
  fwVersion : Nat × Nat
  /-- spec/11. -/
  pair : PairSt
  /-- spec/12, spec/13: the node of ring α; the ports of both rings. -/
  ring : RingSt
  /-- spec/12 R260: the node of an independent ring β; of a duplicate β its delays and slot counts. -/
  ringB : RingSt
  /-- spec/13 R290: the forwarding path of the ring ports. Retention P. -/
  fwd : FwdSt
  /-- spec/14: channels 0 to 39. -/
  can : Sparse CanCh
  /-- spec/14: object controllers. -/
  ctls : Sparse CtlSt
  /-- spec/11: transmit sequence numbers of the output messages, part of the sealed state. -/
  txSeq : Sparse Nat
  /-- spec/15: sessions 1 to 63. -/
  sess : Sparse SessSt
  /-- spec/15: queues 0 to 63. -/
  queues : Sparse QueueSt
  /-- spec/15: remainders of the eight comms-plane check-value units. -/
  cv : Sparse CvSt
  /-- spec/16. -/
  io : IoSt
  /-- spec/20. -/
  att : AttSt
  /-- spec/21. -/
  upd : UpdSt
  /-- spec/21: the settings. -/
  settings : Settings
deriving DecidableEq, Repr

/-- Why a run stops with a fault. -/
inductive Fault where
  /-- A command carries a stress beyond the absolute maximum ratings of spec/22 R470, within which alone the
  module's behaviour is defined ("Stress beyond any value of the following table may damage the module"). Raised
  by the meanings that take a measured voltage. Safe: the model stops where the spec gives no effect. -/
  | beyondRatings (item : String)
deriving DecidableEq, Repr

/-- Why the model gives a command no meaning. -/
inductive Refusal where
  /-- No meaning has been written for the command; raised by `exec` only. Safe: the model stops. -/
  | notModelled (mnemonic : String)
deriving DecidableEq, Repr

/-- The module right after power-on, at delivery from Morurhal: every typed field at the value the spec states
for POR, non-volatile ones at their delivery value; supplies absent from the table at the values of log entry 5. -/
def State.reset : State where
  pending := []
  out := []
  free := 0
  regs := []
  time := ⟨0, 0, false, 0, none, 0, 0, 0, 0, 0, 0, none, 0, 0, false⟩
  wv := ⟨.free, 7, false, false, false, 0, [], 0, 0, false, none, 0, [], false, none, none, none⟩
  mode := ⟨.boot, 0, 0, 0, false, 0, false, 0, false⟩
  fc := ⟨[], none, []⟩
  rcd := ⟨[], [], [], 0, [0, 0, 0, 0], [0, 0, 0, 0], [0, 0, 0, 0], false, []⟩
  chg := []
  chgNext := 0
  svc := ⟨[], [], [], []⟩
  pwr := ⟨⟨24000, true⟩, ⟨24000, true⟩, 24000, 24000, false, 0, 0, false, true, Three.all none, []⟩
  sp := Three.all Spire.idle
  sched := SchedSt.idle
  kevents := []
  peers := []
  bf := BfSt.idle
  img := none
  fwVersion := (0, 0)
  pair := PairSt.idle
  ring := RingSt.idle
  ringB := RingSt.idle
  fwd := ⟨[false, false, false, false], [false, false, false, false]⟩
  can := []
  ctls := []
  txSeq := []
  sess := []
  queues := []
  cv := []
  io := IoSt.idle
  att := ⟨Three.all [], [], none, [], none, none⟩
  upd := UpdSt.delivery
  settings := Settings.delivery

end Sys2Proof.Machine
end

