-- ==== Sys2Proof/Machine/Ops.lean ====
section
/-! DEFINITION. The named operations that the meanings share: registers and their fields, free values, the
module's clock, records, the change log and the service protocol. -/

namespace Sys2Proof.Machine

/-! ### Registers -/

/-- FORCEk.VALUE (spec/04 R105). -/
def F.FORCE_VALUE : Field := ⟨R.FORCE, 24, 1⟩
/-- IO_PAIR.VALUE (spec/16 R374). -/
def F.IO_PAIR_VALUE : Field := ⟨R.IO_PAIR, 0, 16⟩
/-- IO_OVR.VALUE (spec/16 R374). -/
def F.IO_OVR_VALUE : Field := ⟨R.IO_OVR, 4, 1⟩

/-- The value of a field in a register word. -/
def Field.get (f : Field) (v : Word) : Nat := (v.toNat >>> f.lo) % 2 ^ f.w

/-- A register word with the field replaced by `x`, cut to the field's width. -/
def Field.put (f : Field) (v : Word) (x : Nat) : Word :=
  BitVec.ofNat 32 (v.toNat - f.get v * 2 ^ f.lo + (x % 2 ^ f.w) * 2 ^ f.lo)

/-- The greatest value of a field. -/
def Field.max (f : Field) : Nat := 2 ^ f.w - 1

/-- The word at a register key. -/
def State.word (s : State) (k : Nat) : Word := Sparse.get regReset s.regs k

/-- Write the word at a register key. -/
def State.setWord (s : State) (k : Nat) (v : Word) : State := { s with regs := Sparse.set regReset s.regs k v }

/-- Member (i, j) of a register family, as a number. -/
def State.rd (s : State) (r : Reg) (i j : Nat := 0) : Nat := (s.word (r.key i j)).toNat

/-- Write member (i, j) of a register family. -/
def State.wr (s : State) (r : Reg) (v : Nat) (i j : Nat := 0) : State := s.setWord (r.key i j) (BitVec.ofNat 32 v)

/-- A field of member (i, j) of its register. -/
def State.fld (s : State) (f : Field) (i j : Nat := 0) : Nat := f.get (s.word (f.reg.key i j))

/-- A field as a truth value. -/
def State.flag (s : State) (f : Field) (i j : Nat := 0) : Bool := s.fld f i j != 0

/-- Write a field of member (i, j) of its register. -/
def State.setFld (s : State) (f : Field) (v : Nat) (i j : Nat := 0) : State :=
  s.setWord (f.reg.key i j) (f.put (s.word (f.reg.key i j)) v)

/-- Write a one-bit field. -/
def State.setFlag (s : State) (f : Field) (b : Bool) (i j : Nat := 0) : State := s.setFld f (if b then 1 else 0) i j

/-- Count one more, stopping at the field's greatest value. -/
def State.bump (s : State) (f : Field) (i j : Nat := 0) : State :=
  s.setFld f (min (s.fld f i j + 1) f.max) i j

/-- Count `n` more, stopping at the field's greatest value. -/
def State.bumpBy (s : State) (f : Field) (n : Nat) (i j : Nat := 0) : State :=
  s.setFld f (min (s.fld f i j + n) f.max) i j

/-- Raise a field to `v` when it is lower: a greatest value seen. -/
def State.peak (s : State) (f : Field) (v : Nat) (i j : Nat := 0) : State :=
  s.setFld f (min (max (s.fld f i j) v) f.max) i j

/-- Count one more in a whole register, stopping at 0xFFFF_FFFF. -/
def State.bumpReg (s : State) (r : Reg) (i j : Nat := 0) (n : Nat := 1) : State :=
  s.wr r (min (s.rd r i j + n) 0xFFFFFFFF) i j

/-- A register that the spec says wraps: count `n` more modulo 2^32. -/
def State.wrapReg (s : State) (r : Reg) (i j : Nat := 0) (n : Nat := 1) : State :=
  s.wr r (s.rd r i j + n) i j

/-- Do `f` for every element of a list in order. -/
def State.each (s : State) (l : List α) (f : State → α → State) : State := l.foldl f s

/-- `f s` when `b` holds, else `s`. -/
def State.when (s : State) (b : Bool) (f : State → State) : State := if b then f s else s

/-- The module's serial number (spec/19). -/
def State.serial (s : State) : Nat := s.rd R.SERIAL_HI * 2 ^ 32 + s.rd R.SERIAL_LO

/-! ### The image in use -/

/-- An image that defines nothing. -/
def ImageContent.empty : ImageContent where
  id := ⟨0, 0⟩
  bench := false
  banks := []
  tokensDecl := 0
  transactions := 0
  timing := ⟨0, 0, 0, 0, 0, 0, 0, 0, 0, 0, 0⟩
  syms := []
  vital := []
  plain := []
  initF := []
  initV := []
  initG := []
  initH := []
  initQ := []
  domains := []
  sections := []
  ownG := []
  ownH := []
  etypes := []
  groups := []
  consts := []
  timers := 0
  tokens := []
  lockm := none
  routes := []
  peers := []
  sched := ⟨false, [], 0, 0, 0, 0, [], [], 0, 0, 0, 0, 0⟩
  io := none
  ring := ⟨0, 0, 0, 0, 0, 0, 0, 0, 0, Three.all 0, []⟩
  scheds := []
  pair := none
  can := []
  msgs := []
  sessions := []
  queues := []
  reacts := []
  recWin := 0
  actMax := 0
  stbyMax := 0

/-- The image in use, or one that defines nothing. -/
def State.content (s : State) : ImageContent := s.img.getD ImageContent.empty

/-- A safe session of the image uses a port (spec/15 R350). -/
def State.sessionPort (s : State) (p : Nat) : Bool := s.content.sessions.any (fun d => d.ports.contains p)

/-- A port carries PTP (spec/15 R350, spec/02 R48). -/
def State.ptpCarried (s : State) (p : Nat) : Bool := s.img.isSome && Nat.blt p 15 && s.content.timing.ptpPort == p

/-- Modes in which sessions run (spec/15 R338). -/
def Mode.sessions : Mode → Bool
  | .active | .active2oo2 | .safeHalt | .maintenance => true
  | _ => false

/-! ### The node of a ring (spec/12, spec/13) -/

/-- Ring β is an independent ring (spec/12 R260). -/
def State.betaIndep (s : State) : Bool := s.img.isSome && s.content.ring.beta == 1

/-- The node that acts for ring α (false) or β. -/
def State.node (s : State) (b : Bool) : RingSt := if b && s.betaIndep then s.ringB else s.ring

/-- This node's system address on a ring. -/
def State.own (s : State) (b : Bool) : Nat := if b && s.betaIndep then s.content.ring.addrB else s.content.ring.addrA

/-- A node's entry, made when new. -/
def NodeSt.fresh (a : Nat) : NodeSt := ⟨a, none, 0, 0, [], 0, 0, false, ⟨0, 0⟩⟩

/-- The entry of a node. -/
def RingSt.peer (r : RingSt) (a : Nat) : NodeSt := (r.nodes.find? (fun n => n.addr == a)).getD (NodeSt.fresh a)

/-- spec/13 R299: admitted, by an ADMIT accepted within 128 base cycles. -/
def State.isAdmitted (s : State) (b : Bool) (a : Nat) : Bool :=
  match ((s.node b).peer a).admitted with | some c => Nat.ble s.time.count (c + 128) | none => false

/-- The copy of a per-spire register by which the module acts: that of the first compared spire (spec/00 R12). -/
def State.lead (s : State) : Nat :=
  if s.bf.spst.a = .compared then 0 else if s.bf.spst.b = .compared then 1 else if s.bf.spst.c = .compared then 2 else 0

/-! ### Free values (log entry 4) -/

/-- Draw a free value. -/
def State.draw (s : State) : Nat × State := (Config.freeNat s.free, { s with free := s.free + 1 })

/-- Draw a free value that is at most `n`. -/
def State.drawUpTo (s : State) (n : Nat) : Nat × State := (Config.freeNat s.free % (n + 1), { s with free := s.free + 1 })

/-! ### What leaves the module -/

/-- Send one thing. -/
def State.emit (s : State) (o : Output) : State := { s with out := s.out ++ [o] }

/-! ### Modes (spec/19 R404) -/

/-- The code of a mode. -/
def Mode.code : Mode → Nat
  | .boot => 1 | .selftest => 2 | .load => 3 | .integrate => 4 | .shadow => 5 | .standby => 6
  | .active => 7 | .active2oo2 => 8 | .safeHalt => 9 | .isolated => 10 | .maintenance => 11 | .update => 12

/-- The module controls track (R404, MODE.TRACK). -/
def Mode.track : Mode → Bool
  | .active | .active2oo2 => true
  | _ => false

/-- The modes in which tasks run: those that control track, and MAINTENANCE (R404). -/
def Mode.runs : Mode → Bool
  | .active | .active2oo2 | .maintenance => true
  | _ => false

/-! ### What drives the outputs (spec/16 R362) -/

/-- Output n as IO_MAP maps it. -/
def State.outMap (s : State) (n : Nat) : Option OutDef :=
  match s.img with
  | none => none
  | some m => match m.io with | none => none | some i => i.outputs.find? (fun d => d.n == n)

/-- Output n carries a latch: its own, its group's or the field supply's (spec/16 R367). -/
def State.outLatched (s : State) (n : Nat) : Bool :=
  let l := s.word R.IO_OLAT.addr
  l.getLsbD n || l.getLsbD (16 + n / 4) || l.getLsbD 20

/-- R362: the command of output n under the voted word `w`: latches first, an output freed by the edge reset waits for
its checks (R372), then an override (R373), HOLD and logic silence (R369), then the word, held off on a bench module's
vital outputs (spec/00 R2). An output that no IO_MAP maps is off (spec/03 R58). -/
def State.outCommand (s : State) (w : BitVec 16) (n : Nat) : Bool :=
  match s.outMap n with
  | none => false
  | some d =>
    if s.outLatched n || (match s.io.outs[n]? with | some o => o.recheck != 0 | none => false) then false
    else if s.flag F.IO_OVR_OUT_EN && s.fld F.IO_OVR_OUT == n && !d.vital then s.flag F.IO_OVR_VALUE
    else if s.io.hold || s.io.silence || s.io.present.isNone then !d.vital && d.safeOn
    else w.getLsbD n && !(d.vital && s.flag F.HW_ID_BENCH)

/-- The outputs of which both switches are closed: commanded on and not opened by a test pulse. -/
def State.driven (s : State) (w : BitVec 16) : BitVec 16 :=
  BitVec.ofNat 16 ((List.range 16).foldl (fun m n => m + if s.outCommand w n
    && (match s.io.outs[n]? with | some o => o.pulse.isNone | none => true) then 2 ^ n else 0) 0)

/-- What every meaning ends with: the voted output word is all zeros in every mode that does not control track (spec/10
R231, spec/01 R24), and the switches follow (spec/16 R362). -/
def settle (s : State) : State :=
  let w := if s.mode.cur.track then s.io.word else 0
  { s with
    bf := { s.bf with vote := if s.mode.cur.track then s.bf.vote else 0 }
    io := { s.io with word := w, on := s.driven w } }

/-- A meaning: forget what the last command sent, act, settle. -/
def act (s : State) (f : State → State) : Host.Outcome State Fault Refusal := .next (settle (f { s with out := [] }))

/-- The code of a role (spec/18 R401). -/
def Role.code : Role → Nat
  | .engineer => 1 | .maintainer => 2 | .auditor => 3

/-! ### Time (spec/02) -/

/-- The absolute angle COUNT × 65,536 + ANGLE. -/
def State.absAngle (s : State) : Nat := s.time.count * 65536 + s.time.angle

/-- The AT that records carry (R32, R34): the present one, or while AT is invalid the stored mark and ANGLE 0. -/
def State.atNow (s : State) : Nat :=
  if s.time.atValid then s.time.count * 65536 + s.time.angle else s.time.mark * 65536

/-- R49: how far civil time may be slewed in `dt` ns: at most 500 ppm. -/
def slewLimit (dt : Nat) : Nat := dt * 500 / 1000000

/-- Let `dt` ns pass (R48, R49): the clock and, once a source has delivered it, civil time run on; an offset
still open is slewed by a free amount of at most 500 ppm. -/
def State.advanceNs (s : State) (dt : Nat) : State :=
  let t := s.time
  if s.fld F.CIVIL_STATUS_VALID = 0 then { s with time := { t with clockNs := t.clockNs + dt } }
  else if t.civilOff = 0 then { s with time := { t with clockNs := t.clockNs + dt, civil := t.civil + dt } }
  else
    let d := Config.freeNat s.free % (min t.civilOff.natAbs (slewLimit dt) + 1)
    let d' : Int := if t.civilOff < 0 then -(d : Int) else d
    { s with
      free := s.free + 1
      time := { t with clockNs := t.clockNs + dt, civil := ((t.civil : Int) + dt + d').toNat, civilOff := t.civilOff - d' } }

/-- Let time pass up to clock value `ns`, when it lies ahead. -/
def State.advanceClockTo (s : State) (ns : Nat) : State :=
  if s.time.clockNs < ns then s.advanceNs (ns - s.time.clockNs) else s

/-- Let the cycle angle run on to `angle` within the base cycle in progress (R30: it never goes back); the clock
follows by the length of the cycle in progress. -/
def State.advanceTo (s : State) (angle : Nat) : State :=
  let a := max s.time.angle (min angle 65535)
  let s := s.advanceClockTo (s.time.cycleNs + a * s.time.tbNs / 65536)
  { s with time := { s.time with angle := a } }

/-- Nominal T_B in ms (TB_CFG.TB_MS). -/
def State.tbMs (s : State) : Nat := s.fld F.TB_CFG_TB_MS

/-- The code of a lock state (R43). -/
def LockState.code : LockState → Nat
  | .free => 0 | .acquire => 1 | .locked => 2 | .holdover => 3 | .follow => 4

/-- One reference of the weathervane. -/
def State.wvRef (s : State) (k : Nat) : RefSt := Sparse.get (fun _ => RefSt.idle) s.wv.refs k

/-- R40: the mean period of a reference, ns. -/
def RefSt.mean (r : RefSt) : Nat := if r.periods.isEmpty then 0 else r.periods.foldl (· + ·) 0 / r.periods.length

/-- T_R in ms for a TR_SEL code (R50). -/
def trMs (sel : Nat) : Nat := if sel = 0 then 1 else if sel = 1 then 2 else if sel = 2 then 5 else 10

/-- T_R in ms (TB_CFG.TR_SEL). -/
def State.trMs (s : State) : Nat := Machine.trMs (s.fld F.TB_CFG_TR_SEL)

/-- Length of a round in ns (nominal T_R). -/
def State.roundNs (s : State) : Nat := s.trMs * 1000000

/-- R31: angle at which round j begins. -/
def State.roundAngle (s : State) (j : Nat) : Nat := if s.tbMs = 0 then 0 else j * 65536 * s.trMs / s.tbMs

/-- Rounds of a base cycle. -/
def State.rounds (s : State) : Nat := s.tbMs / s.trMs

/-- Angle of a time t after the start of a base cycle, in ns (R36), with cycle length `tb` ns. -/
def angleOf (t tb : Nat) : Nat := if tb = 0 then 0 else (2 * t * 65536 + tb) / (2 * tb)

/-- Let time pass up to `t` ns after the start of the base cycle in progress; the angle follows with the current CAU length
(R46). -/
def State.passTo (s : State) (t : Nat) : State :=
  let s := s.advanceClockTo (s.time.cycleNs + t)
  { s with time := { s.time with angle := max s.time.angle (min (angleOf t s.time.tbNs) 65535) } }

/-- Timer tick k of a base cycle of `ms` ticks falls at this angle (R37). -/
def tickAngle (ms k : Nat) : Nat := k * 65536 / ms

/-- Ticks of the cycle in progress that have fallen at `angle`, tick 0 included (R37). -/
def ticksAt (ms angle : Nat) : Nat :=
  if ms = 0 then 0 else min ms ((angle * ms + ms - 1) / 65536 + 1)

/-! ### Records (spec/18) -/

/-- The index of a named record. -/
def RecName.idx (n : RecName) : Nat := n.ctorIdx

/-- The number of a record code (R392). -/
def RecCode.number : RecCode → Nat
  | .raise k => 0x0100 + k
  | .num n => n
  | .named n => Config.recCode n.idx % 65536

/-- R394: the codes that are class 0 by the rule itself: mode changes, resets and clears. -/
def RecName.classZero : RecName → Bool
  | .modeChange | .reset | .blockReset | .fcRecClear => true
  | _ => false

/-- The class of a named record (R394). -/
def RecName.cls (n : RecName) : Nat := if n.classZero then 0 else Config.recClass (Config.recCode n.idx % 65536) % 4

/-- The class of a fault raise of a severity (R394). -/
def sevClass (sev : Nat) : Nat := if 3 ≤ sev then 0 else 2 - min sev 2 + 1

/-- R395: the entries of a queue that a class may use. -/
def classRoom (cls : Nat) : Nat := if cls = 0 then 1024 else 896

/-- The greatest class number in a list of records. -/
def maxClass (l : List Rec) : Nat := l.foldl (fun m r => max m r.cls) 0

/-- Remove the last (newest) record of class `c`. -/
def dropNewest (c : Nat) (l : List Rec) : List Rec :=
  let rec go : List Rec → List Rec
    | [] => []
    | r :: t => if r.cls = c then t else r :: go t
  (go l.reverse).reverse

/-- R395: put a record into a queue; answers the queue and the class of the record discarded, if any. -/
def enqueueRec (q : List Rec) (r : Rec) : List Rec × Option Nat :=
  if q.length < 896 then (q ++ [r], none)
  else if q.length < classRoom r.cls then (q ++ [r], none)
  else
    let m := max (maxClass q) r.cls
    if r.cls = m then (q, some m) else (dropNewest m q ++ [r], some m)

/-- Add `n` to entry `c` of a list of counts. -/
def addAt (l : List Nat) (c n : Nat) : List Nat := l.set c (l.getD c 0 + n)

/-- Record an event (R393 to R395): stamp it and queue it for MRAM and, when a subscription wants its class,
for the alarm connections. -/
def State.recordFull (s : State) (code : RecCode) (source cls : Nat) (simul forced latch : Bool) (p1 p2 : Nat) : State :=
  let civ := s.flag F.CIVIL_STATUS_VALID
  let r : Rec :=
    ⟨code, source, simul, forced, latch, !s.time.atValid, !civ, cls, 0, s.atNow, if civ then s.time.civil else 0, p1 % 2 ^ 32, p2 % 2 ^ 32⟩
  let q := s.rcd
  let a := enqueueRec q.intake r
  let wanted := q.subs.any (fun e => decide (cls ≤ e.2))
  let b := if wanted then enqueueRec q.alarm r else (q.alarm, none)
  let s := { s with rcd := { q with
    intake := a.1
    alarm := b.1
    sinceIntake := match a.2 with | some c => addAt q.sinceIntake c 1 | none => q.sinceIntake
    sinceAlarm := match b.2 with | some c => addAt q.sinceAlarm c 1 | none => q.sinceAlarm } }
  let s := match a.2 with | some c => s.bumpReg R.REC_DROP c | none => s
  match b.2 with | some c => s.bumpReg R.ALM_DROP c | none => s

/-- The sources of records that are no fault source (R391). -/
def srcSpire (x : Nat) : Nat := 0x80 + x
def srcBelfry : Nat := 0x83
def srcComms : Nat := 0x84
def srcIo : Nat := 0x85
def srcService : Nat := 0x86
def srcKeep : Nat := 0x87
def srcModule : Nat := 0xFF

/-- Record a named event whose parameters the spec gives. -/
def State.record (s : State) (n : RecName) (source p1 p2 : Nat) : State :=
  s.recordFull (.named n) source n.cls false false false p1 p2

/-- Record a named event whose parameters the firmware's code list defines (log entry 20). -/
def State.event (s : State) (n : RecName) (source : Nat) (unit kind : Nat := 0) : State :=
  s.record n source (Config.recParam 1 n.idx unit kind) (Config.recParam 2 n.idx unit kind)

/-! ### The change log (R401) -/

/-- Write one entry; none when it cannot be written: during a supply warning, or when its read-back fails
(`ok` false). -/
def State.chgWrite (s : State) (ok : Bool) (role port kind spires target old new opnd2 : Nat) : Option State :=
  if s.pwr.warn || !ok then none
  else some { s with
    chg := ⟨s.chgNext, role, port, kind, spires, s.atNow, s.time.civil, target, old, new, opnd2⟩
      :: (s.chg.filter (fun e => decide (s.chgNext < e.seq + 65536)))
    chgNext := s.chgNext + 1 }

/-- The lift of a force or an override writes an entry of KIND 3 by the module itself (R401). -/
def State.chgLift (s : State) (spires target old : Nat) : State :=
  (s.chgWrite true 0 0xFF 3 spires target old 0 0).getD s

/-! ### Service protocol (spec/21 R454) -/

/-- The session that a request belongs to, when its TAG verifies and its SEQ is one above the last. -/
def State.svcFind (s : State) (c : Svc) : Option SvcSess :=
  s.svc.sessions.find? (fun x => x.sid == c.sid && c.tagOk && c.seq == x.lastSeq + 1)

/-- Note a request in its session. -/
def State.svcTouch (s : State) (c : Svc) : State :=
  { s with svc := { s.svc with
      sessions := s.svc.sessions.map (fun x => if x.sid == c.sid then { x with lastSeq := c.seq, lastNs := s.time.clockNs } else x) } }

/-- R10: refuse; a refusal status and an event record that names the offset and the role. -/
def State.refuse (s : State) (x : SvcSess) (target : Nat) (p2 : Nat := 0) : State :=
  (s.emit (.refusal x.sid target)).record .serviceRefused srcService target (x.role.code + p2)

/-- R442: the status BUSY, with the record of a refused use (R10). -/
def State.refuseBusy (s : State) (x : SvcSess) (target : Nat) : State :=
  (s.emit (.busy x.sid)).record .serviceRefused srcService target x.role.code

/-- R401: the refusal of a transaction some of whose change-log entries stand: P2 is the SEQ of the first of them, and the
role stands in P1 above the register's address. -/
def State.refuseLogged (s : State) (x : SvcSess) (target seq : Nat) : State :=
  (s.emit (.refusal x.sid target)).record .serviceRefused srcService (target + x.role.code * 2 ^ 24) seq

/-- A service request: discarded without an answer when its session, TAG or SEQ fails (R454), else `f`. -/
def State.service (s : State) (c : Svc) (f : SvcSess → State → State) : State :=
  match s.svcFind c with
  | none => s
  | some x => f x (s.svcTouch c)

/-- Answer a request. -/
def State.answer (s : State) (x : SvcSess) (data : List Nat := []) : State := s.emit (.answer x.sid data)

/-- The code of a command for the change log: the spec's own, or for the commands that the spec names without one
(numbered from 0x1_0000 in the model) the firmware's (log entry 20). -/
def svcCode (code : Nat) : Nat := if code < 65536 then code else Config.cmdCode code % 2 ^ 32

/-- The model's numbers of the commands without a stated code. -/
def cmdFcRecClear : Nat := 0x10001
def cmdRecClear : Nat := 0x10002
def cmdTimeSet : Nat := 0x10003
def cmdPairSwitch : Nat := 0x10004
def cmdRingSwitch : Nat := 0x10005
def cmdSettle : Nat := 0x10006
def cmdFence : Nat := 0x10007
def cmdIoRestart : Nat := 0x10008
def cmdKpUnblock : Nat := 0x10009
def cmdKpBlock : Nat := 0x1000A

/-- An authorised command (R401, R407, R440): refused under R10 unless the role and the mode allow it and its
change-log entry can be written; then `f`. -/
def State.authorised (s : State) (c : Svc) (code : Nat) (o1 o2 : Nat) (roles : List Role) (allowed : State → Bool)
    (f : SvcSess → State → State) : State :=
  s.service c fun x s =>
    if roles.contains x.role && allowed s then
      match s.chgWrite true x.role.code x.port 2 0 (svcCode code) 0 o1 o2 with
      | some s => f x (s.answer x)
      | none => s.refuse x (svcCode code)
    else s.refuse x (svcCode code)

/-- A command that a session of role `confirmer` must repeat with the same operands within 60 s (spec/18 R399,
spec/19 R408, spec/21 R440): the first use waits, the second has the effect `f`. -/
def State.confirmed (s : State) (c : Svc) (code : Nat) (opnds : List Nat) (roles : List Role) (confirmer : Role)
    (allowed : State → Bool) (f : SvcSess → State → State) : State :=
  s.service c fun x s =>
    let waits := s.svc.confirms.any (fun p => p.code == code && p.opnds == opnds && decide (s.time.clockNs ≤ p.untilNs))
    if waits && (x.role == confirmer) && allowed s then
      match s.chgWrite true x.role.code x.port 2 0 (svcCode code) 0 (opnds.getD 0 0) (opnds.getD 1 0) with
      | some s => f x ({ s with svc := { s.svc with confirms := s.svc.confirms.filter (fun p => p.code != code) } }.answer x)
      | none => s.refuse x (svcCode code)
    else if roles.contains x.role && allowed s then
      match s.chgWrite true x.role.code x.port 2 0 (svcCode code) 0 (opnds.getD 0 0) (opnds.getD 1 0) with
      | some s =>
        { s with svc := { s.svc with
            confirms := ⟨code, opnds, s.time.clockNs + 60000000000⟩ :: s.svc.confirms.filter (fun p => p.code != code) } }.answer x
      | none => s.refuse x (svcCode code)
    else s.refuse x (svcCode code)

/-! ### Bytes -/

/-- `n` bytes of `v`, big-endian (spec/00 R7). -/
def beBytes (n v : Nat) : List Byte :=
  match n with
  | 0 => []
  | n + 1 => BitVec.ofNat 8 (v / 2 ^ (8 * n)) :: beBytes n v

/-- The number that bytes spell, big-endian. -/
def beNat (l : List Byte) : Nat := l.foldl (fun a b => a * 256 + b.toNat) 0

end Sys2Proof.Machine
end

