-- ==== Sys2Proof/Machine/Reset.lean ====
section
/-! DEFINITION. What resets and mode changes do (spec/19): the lifts of forces, overrides and injections, MRST,
POR, CRST and BRST by retention code, the entry to SAFE-HALT and ISOLATED, and the reversion of a trial. -/

namespace Sys2Proof.Machine

/-! ### Vital declarations -/

/-- Is a location declared vital (SYMBOL_TABLE; space codes of `ImageContent.vital`)? -/
def ImageContent.vitalBit (m : ImageContent) (space i : Nat) : Bool :=
  m.vital.any (fun v => v.1 == space && Nat.ble v.2.1 i && Nat.blt i (v.2.1 + v.2.2))

/-- The same for the image in use; with no image every bit counts as vital. -/
def State.vitalBit (s : State) (space i : Nat) : Bool :=
  match s.img with | some m => m.vitalBit space i | none => true

/-! ### Forces, overrides, force bits (spec/04 R100, R101; spec/16 R373; spec/17 R387) -/

/-- Recount FORCE_COUNT, each copy by its own spire's forces. -/
def State.countForces (s : State) : State :=
  s.each [0, 1, 2] fun s c =>
    let stand := (List.range 32).filter (fun k => s.flag F.FORCE_ENABLE k c)
    let vit := stand.filter (fun k => s.vitalBit (s.fld F.FORCE_SPACE k c) (s.fld F.FORCE_INDEX k c))
    (s.setFld F.FORCE_COUNT_COUNT stand.length c).setFld F.FORCE_COUNT_VITAL vit.length c

/-- Lift force k: cleared in all three spires, recorded, and written to the change log as a lift (R101). -/
def State.liftForce (s : State) (k : Nat) : State :=
  let old := s.rd R.FORCE k s.lead
  let s := s.each [0, 1, 2] fun s c => s.wr R.FORCE 0 k c
  (s.chgLift 7 (R.FORCE.key k 0) old).event .forceLift srcModule k

/-- Lift every force that stands and, when `vitalOnly`, names a vital bit. -/
def State.liftForces (s : State) (vitalOnly : Bool) : State :=
  (s.each (List.range 32) fun s k =>
    if s.flag F.FORCE_ENABLE k s.lead && (!vitalOnly || s.vitalBit (s.fld F.FORCE_SPACE k s.lead) (s.fld F.FORCE_INDEX k s.lead))
    then s.liftForce k else s).countForces

/-- Lift the output override and the wire-break suppression of IO_OVR, each lift recorded (R373). -/
def State.liftOverrides (s : State) : State :=
  let old := s.rd R.IO_OVR
  let s1 := if s.flag F.IO_OVR_OUT_EN then (s.chgLift 0 R.IO_OVR.addr old).event .overrideLift srcIo (s.fld F.IO_OVR_OUT) 5 else s
  let s2 := if s.flag F.IO_OVR_IN_EN then (s1.chgLift 0 R.IO_OVR.addr old).event .overrideLift srcIo (s.fld F.IO_OVR_IN) 6 else s1
  s2.wr R.IO_OVR 0

/-- Source `k` of the collector. -/
def State.src (s : State) (k : Nat) : SrcSt := Sparse.get (fun _ => SrcSt.idle) s.fc.src k

/-- Change source `k`. -/
def State.updSrc (s : State) (k : Nat) (f : SrcSt → SrcSt) : State :=
  { s with fc := { s.fc with src := Sparse.upd (fun _ => SrcSt.idle) s.fc.src k f } }

/-- Return every force bit of the collector to 0, each lift recorded (R387): what held a source up by force
ends. -/
def State.liftForceBits (s : State) : State :=
  s.each (List.range 128) fun s k =>
    if (s.src k).force then
      (s.updSrc k (fun x => { x with force := false })).event .fcForceLift srcModule k
    else s

/-! ### Registers by retention (spec/00 R13) -/

/-- Keep the registers whose retention code satisfies `keep`; the others return to reset value. -/
def State.keepRegs (s : State) (keep : Nat → Retention → Bool) : State :=
  { s with regs := s.regs.filter (fun e => match regAt e.1 with | some r => keep e.1 r.ret | none => false) }

/-- Which copy of a per-spire register a key names: copies by selector stand 2^24 apart, those of the logic-engine
block 0x4000 apart. -/
def copyOf (k : Nat) : Nat :=
  if k < 16777216 then (if 0x30000 ≤ k ∧ k < 0x3C000 then (k - 0x30000) / 0x4000 else 0) else k / 16777216

/-- Is a register one of a block that exists per spire (spec/00 R12)? -/
def perSpire (k : Nat) : Bool :=
  let a := k % 16777216
  (Nat.ble 0x30000 a && Nat.blt a 0x60000) || (Nat.ble 0x100000 a && Nat.blt a 0x110000)
    || (Nat.ble 0xB0000 a && Nat.blt a 0xB0010)

/-! ### What survives MRST and POR outside the registers -/

/-- spec/13 R290: forwarding, with its loops and healing, runs on through MRST. -/
def RingSt.kept (r : RingSt) : RingSt :=
  { RingSt.idle with
    lost := r.lost, portUp := r.portUp, portSilent := r.portSilent, healed := r.healed, healSeen := r.healSeen, healNodes := r.healNodes }

/-- R413: the collector's state over MRST or POR: LATCHED sources and recovery counts stay (N), all else resets;
FC_FIRST is lost only at POR (P). -/
def FcSt.reset (f : FcSt) (por : Bool) : FcSt where
  src := (f.src.map (fun e => (e.1, { SrcSt.idle with
      st := if e.2.st = .latched then .latched else .clear
      cond := e.2.st = .latched && e.2.cond
      recCnt := e.2.recCnt, winCnt := e.2.winCnt, winOpen := e.2.winOpen, winEnd := e.2.winEnd }))).filter
        (fun e => e.2 ≠ SrcSt.idle)
  first := if por then none else f.first
  inject := []

/-- R410, R413: MRST. `State.reset` with the non-volatile and POR-only parts kept, and what MRST does not reach:
the ring forwarding path (R290, its port state), the recorder and its queues (R397), supplies, the module's
running clock, and the model's own fields. -/
def State.mrstBody (s : State) : State :=
  let k := s.keepRegs (fun _ r => match r with | .n | .p => true | _ => false)
  { State.reset with
    pending := s.pending
    out := s.out
    free := s.free
    regs := k.regs
    time := { State.reset.time with
      mark := s.time.mark, markDeferred := s.time.markDeferred, clockNs := s.time.clockNs, cycleNs := s.time.clockNs
      resetNs := s.time.clockNs + 1000000 }
    mode := { State.reset.mode with
      restartPending := s.mode.restartPending, restartUntil := s.mode.restartUntil, benchBlock := s.mode.benchBlock
      benchAddr := s.mode.benchAddr, benchWait := s.mode.benchWait }
    fc := s.fc.reset false
    rcd := { s.rcd with subs := [] }
    chg := s.chg
    chgNext := s.chgNext
    pwr := { s.pwr with lampTest := true, porHeld := false, wakeAt := Three.all none }
    ring := s.ring.kept
    ringB := s.ringB.kept
    fwd := s.fwd
    sp := (s.sp.mapI (fun _ x => { Spire.idle with pg := { PagerSt.empty with repair := x.pg.repair } }))
    bf := { BfSt.idle with spst := (s.bf.spst.mapI (fun _ x => if x = .latched then .latched else .compared)) }
    att := { s.att with queue := [], latch := none, ringOut := [], comms := none, ioPlane := none }
    upd := { s.upd with olNext := Three.all 0, olFlash := Three.all [], olHeader := none, staged := none, target := none }
    settings := s.settings
    fwVersion := s.fwVersion }

/-- spec/06 R153: at MRST and POR every block that KP_CMD set is lifted and recorded: the blocked tokens that TOKEN_DEF does not
block. -/
def State.liftBlocks (s : State) : State :=
  s.each s.content.tokens.zipIdx fun s e =>
    if ((s.sp.get s.lead).keep.tokens[e.2]?).any (fun t => t.st == 3) && !e.1.blocked then s.record .keepUnblock srcKeep e.2 0 else s

/-- The cause bits of RST_CAUSE that a reset sets (spec/19 R423). -/
inductive ResetCause where
  | command | fault (source : Nat) | pin | update | restart
deriving DecidableEq, Repr

/-- The bit of a cause. -/
def ResetCause.bits : ResetCause → Nat
  | .command => 16 | .fault k => 32 + (k % 128) * 65536 | .pin => 64 | .update => 128 | .restart => 256

/-- R437: the boot ROMs exchange their pointer records; the one with the lowest SEQ among the spires that send one
governs, and each of those spires takes it. -/
def State.governBoot (s : State) (silent : List Nat) : State :=
  let heard := threeIdx (fun x => !silent.contains x)
  let low := (heard.map (fun x => s.upd.boot.get x)).foldl
    (fun (m : Option BootRec) b => match m with | none => some b | some a => some (if b.seq < a.seq then b else a)) none
  match low with
  | none => s
  | some g => { s with upd := { s.upd with boot := s.upd.boot.mapI (fun x b => if heard.contains x then g else b) } }

/-- R461: the strap is read once in BOOT. -/
def State.readStrap (s : State) : State :=
  let n := s.pwr.strap % 512
  let ones := (List.range 9).foldl (fun c i => c + n / 2 ^ i % 2) 0
  s.wr R.STRAP (n + ones % 2 * 512)

/-- MRST without what the loader then does (R410, R411): every lift is recorded, the registers and the state return to reset value, RST_CAUSE shows
the cause, the reset is counted and recorded, and BOOT begins. -/
def State.mrstCore (s : State) (c : ResetCause) : State :=
  let s := (((s.liftForces false).liftOverrides).liftForceBits).liftBlocks
  let s := s.mrstBody
  let s := ((s.wr R.RST_CAUSE c.bits).bump F.RST_CNT_MRST).readStrap
  s.record .reset srcModule (c.bits) (s.time.count % 2 ^ 32)

/-- The governing boot record is a trial (spec/21 R444). -/
def State.trial (s : State) : Bool := s.upd.boot.a.trial

/-- Write a pointer record in spires A, B and C in that order (R437); here one step (log entry 8). Each goes into the copy that
does not hold the current record (R436). -/
def State.writeBoot (s : State) (f : BootRec → BootRec) : State :=
  { s with upd := { s.upd with
      boot := s.upd.boot.mapI (fun _ b => { f b with seq := b.seq + 1 })
      bootAlt := s.upd.boot.mapI (fun _ b => some b) } }

/-- R445: revert a trial: a confirmed record that names the old set, UPD_REVERTED with the cause, and MRST. -/
def State.revert (s : State) (cause : Nat) : State :=
  let s := s.writeBoot (fun b => { b with set := s.upd.oldSet, img := s.upd.oldImg, trial := false, left := 0, deadline := 0 })
  let s := { s with upd := { s.upd with stage := .complete } }
  let s := match s.upd.oldSettings with
    | none => s
    | some o => ({ s with settings := o.1, upd := { s.upd with oldSettings := none } }).wr R.IMGKEY_STATE o.2
  let s := (s.setFld F.UPD_LAST_CAUSE cause).setFld F.UPD_LAST_COUNT_L (s.time.count % 65536)
  let s := (s.wr R.UPD_DL_LO 0).wr R.UPD_DL_HI 0
  (s.record .updReverted srcModule cause (s.time.count % 2 ^ 32)).mrstCore .update

/-- R443, R444: at a boot whose governing record is a trial the loader reverts when TRIAL_LEFT is 0, else counts it
down; when the record that UPD_ACTIVATE wrote does not govern, UPD_ACTIVATE_LOST. -/
def State.bootTrial (s : State) : State :=
  let s := match s.upd.activating with
    | none => s
    | some q =>
      let s' := { s with upd := { s.upd with activating := none } }
      if s.upd.boot.a.seq = q then s'
      else ({ s' with upd := { s'.upd with stage := .verified } }).event .updActivateLost srcModule
  if s.trial then
    if s.upd.boot.a.left = 0 then s.revert 1
    else { s.writeBoot (fun b => { b with left := b.left - 1 }) with upd := { (s.writeBoot (fun b => { b with left := b.left - 1 })).upd with stage := .trial } }
  else s

/-- R411: a reset that is requested while MRST runs is absorbed: its cause bit is added. -/
def State.absorb (s : State) (c : ResetCause) : State :=
  let old := s.rd R.RST_CAUSE
  let bits := match c with | .fault _ => if old / 32 % 2 = 1 then 32 else c.bits | _ => c.bits
  s.wr R.RST_CAUSE (old ||| bits)

/-- MRST (R410, R411): it holds the module in reset for 1 ms, in which another is absorbed; then BOOT begins. -/
def State.mrst (s : State) (c : ResetCause) : State :=
  if s.time.clockNs < s.time.resetNs then s.absorb c else ((s.mrstCore c).governBoot []).bootTrial

/-- BRST of a block (R410): the registers of retention B of that block return to reset value and its queue is
emptied; BLOCK_RESET records the block code. -/
def State.brst (s : State) (block : Nat) : State :=
  let within (lo hi : Nat) (s : State) : State :=
    s.keepRegs (fun k r => !(r == .b && Nat.ble lo k && Nat.blt k hi))
  let s :=
    if block ≤ 0x27 then
      let lo := 0x90000 + block * 0x400
      let failed := s.flag F.CAN_STATUS_GROUP_FAIL block
      let s := { within lo (lo + 0x400) s with
        can := Sparse.set (fun _ => CanCh.idle) s.can block { CanCh.idle with ts0 := s.time.clockNs }
        ctls := s.ctls.map (fun (e : Nat × CtlSt) => if e.1 / 32 = block then (e.1, { e.2 with absent := true }) else e) }
      (s.setFld F.CAN_STATUS_BUS 3 block).setFlag F.CAN_STATUS_GROUP_FAIL failed block
    else if 0x40 ≤ block ∧ block ≤ 0x43 then
      s.wr R.RG_GFWD 0 (block - 0x40)
    else if 0x50 ≤ block ∧ block ≤ 0x5F then
      let lo := 0xA2000 + (block - 0x50) * 0x20
      let up := s.flag F.ETH_STATUS_LINK (block - 0x50)
      (within lo (lo + 0x20) s).setFlag F.ETH_STATUS_LINK up (block - 0x50)
    else if block = 0x60 then s.liftForces false
    else if block = 0x70 then { within 0xB1000 0xB1200 s with cv := [] }
    else s
  s.record .blockReset srcModule block 0

/-- Does a block code name a block that R410 can reset? -/
def brstBlock (b : Nat) : Bool :=
  Nat.ble b 0x27 || (Nat.ble 0x40 b && Nat.ble b 0x43) || (Nat.ble 0x50 b && Nat.ble b 0x5F) || b == 0x60 || b == 0x70

/-- spec/04 R101, R413: the forces of spire x are lifted and recorded, each with an entry in the change log (spec/18 R401). -/
def State.liftSpireForces (s : State) (x : Nat) : State :=
  s.each (List.range 32) fun s k =>
    if s.flag F.FORCE_ENABLE k x then (s.chgLift (2 ^ x) (R.FORCE.key k 0) (s.rd R.FORCE k x)).event .forceLift (srcSpire x) k else s

/-- CRST of a spire (R410): its registers of retention C and B (spec/00 R13), its forces among them (spec/04 R101), its
engine, memories, keep copy and pager return to reset value; the repair map and its slice stay. The spire starts in L0. -/
def State.crst (s : State) (x : Nat) : State :=
  let s := ((s.liftSpireForces x).setFld ⟨R.PWR_STATE, 3 * (x % 3), 3⟩ 0).keepRegs (fun k r => !((r == .c || r == .b) && perSpire k && copyOf k == x))
  { s with sp := s.sp.upd x (fun p => { Spire.idle with pg := { PagerSt.empty with repair := p.pg.repair } }) }

/-! ### Power states of the spires (R414, R418) -/

/-- The spires that are compared, in order. -/
def State.compared (s : State) : List Nat := threeIdx (fun x => s.bf.spst.get x == .compared)

/-- Is a spire compared? -/
def State.isCompared (s : State) (x : Nat) : Bool := s.bf.spst.get x == .compared

/-- Wake latencies of R414 in ns. -/
def wakeNs (l : Nat) : Nat := if l = 0 then 0 else if l = 1 then 40 else if l = 2 then 15000 else if l = 3 then 180000 else 2500000

/-- The field of PWR_STATE of a spire. -/
def pwrField (x : Nat) : Field := ⟨R.PWR_STATE, 3 * (x % 3), 3⟩

/-- A spire is in L0 (R414) and waits for no wake angle. -/
def State.setAwake (s : State) (x : Nat) : State :=
  { s with pwr := { s.pwr with wakeAt := s.pwr.wakeAt.set x none } }.setFld (pwrField x) 0

/-- An unscheduled event wakes a spire (R417). -/
def State.wakeSpire (s : State) (x : Nat) : State :=
  if s.fld (pwrField x) = 0 then s else (s.setAwake x).bump F.PWR_WAKES_UNSCHED

/-- An unscheduled event wakes the compared spires (R417). -/
def State.wakeSpires (s : State) : State := s.each s.compared fun s x => s.wakeSpire x

/-- The deepest power state of a compared spire. -/
def State.depth (s : State) : Nat := s.compared.foldl (fun m x => max m (s.fld (pwrField x))) 0

/-- R417: ceil(1.1 × latency(l) / CAU length). -/
def State.wakeCau (s : State) (l : Nat) : Nat :=
  if s.time.tbNs = 0 then 0 else (wakeNs l * 11 * 65536 + 10 * s.time.tbNs - 1) / (10 * s.time.tbNs)

/-- R418: NAK, TAKEOVER or the mode changes: the spires wake, and where vital parts stand computed ahead frames carry the
change from 1.1 × latency + 100 µs after the wake. -/
def State.vitalChange (s : State) : State :=
  let l := s.depth
  let s := s.wakeSpires
  match s.pair.pre with
  | none => s
  | some p =>
    { s with pair := { s.pair with pre := some { p with since := p.since <|> some (s.time.clockNs + wakeNs l * 11 / 10 + 100000) } } }

/-! ### Mode changes (R405, R422) -/

/-- Sessions leave OPEN because of the mode (R338, cause 4). -/
def State.sessionsIdle (s : State) : State :=
  { s with sess := s.sess.map (fun e => (e.1,
      if e.2.st = .opened then { e.2 with st := .idle, held := [], cause := 4 }
      else if e.2.st = .disabled then e.2 else { e.2 with st := .idle, held := [] })) }

/-- Change the mode, with the cause code of MODE.CAUSE; the change is recorded with class 0. In a mode in which no session runs,
and that is not STANDBY, every session is IDLE (spec/15 R338). -/
def State.setMode (s : State) (m : Mode) (cause : Nat) : State :=
  if s.mode.cur = m then s
  else
    let old := s.mode.cur
    let s := s.vitalChange
    let s := if m.sessions || m == .standby then s else s.sessionsIdle
    let s := { s with mode := { s.mode with cur := m, prev := old.code, cause := cause, stamp := s.atNow } }
    s.record .modeChange srcModule (cause * 65536 + old.code * 256 + m.code) (s.time.count % 2 ^ 32)

/-- Tasks, pending emissions and engine work stop. -/
def State.stopTasks (s : State) : State :=
  { s with
    sched := { SchedSt.idle with noDelta := true }
    bf := { s.bf with streams := Three.all [], vote := 0, barrierReady := false, pos := 0, joinHold := false }
    sp := s.sp.mapI (fun _ p => { p with eng := { p.eng with run := false, barrier := false, skip := 0 } }) }

/-- R251: the operational state is discarded: keeps, memories, boundary records. Sessions run on in SAFE-HALT (R338), with
their context and sequence numbers (log entry 29). -/
def State.discard (s : State) : State :=
  { s with
    sp := s.sp.mapI (fun _ p => { p with mem := SMem.empty, keep := KeepSt.empty, pg := { p.pg with snaps := [], copying := false } })
    kevents := []
    pair := { s.pair with
      chunks := [], buffered := [], copy := [], snapSeq := 0, outq := [], copyq := [], sent := [], copySeq := none
      copyEnd := none, switching := none, switchReady := false, takeover := false, decided := none, pre := none } }

/-- R405: has a mode a row that leads to SAFE-HALT for this cause? BOOT, SELFTEST, LOAD and ISOLATED have one each. -/
def Mode.haltsFor (m : Mode) (cause : Nat) : Bool :=
  match m with
  | .boot => cause == 0 | .selftest => cause == 12 | .load => cause == 11 | .isolated => cause == 13
  | .safeHalt => false
  | _ => true

/-- Enter SAFE-HALT (R376, R405): the voted word is zero, tasks stop, a module that controlled track sets HANDOVER
and discards its state (R249, R251); during a trial the module reverts (R445). A mode without a row for the cause
stays, with the voted word zero. -/
def State.safeHalt (s : State) (cause : Nat) : State :=
  if !s.mode.cur.haltsFor cause then { s with bf := { s.bf with vote := 0 } }
  else
    let was := s.mode.cur.track
    let s := s.stopTasks
    let s := if was then { s.discard with pair := { s.discard.pair with handover := true } } else s
    let s := if s.mode.cur = .maintenance then ((s.liftForces true).liftOverrides).liftForceBits else s
    let s := s.setMode .safeHalt cause
    if s.trial then s.revert 6 else s

/-- Enter ISOLATED (R383, R405). -/
def State.isolated (s : State) (cause : Nat) : State :=
  if s.mode.cur = .isolated || s.mode.cur = .boot then s
  else
    let was := s.mode.cur.track
    let s := s.stopTasks
    let s := if was then { s.discard with pair := { s.discard.pair with handover := true } } else s
    let s := if s.mode.cur = .maintenance then ((s.liftForces true).liftOverrides).liftForceBits else s
    let s := s.setMode .isolated cause
    if s.trial then s.revert 6 else s

end Sys2Proof.Machine
end

