-- ==== Sys2Proof/Machine/Collect.lean ====
section
/-! DEFINITION. The fault collector (spec/17): the source table, a raise and its reactions, the end of a condition;
and what the block that detects a fault of severity 3 or 4 does (R376, spec/10 R222). -/

namespace Sys2Proof.Machine

/-- What R380 gives a source: severity ("1 or 3" as 1), default mask, minimum mask, default quiet code. -/
structure SrcDef where
  sev : Nat
  mask : Nat
  min : Nat
  quiet : Nat
deriving DecidableEq, Repr

/-- R380: the sources of a spire by index; none where reserved. -/
def spireSource (i : Nat) : Option SrcDef :=
  match i with
  | 0 => some ⟨3, 17, 1, 3⟩  -- SP_SUPPLY
  | 1 => some ⟨3, 17, 1, 3⟩  -- SP_CLOCK
  | 2 => some ⟨3, 17, 1, 4⟩  -- SP_LOGIC
  | 3 => some ⟨3, 17, 1, 4⟩  -- SP_KEEP
  | 4 => some ⟨3, 17, 1, 4⟩  -- SP_KEEP_AUDIT
  | 5 => some ⟨1, 1, 1, 4⟩  -- SP_SRAM
  | 6 => some ⟨3, 17, 1, 4⟩  -- SP_DRAM
  | 7 => some ⟨2, 1, 1, 3⟩  -- SP_FLASH
  | 8 => some ⟨3, 17, 1, 4⟩  -- SP_SECURE
  | 9 => some ⟨3, 17, 1, 4⟩  -- SP_MGMT
  | 10 => some ⟨3, 17, 1, 4⟩  -- SP_MINORITY
  | 11 => some ⟨3, 17, 1, 0⟩  -- SP_SELFTEST
  | 12 => some ⟨3, 17, 1, 0⟩  -- SP_IMAGE
  | 13 => some ⟨3, 17, 1, 0⟩  -- SP_TALLY
  | 14 => some ⟨1, 1, 1, 4⟩  -- SP_FILL
  | 15 => some ⟨1, 1, 0, 5⟩  -- SP_ECC_RATE
  | 16 => some ⟨1, 1, 0, 4⟩  -- SP_TEMP
  | 17 => some ⟨0, 0, 0, 3⟩  -- SP_PRESET
  | 18 => some ⟨0, 0, 0, 3⟩  -- SP_SAT
  | 19 => some ⟨0, 0, 0, 3⟩  -- SP_FORCE
  | _ => none

/-- R380: the module sources; none where reserved. -/
def moduleSource (k : Nat) : Option SrcDef :=
  match k with
  | 72 => some ⟨2, 17, 1, 0⟩  -- BF_SLICE_A, _B, _C
  | 73 => some ⟨2, 17, 1, 0⟩  -- BF_SLICE_A, _B, _C
  | 74 => some ⟨2, 17, 1, 0⟩  -- BF_SLICE_A, _B, _C
  | 75 => some ⟨4, 19, 17, 0⟩  -- BF_NO_MAJORITY
  | 76 => some ⟨4, 19, 17, 0⟩  -- BF_VOTE_DIVERGE
  | 77 => some ⟨4, 17, 17, 0⟩  -- BF_INJECT
  | 78 => some ⟨0, 0, 0, 3⟩  -- BF_ECC_CORR
  | 79 => some ⟨1, 1, 0, 3⟩  -- BF_ECC_UNCORR
  | 80 => some ⟨1, 1, 0, 4⟩  -- BF_REINT_DONOR
  | 81 => some ⟨1, 1, 0, 4⟩  -- BF_REINT_JOIN
  | 82 => some ⟨2, 17, 1, 3⟩  -- BF_SLICE_WORDS
  | 88 => some ⟨1, 1, 1, 3⟩  -- CP_RING_PORT
  | 89 => some ⟨2, 17, 1, 4⟩  -- CP_RING_SYNC
  | 90 => some ⟨2, 17, 1, 5⟩  -- CP_RING_ADMIT
  | 91 => some ⟨1, 1, 1, 5⟩  -- CP_WEATHERVANE
  | 92 => some ⟨1, 1, 1, 3⟩  -- CP_CAN_BUSOFF_G0 to _G4
  | 93 => some ⟨1, 1, 1, 3⟩  -- CP_CAN_BUSOFF_G0 to _G4
  | 94 => some ⟨1, 1, 1, 3⟩  -- CP_CAN_BUSOFF_G0 to _G4
  | 95 => some ⟨1, 1, 1, 3⟩  -- CP_CAN_BUSOFF_G0 to _G4
  | 96 => some ⟨1, 1, 1, 3⟩  -- CP_CAN_BUSOFF_G0 to _G4
  | 97 => some ⟨2, 1, 1, 5⟩  -- CP_CAN_ID_CLASH
  | 98 => some ⟨2, 17, 1, 3⟩  -- CP_CAN_GROUP
  | 99 => some ⟨1, 1, 0, 3⟩  -- CP_ETH_LINK
  | 100 => some ⟨2, 1, 1, 4⟩  -- CP_QUEUE_CREDIT
  | 101 => some ⟨1, 1, 0, 3⟩  -- CP_SESSION
  | 102 => some ⟨4, 25, 24, 4⟩  -- CP_PROCESSOR
  | 103 => some ⟨2, 17, 1, 5⟩  -- CP_RECORDER
  | 104 => some ⟨1, 1, 1, 3⟩  -- PW_FEED_A, _B
  | 105 => some ⟨1, 1, 1, 3⟩  -- PW_FEED_A, _B
  | 106 => some ⟨2, 1, 1, 3⟩  -- PW_WARN
  | 107 => some ⟨1, 1, 1, 3⟩  -- PW_DIP
  | 108 => some ⟨2, 17, 1, 5⟩  -- PW_HOLDUP
  | 109 => some ⟨1, 1, 1, 5⟩  -- PW_TEMP_HIGH
  | 110 => some ⟨4, 17, 17, 0⟩  -- PW_TEMP_LIMIT
  | 111 => some ⟨4, 17, 17, 4⟩  -- PW_IO_SUPPLY
  | 112 => some ⟨1, 1, 1, 3⟩  -- IO_WIRE_BREAK
  | 113 => some ⟨1, 1, 1, 3⟩  -- IO_DISCREPANCY
  | 114 => some ⟨1, 1, 1, 5⟩  -- IO_TEST
  | 115 => some ⟨2, 17, 17, 0⟩  -- IO_BYPASS
  | 116 => some ⟨2, 17, 17, 0⟩  -- IO_CROSS
  | 117 => some ⟨2, 17, 1, 0⟩  -- IO_OVERLOAD
  | 118 => some ⟨2, 17, 1, 0⟩  -- IO_FIELD_SUPPLY
  | 119 => some ⟨2, 17, 1, 3⟩  -- IO_SILENCE
  | 120 => some ⟨1, 1, 1, 5⟩  -- PR_UNPROTECTED
  | 121 => some ⟨1, 1, 1, 5⟩  -- PR_RESYNC
  | 122 => some ⟨2, 17, 1, 4⟩  -- PR_NO_QUORUM
  | 123 => some ⟨2, 17, 1, 5⟩  -- BT_STALLED
  | 124 => some ⟨2, 17, 1, 5⟩  -- BT_CONFLICT
  | 125 => some ⟨2, 1, 1, 5⟩  -- BT_ADMISSION
  | 126 => some ⟨4, 19, 17, 4⟩  -- WD_CYCLE
  | 127 => some ⟨1, 1, 1, 4⟩  -- WD_SEAL
  | _ => none

/-- R375, R380: the 128 sources. -/
def sourceDef (k : Nat) : Option SrcDef := if k < 72 then spireSource (k % 24) else moduleSource k

/-- The severity of a raise (R376, R380): a source "1 or 3" takes the one the detecting block gives. -/
def raiseSev (k : Nat) (sev3 : Bool) : Nat :=
  match sourceDef k with
  | some d => if k < 72 && k % 24 == 5 && sev3 then 3 else d.sev
  | none => 0

/-- The reaction mask in force: FC_REACTk once an image is loaded, else the default (R378, spec/03 R58). -/
def State.reactMask (s : State) (k : Nat) : Nat :=
  if s.img.isSome then s.fld F.FC_REACT_MASK k else match sourceDef k with | some d => d.mask | none => 0

/-- The quiet code in force. -/
def State.quietCode (s : State) (k : Nat) : Nat :=
  if s.img.isSome then s.fld F.FC_REACT_QUIET k else match sourceDef k with | some d => d.quiet | none => 0

/-- REC_LIMIT in force. -/
def State.recLimit (s : State) (k : Nat) : Nat := if s.img.isSome then s.fld F.FC_REACT_REC_LIMIT k else 3

/-- REC_WIN in force, hours (R390). -/
def State.recWin (s : State) : Nat := if s.img.isSome then s.fld F.FC_CFG_REC_WIN else 24

/-- A quiet code as ns (R390); code 0 has no end. -/
def quietNs (c : Nat) : Nat :=
  if c = 1 then 10000000 else if c = 2 then 100000000 else if c = 3 then 1000000000 else if c = 4 then 10000000000 else 60000000000

/-- R386: hold the first raise. -/
def State.noteFirst (s : State) (k sev : Nat) (simul forced : Bool) : State :=
  match s.fc.first with
  | some _ => s
  | none => { s with fc := { s.fc with first := some ⟨k, sev, simul, forced, s.time.clockNs / 10 % 2 ^ 32, s.atNow⟩ } }

/-- R377: reactions I and N of a mask; B and M are carried out by `State.reactReset`. -/
def State.reactSignals (s : State) (k mask : Nat) : State :=
  let s := if mask % 2 = 1 then s.emit (.interrupt k) else s
  if mask / 2 % 2 = 1 then s.emit (.trap k) else s

/-- The block that reaction B resets for a source with the unit of FC_DETAIL (R377, R378, R410). -/
def reactBlock (k unit : Nat) : Option Nat :=
  if k = 88 then some (0x40 + unit)
  else if 92 ≤ k ∧ k ≤ 97 then some unit
  else if k = 99 then some (0x50 + unit)
  else none

/-- R377: reactions B and M. -/
def State.reactReset (s : State) (k mask unit : Nat) : State :=
  let s := if mask / 4 % 2 = 1 then
      (match reactBlock k unit with | some b => if brstBlock b then s.brst b else s | none => s) else s
  if mask / 8 % 2 = 1 then s.mrst (.fault k) else s

/-- R381: the collector takes one raise. Answers the state and whether the source's reactions apply (a source that
leaves CLEAR). Forced raises count no recovery and never latch (R387). -/
def State.collectCore (s : State) (k sev unit kind : Nat) (simul forced : Bool) : State × Bool :=
  let x := s.src k
  let latch := x.st == .clear && !forced && Nat.ble (s.recLimit k) x.winCnt
  let st' : SrcState := if x.st = .latched || latch then .latched else .active
  let s := s.recordFull (.raise k) k (sevClass sev) simul forced (st' == .latched) (Config.recParam 1 (1000 + k) unit kind)
    (Config.recParam 2 (1000 + k) unit kind)
  let s := s.updSrc k (fun x => { x with
    st := st', cond := true, sticky := true
    forced := forced && (x.st == .clear || x.forced)
    sev := sev, occ := min (x.occ + 1) 255, unit := unit, kind := kind, countL := s.time.count % 65536 })
  (s.noteFirst k sev simul forced, x.st == .clear)

/-- R382: a source enters LATCHED whatever its WIN_CNT. -/
def State.latchSrc (s : State) (k : Nat) : State := s.updSrc k (fun x => { x with st := .latched })

/-- The collector's part of a raise: state, record, first fault, reactions I and N. A reserved source is never
raised (R375). Resets by reaction follow in `State.raiseEnd`. -/
def State.collect (s : State) (k : Nat) (sev3 : Bool) (unit kind : Nat) (simul forced : Bool) : State × Bool :=
  match sourceDef k with
  | none => (s, false)
  | some _ =>
    let r := s.collectCore k (raiseSev k sev3) unit kind simul forced
    (if r.2 then r.1.reactSignals k (s.reactMask k) else r.1, r.2)

/-- R383: a source of severity 4 that is LATCHED takes the module to ISOLATED. -/
def State.latchedSev4 (s : State) (k : Nat) : Bool :=
  (s.src k).st == .latched && (match sourceDef k with | some d => d.sev == 4 | none => false)

/-- The cause code of MODE.CAUSE for a severity-4 source (R422). -/
def sev4Cause (k : Nat) : Nat := if k = 75 then 5 else if k = 76 then 6 else if k = 126 then 4 else 2

/-! ### Isolation of a spire (spec/10 R222) -/

/-- Write a register of the belfry block in all three slices. -/
def State.bfSet (s : State) (f : Field) (v : Nat) : State := s.each [0, 1, 2] fun s c => s.setFld f v c

/-- Write a whole belfry register in all three slices. -/
def State.bfWr (s : State) (r : Reg) (v : Nat) : State := s.each [0, 1, 2] fun s c => s.wr r v c

/-- Count in the three slices. -/
def State.bfBump (s : State) (r : Reg) (i : Nat := 0) (n : Nat := 1) (perCopy : Bool := true) : State :=
  s.each [0, 1, 2] fun s c => if perCopy then s.bumpReg r c 0 n else s.bumpReg r i c n

/-- The spires in comparison, with those that have joined and wait for their first release (spec/10 R227). -/
def State.joined (s : State) : List Nat := threeIdx (fun x => s.bf.spst.get x == .compared || s.bf.entering.get x)

/-- A slice whose power domain fails (spec/01 R16): it takes no further part in the vote. -/
def State.loseSlice (s : State) (x : Nat) : State := { s with bf := { s.bf with sliceIso := s.bf.sliceIso.set x true } }

/-- R381: the condition of a source has ended: its quiet period starts, or with quiet code 0 it waits for the edge
reset. GONE is set while STICKY is 1 (R385). -/
def State.endCondAt (s : State) (k at' : Nat) : State :=
  let q := s.quietCode k
  s.updSrc k (fun x => { x with
    cond := false
    gone := x.gone || x.sticky
    st := if x.st = .active && q ≠ 0 then .quiet else x.st
    quietEnd := if x.st = .active && q ≠ 0 then at' + quietNs q else x.quietEnd })

/-- The condition ends now. -/
def State.endCond (s : State) (k : Nat) : State := s.endCondAt k s.time.clockNs

/-- The detecting block reports that the condition of a source is gone, unless a force holds it (R381, R387). -/
def State.gone (s : State) (k : Nat) : State := if (s.src k).cond && !(s.src k).force then s.endCond k else s

/-- R222 steps 1 to 4: the spire leaves comparison, its delay register is emptied, CRST; with its forces the condition of
its SP_FORCE source ends. -/
def State.dropSpire (s : State) (x : Nat) (uncounted : Bool) : State :=
  let s := { s with bf := { s.bf with
    spst := s.bf.spst.set x .selftest
    uncounted := s.bf.uncounted.set x uncounted
    freed := s.bf.freed.set x false
    entering := s.bf.entering.set x false
    streams := s.bf.streams.set x []
    copySeq := s.bf.copySeq.set x none } }
  let s := if (s.src (24 * x + 19)).cond then s.endCond (24 * x + 19) else s
  (s.crst x).bfWr R.BF_ST_RES 0

/-- R222: isolate a compared spire: steps 1 to 6. ACTIVE becomes ACTIVE-2OO2, SPIRE_ISOLATED is recorded, the
comparison-minority source is raised at severity 3 (forced in the cases of R478), the cycle produces no delta. A
spire that is not compared changes nothing (R219). With fewer than two spires left compared no majority remains and
the module goes to SAFE-HALT (R217, R228), from the modes in which R405 has a row for it. -/
def State.isolateSpire (s : State) (x : Nat) (cls : Nat) (uncounted : Bool) (where' : Option (Nat × Nat) := none) : State :=
  if s.isCompared x then
    let w := where'.getD ((s.sp.get x).eng.group, s.bf.pos)
    let s := s.dropSpire x uncounted
    let s := { s with sched := { s.sched with noDelta := true } }
    let s := s.record .bfIsolated srcBelfry (w.1 % 65536 * 65536 + x * 256 + cls) w.2
    let s := (s.collect (24 * x + 10) false 0 0 false uncounted).1
    let s := if s.mode.cur = .active then s.setMode .active2oo2 8 else s
    if Nat.blt s.compared.length 2 then s.safeHalt 2 else s
  else s

/-- What the detecting block does at once for a raise (R376): severity 3 isolates the spire of the source (and a failed supply
or clock takes the slice of its power domain with it, spec/01 R16), severity 4
forces the voted word to zero and takes the module to SAFE-HALT; in BOOT, SELFTEST and LOAD the mode table has no
row for it and the raise leaves the mode (R405). SP_LOGIC stops only its own stream (spec/04 R104): the belfry
isolates it when it finds the stream missing. -/
def State.detectorActs (s : State) (k sev : Nat) (forced : Bool) : State :=
  if sev = 3 then
    let s := if k < 72 && (k % 24 ≠ 2 || forced) then s.isolateSpire (k / 24) 0 forced else s
    if k < 72 && Nat.ble (k % 24) 1 && !forced then s.loseSlice (k / 24) else s
  else if sev = 4 then
    match s.mode.cur with
    | .boot | .selftest | .load | .safeHalt | .isolated => { s with bf := { s.bf with vote := 0 } }
    | _ => s.safeHalt (sev4Cause k)
  else s

/-- R381, R376, R383, R377: a raise with everything that follows from it. -/
def State.raise (s : State) (k : Nat) (sev3 : Bool := false) (unit kind : Nat := 0) (simul forced : Bool := false) : State :=
  match sourceDef k with
  | none => s
  | some _ =>
    let s := if k < 72 then s.wakeSpire (k / 24) else s
    let m := s.reactMask k
    let r := s.collect k sev3 unit kind simul forced
    let s := r.1.detectorActs k (raiseSev k sev3) forced
    let s := if s.latchedSev4 k then s.isolated 3 else s
    if r.2 then s.reactReset k m unit else s

/-- SP_FORCE stands while a force on a vital bit stands (spec/17 R380). -/
def State.forceSource (s : State) : State :=
  s.each [0, 1, 2] fun s x =>
    let want := s.fld F.FORCE_COUNT_VITAL x != 0
    if want && !(s.src (24 * x + 19)).cond then s.raise (24 * x + 19)
    else if !want && (s.src (24 * x + 19)).cond then s.endCond (24 * x + 19) else s

/-- R381: the edge reset as the collector takes it: LATCHED sources, and ACTIVE ones with quiet code 0, whose
condition has ended return to CLEAR. -/
def State.edgeResetSrc (s : State) (k : Nat) : State :=
  let x := s.src k
  if x.cond then s
  else if x.st = .latched then
    (s.updSrc k (fun x => { x with st := .clear, winCnt := 0, winOpen := false, winEnd := 0, forced := false })).event .fcUnlatch srcModule k
  else if x.st = .active && s.quietCode k = 0 then s.updSrc k (fun x => { x with st := .clear, forced := false })
  else s

/-- R379: the FAULT_OUT coil is de-energised. -/
def State.faultOut (s : State) : Bool :=
  s.mode.cur == .boot || s.mode.cur == .selftest || s.mode.cur == .isolated
    || s.fc.src.any (fun e => e.2.st != .clear && s.reactMask e.1 / 16 % 2 == 1)

end Sys2Proof.Machine
end

