-- ==== Sys2Proof/Machine/Operands.lean ====
section
/-! DEFINITION. The operand forms of service writes: the access codes of spec/00 R9, refusal under R10, and writes
to blocks that exist per spire or per slice (R12). -/

namespace Sys2Proof.Machine

/-- R12: the value that every member of `xs` receives, if they all receive the same one. -/
def SpireVals.common (v : SpireVals) (xs : List Nat) : Option Nat :=
  match xs with
  | [] => none
  | x :: t => match v.get x with
    | none => none
    | some a => if t.all (fun y => v.get y == some a) then some a else none

/-- The slices that are not isolated (spec/10 R221). -/
def State.liveSlices (s : State) : List Nat := threeIdx (fun i => !(s.bf.sliceIso.get i))

/-- A service write of one register that needs no particular role or mode (RW, W1C, W1S of R9). -/
def State.svcWrite (s : State) (c : Svc) (f : State → State) : State :=
  s.service c fun x s => f (s.answer x)

/-- The read-only bits of the registers that also hold writable ones. -/
def roMasks : List (Reg × Nat) :=
  [(R.CIVIL_STATUS, 0xF7), (R.KP_TSEL, 0x80000000), (R.KP_XSEL, 0x80000000), (R.KP_CMD, 0x80000000), (R.BF_CMD, 0x80000000),
   (R.RST_CMD, 0x80000000), (R.PAIR_CONF, 0xFF000000), (R.IO_IN, 0x100), (R.IO_OUTCFG, 0x1), (R.FC_REACT, 0x1F00)]

/-- R9: a write may carry the read-only bits of a mixed register as 0 or as they read; any other value there is a write to
those fields, and refused (log entry 100). -/
def roOk (k : Nat) (old : Word) (v : Nat) : Bool :=
  match roMasks.find? (fun e => e.1.covers k) with
  | none => true
  | some e => (v &&& e.2) == 0 || (v &&& e.2) == (old.toNat &&& e.2)

/-- The same in a block per spire: accepted only when every compared spire receives the same value (R12); the request wakes the
spires (spec/19 R417). -/
def State.svcWriteSpires (s : State) (c : Svc) (target : Nat) (v : SpireVals) (f : Nat → State → State)
    (ok : Nat → State → Bool := fun _ _ => true) : State :=
  s.service c fun x s =>
    match v.common s.compared with
    | some a => if ok a s then f a (s.answer x).wakeSpires else s.refuse x target
    | none => s.refuse x target

/-- The same over the belfry's slices. -/
def State.svcWriteSlices (s : State) (c : Svc) (target : Nat) (v : SpireVals) (f : Nat → State → State) : State :=
  s.service c fun x s =>
    match v.common s.liveSlices with
    | some a => f a (s.answer x)
    | none => s.refuse x target

/-- R9 RWM: only in MAINTENANCE from a maintainer session. -/
def State.mayRwm (s : State) (x : SvcSess) : Bool := s.mode.cur == .maintenance && x.role == .maintainer

/-- R9 RWA: only in ACTIVE, ACTIVE-2OO2 and MAINTENANCE from a maintainer session. -/
def State.mayRwa (s : State) (x : SvcSess) : Bool :=
  (s.mode.cur.track || s.mode.cur == .maintenance) && x.role == .maintainer

/-- An accepted write of access RWL, RWM or RWA is written to the change log first (R10, spec/18 R401: KIND 1);
where the entry cannot be written the transaction is refused. -/
def State.svcConfig (s : State) (x : SvcSess) (spires target old new : Nat) (f : State → State) : State :=
  match s.chgWrite true x.role.code x.port 1 spires target old new 0 with
  | some s => f (s.answer x)
  | none => s.refuse x target

/-- A write of access RWM (R9): refused outside MAINTENANCE, for other roles, and when `ok` fails. -/
def State.svcRwm (s : State) (c : Svc) (target old new : Nat) (ok : State → Bool) (f : State → State) : State :=
  s.service c fun x s =>
    if s.mayRwm x && ok s then s.svcConfig x 0 target old new f else s.refuse x target

/-- The spires as a bit mask for the change log. -/
def spireMask (xs : List Nat) : Nat := xs.foldl (fun m x => m + 2 ^ x) 0

/-- A write of access RWM to a block per spire. -/
def State.svcRwmSpires (s : State) (c : Svc) (target old : Nat) (v : SpireVals) (ok : Nat → State → Bool)
    (f : Nat → State → State) : State :=
  s.service c fun x s =>
    match v.common s.compared with
    | some a =>
      if s.mayRwm x && ok a s then s.svcConfig x (spireMask s.compared) target old a (fun s => f a s.wakeSpires) else s.refuse x target
    | none => s.refuse x target

/-- The same over the belfry's slices. -/
def State.svcRwmSlices (s : State) (c : Svc) (target old : Nat) (v : SpireVals) (ok : Nat → State → Bool)
    (f : Nat → State → State) : State :=
  s.service c fun x s =>
    match v.common s.liveSlices with
    | some a =>
      if s.mayRwm x && ok a s then s.svcConfig x (spireMask s.liveSlices) target old a (f a) else s.refuse x target
    | none => s.refuse x target

/-- Bit `i` of a number. -/
def bitOf (v i : Nat) : Bool := v / 2 ^ i % 2 == 1

/-- Field bits [lo, lo + w) of a number. -/
def bits (v lo w : Nat) : Nat := v / 2 ^ lo % 2 ^ w

end Sys2Proof.Machine
end

