-- ==== Sys2Proof/Machine/Crc.lean ====
section
/-! DEFINITION. Check values (spec/15 R330 to R333, R346): the general computation, the presets, the tri-signature;
and the byte layouts of tokens, transactions and boundary records that check values run over. -/

namespace Sys2Proof.Machine

/-- One bit into a remainder of width `w` (R330). -/
def crcBit (w poly reg : Nat) (b : Bool) : Nat :=
  let top := bitOf reg (w - 1)
  let r := reg * 2 % 2 ^ w
  if top == b then r else r ^^^ poly

/-- One byte, most significant bit first, or least significant first when `refin`. -/
def crcByte (w poly : Nat) (refin : Bool) (reg : Nat) (x : Byte) : Nat :=
  (List.range 8).foldl (fun r i => crcBit w poly r (x.getLsbD (if refin then i else 7 - i))) reg

/-- Reflect the low `w` bits. -/
def reflect (w v : Nat) : Nat := (List.range w).foldl (fun m i => m + if bitOf v i then 2 ^ (w - 1 - i) else 0) 0

/-- The parameters of R330. -/
structure CrcParams where
  width : Nat
  poly : Nat
  init : Nat
  refin : Bool
  refout : Bool
  xorout : Nat
deriving DecidableEq, Repr

/-- Feed bytes to a remainder. -/
def CrcParams.feed (p : CrcParams) (reg : Nat) (bs : List Byte) : Nat := bs.foldl (crcByte p.width p.poly p.refin) reg

/-- REFOUT and XOROUT. -/
def CrcParams.fin (p : CrcParams) (reg : Nat) : Nat := (if p.refout then reflect p.width reg else reg) ^^^ p.xorout

/-- The check value of a byte string (R330). -/
def CrcParams.value (p : CrcParams) (bs : List Byte) : Nat := p.fin (p.feed p.init bs)

/-- R346: the presets. -/
def crc32 : CrcParams := ⟨32, 0x04C11DB7, 0xFFFFFFFF, true, true, 0xFFFFFFFF⟩
def crc32c : CrcParams := ⟨32, 0x1EDC6F41, 0xFFFFFFFF, true, true, 0xFFFFFFFF⟩
def crc16ccitt : CrcParams := ⟨16, 0x1021, 0xFFFF, false, false, 0⟩
def crc64 : CrcParams := ⟨64, 0x42F0E1EBA9EA3693, 0, false, false, 0⟩

/-- R331: the diverse polynomial set. -/
def diversePoly (code : Nat) : Nat :=
  match code with
  | 0 => 0x04C11DB7 | 1 => 0x1EDC6F41 | 2 => 0x741B8CD7 | 3 => 0x32583499 | 4 => 0x814141AB | 5 => 0xA833982B | _ => 0

/-- R331: the tri-signature parameters for a polynomial code. -/
def triParams (code : Nat) : CrcParams := ⟨32, diversePoly code, 0xFFFFFFFF, false, false, 0xFFFFFFFF⟩

/-- R330, R332: the tri-signature with prefix words W0 and W1. -/
def triSig (poly : Three Nat) (w0 w1 : Nat) (bs : List Byte) : Three Nat :=
  let str := beBytes 4 w0 ++ beBytes 4 w1 ++ bs
  poly.mapI (fun _ p => (triParams p).value str)

/-- R333: how many of the three fields are valid. -/
def triValid (cv want : Three Nat) : Nat :=
  (if cv.a = want.a then 1 else 0) + (if cv.b = want.b then 1 else 0) + (if cv.c = want.c then 1 else 0)

/-- R222 step 3: a spire outside COMPARED contributes 0x0000_0000. -/
def State.maskCv (s : State) (cv : Three Nat) : Three Nat := cv.mapI (fun i v => if s.isCompared i then v else 0)

/-! ### Token words (spec/06 R126) -/

/-- The FLAGS half-word. -/
def Token.flags (t : Token) : Nat :=
  (if t.boundary then 1 else 0) + (if t.resident then 2 else 0) + (if t.recon then 4 else 0) + t.rsvd + t.shareSet * 256

/-- Quarters Q0 to Q3 (R126). -/
def Token.quarter (t : Token) (q : Nat) : Nat :=
  match q with
  | 0 => t.holder * 65536 + t.shareCnt * 256 + t.st * 16 + t.cls
  | 1 => t.gen * 65536 + t.flags
  | 2 => t.home * 65536 + t.peer
  | _ => t.tseq * 65536 + t.crc

/-- Bytes 0 to 13, which CRC covers. -/
def Token.body (t : Token) : List Byte :=
  beBytes 4 (t.quarter 0) ++ beBytes 4 (t.quarter 1) ++ beBytes 4 (t.quarter 2) ++ beBytes 2 t.tseq

/-- The CRC that R126 asks for. -/
def Token.crcOf (t : Token) : Nat := crc16ccitt.value t.body

/-- R127: every write recomputes CRC. -/
def Token.seal (t : Token) : Token := { t with crc := t.crcOf }

/-- All 16 bytes. -/
def Token.bytes (t : Token) : List Byte := t.body ++ beBytes 2 t.crc

/-! ### Transaction slots (spec/06) -/

/-- An entry as its 24 bits. -/
def TEntry.word (e : TEntry) : Nat := e.token * 256 + e.cls * 16 + (if e.live then 8 else 0) + (if e.added then 4 else 0)

/-- Bytes 0 to 59. -/
def TSlot.head (x : TSlot) : List Byte :=
  beBytes 1 x.tstate ++ beBytes 1 0 ++ beBytes 2 x.route ++ beBytes 1 x.nEntries ++ beBytes 1 x.nLive ++ beBytes 2 x.domain
    ++ beBytes 8 x.openAt ++ beBytes 2 x.inst ++ List.replicate 42 0

/-- Bytes 64 to 255. -/
def TSlot.tail (x : TSlot) : List Byte :=
  let e := x.entries.flatMap (fun e => beBytes 3 e.word)
  e ++ List.replicate (192 - e.length) 0

/-- The HCHK that the layout asks for. -/
def TSlot.hchkOf (x : TSlot) : Nat := crc32c.value (x.head ++ x.tail)

/-- Every write of an open slot renews ENTRIES, LIVE and HCHK. -/
def TSlot.seal (x : TSlot) : TSlot :=
  let y := { x with nEntries := x.entries.length, nLive := (x.entries.filter TEntry.live).length }
  { y with hchk := y.hchkOf }

/-- All 256 bytes. -/
def TSlot.bytes (x : TSlot) : List Byte := x.head ++ beBytes 4 x.hchk ++ x.tail

/-! ### Boundary records (spec/07 R157) -/

/-- Bytes 0 to 31. -/
def BRec.body (r : BRec) : List Byte :=
  beBytes 1 r.kind ++ beBytes 1 (r.st * 16 + (if r.recon then 8 else 0) + (if r.resident then 4 else 0) + (if r.offering then 2 else 0))
    ++ beBytes 2 r.tseq ++ beBytes 2 r.src ++ beBytes 2 r.dst ++ beBytes 4 r.element ++ beBytes 2 r.home ++ beBytes 2 r.epoch
    ++ beBytes 2 r.aux ++ beBytes 2 0 ++ beBytes 4 r.rseq ++ beBytes 8 r.stamp

end Sys2Proof.Machine
end

