-- ==== Sys2Proof/Machine/Load.lean ====
section
/-! DEFINITION. What an accepted image sets up: the registers that it feeds (spec/03 R73), the frame store (spec/09
R184), the tokens (spec/06 R128), pinned pages (spec/09 R185); and the entry to control of track (spec/19 R405). -/

namespace Sys2Proof.Machine

/-- A default token: word 0. -/
def Token.zero : Token := ⟨0, 0, 0, 0, 0, false, false, false, 0, 0, 0, 0, 0, 0⟩

/-- Key of frame bit b and frame word w of lane j of group g. -/
def fKey (g lane b : Nat) : Nat := (g * 8 + lane) * 512 + b
def vKey (g lane w : Nat) : Nat := (g * 8 + lane) * 64 + w

/-- Build a sparse map from pairs, later pairs winning. -/
def sparseOf [DecidableEq α] (d : Nat → α) (l : List (Nat × α)) : List (Nat × α) := l.foldl (fun m e => Sparse.set d m e.1 e.2) []

/-- Every (group, lane) that holds an instance. -/
def ImageContent.lanes (m : ImageContent) : List (Nat × Nat × LaneDef) :=
  (m.groups.zipIdx).flatMap (fun g => (g.1.lanes.zipIdx).map (fun l => (g.2, l.2, l.1)))

/-- R184: the memories after LOAD: FIRST is 1, non-vital locations at their declared value, all else 0. -/
def ImageContent.mem (m : ImageContent) : SMem where
  f := sparseOf (fun _ => false) (m.lanes.map (fun x => (fKey x.1 x.2.1 511, true))
      ++ (m.lanes.flatMap (fun x => (m.initF.filter (fun i => i.1 == x.2.2.inst)).map (fun i => (fKey x.1 x.2.1 i.2, true)))))
  v := sparseOf (fun _ => 0) (m.lanes.flatMap (fun x =>
      (m.initV.filter (fun i => i.1 == x.2.2.inst)).map (fun i => (vKey x.1 x.2.1 i.2.1, BitVec.ofNat 32 i.2.2))))
  g := sparseOf (fun _ => false) (m.initG.map (fun i => (i, true)))
  h := sparseOf (fun _ => 0) (m.initH.map (fun i => (i.1, BitVec.ofNat 32 i.2)))
  q := sparseOf (fun _ => false) (m.initQ.map (fun i => (i, true)))
  t := []

/-- R128: the initial state of a token. -/
def TokenDef.initial (d : TokenDef) : Token :=
  if d.boundary then ({ Token.zero with holder := 0xFFFF, st := 5, boundary := true, recon := true, home := d.home, peer := d.home }).seal
  else ({ Token.zero with holder := 0xFFFF, st := if d.blocked then 3 else 0, home := d.home, peer := d.home }).seal

/-- A keep loaded from TOKEN_DEF in cycle `count`, with the EPOCH of R158; each boundary token needs a QUERY to each listing peer,
and RECON starts its long-partition timer (spec/07 R162). -/
def ImageContent.keep (m : ImageContent) (epoch count : Nat) : KeepSt where
  tokens := m.tokens.map TokenDef.initial
  slots := []
  bt := { BtSt.empty with
    epoch := epoch
    timers := (m.tokens.zipIdx.filter (fun d => d.1.boundary)).map (fun d => ⟨.long, d.2, some count⟩)
    queries := (m.tokens.zipIdx).flatMap (fun d => if d.1.boundary then
      (m.peers.filter (fun p => p.tokens.contains d.2)).map (fun p => (d.2, p.addr, false)) else []) }

/-- R129: the effective matrix: the built-in one ANDed with LOCK_MATRIX. Bit 5 (i - 1) + (j - 1). -/
def builtinMatrix : Nat := 2 ^ 6 + 2 ^ 7 + 2 ^ 11 + 2 ^ 12 + 2 ^ 13 + 2 ^ 17 + 2 ^ 18
def ImageContent.matrix (m : ImageContent) : Nat := match m.lockm with | some x => builtinMatrix &&& x | none => builtinMatrix

/-- The pair address of R155: the lower node of the two members. -/
def ImageContent.pairAddr (m : ImageContent) : Nat :=
  match m.pair with | some p => min m.ring.addrA p.partner | none => m.ring.addrA


/-- R250: TK_PREP in ns: the greater of 3 ms and 1.1 latency(STBY_MAX) + 0.1 ms + 2 T_R. -/
def ImageContent.tkPrep (m : ImageContent) : Nat :=
  max 3000000 (wakeNs m.stbyMax * 11 / 10 + 100000 + 2000000 * trMs m.timing.trSel)

/-- Write a register in the three copies of a per-spire block (copies by index i). -/
def State.wr3 (s : State) (r : Reg) (v : Nat) : State := s.each [0, 1, 2] fun s c => s.wr r v c

/-- Write member k of a register family in the three copies. -/
def State.wr3k (s : State) (r : Reg) (k v : Nat) : State := s.each [0, 1, 2] fun s c => s.wr r v k c

def b2n (b : Bool) : Nat := if b then 1 else 0

/-- Every RWL bit to 0: what an earlier image or a write before LOAD left in a register does not outlive the load (R73). -/
def State.clearRwl (s : State) : State :=
  s.each (s.regs.map (fun e => e.1)) fun s k =>
    match regAt k with
    | some r => s.setWord k (s.word k &&& ~~~BitVec.ofNat 32 r.rwl)
    | none => s

/-- The timing registers (spec/03 R69). -/
def State.loadTiming (s : State) (t : TimingDef) : State :=
  let s := s.wr R.TB_CFG (t.tbMs + t.trSel * 512)
  let s := s.wr R.WV_CFG (t.refPri + t.refSec * 8 + t.nCyc * 256 + t.nRef * 65536)
  let s := (s.wr R.HOLD_LIMIT t.holdMin).wr R.ANCHOR_CFG (t.anchorRef + t.anchorOff * 256)
  s.setFld F.CIVIL_STATUS_PTP_PORT t.ptpPort

/-- The scheduler, engine, pager, keep and boundary registers. -/
def State.loadEngine (s : State) (m : ImageContent) : State :=
  let d := m.sched
  let s := s.wr3 R.LE_TYPES m.etypes.length
  let s := s.wr3 R.LE_INSTANCES m.lanes.length
  let s := s.wr3 R.LE_TIMERS m.timers
  let s := s.wr3 R.LE_CODE_LEN (m.etypes.foldl (fun n e => n + e.code.length) 0)
  let per := d.tasks.filter (fun t => Nat.blt t.code 8)
  let evt := d.tasks.filter (fun t => Nat.ble 8 t.code)
  let s := s.wr3 R.SCH_CFG (b2n d.sweep + per.length * 2 + evt.length * 32 + d.sealAng * 65536)
  let s := if d.sweep then
      let s := s.wr3 R.SWEEP_CFG (d.bound + d.starts.length * 8 + d.outs.length * 64)
      let s := s.wr3 R.SWEEP_ANG0 (d.starts.getD 0 0 + d.starts.getD 1 0 * 65536)
      let s := s.wr3 R.SWEEP_ANG1 (d.starts.getD 2 0 + d.starts.getD 3 0 * 65536)
      let s := s.wr3 R.SWEEP_ANG2 (d.outs.getD 0 0 + d.outs.getD 1 0 * 65536)
      s.wr3 R.SWEEP_ANG3 (d.outs.getD 2 0 + d.outs.getD 3 0 * 65536)
    else
      let s := s.each per fun s t =>
        let s := s.wr3k R.PT_CFG t.code (t.periodExp + t.phase * 8 + t.prio * 65536 + 2 ^ 31)
        let s := s.wr3k R.PT_ANG_A t.code (t.inAng + t.relAng * 65536)
        let s := s.wr3k R.PT_ANG_B t.code (t.dlAng + t.outAng * 65536)
        s.wr3k R.PT_GROUPS t.code (t.first + t.count * 65536)
      s.each evt fun s t =>
        let s := s.wr3k R.ET_CFG (t.code - 8) (t.kind + t.src * 2 + t.edge * 256 + t.prio * 65536 + 2 ^ 31)
        let s := s.wr3k R.ET_TIME (t.code - 8) (t.dlRel + t.minSep * 65536)
        let s := s.wr3k R.ET_OUT (t.code - 8) t.outAng
        s.wr3k R.ET_GROUPS (t.code - 8) (t.first + t.count * 65536)
  let s := s.wr3 R.KP_TOKENS m.tokens.length
  let s := s.wr3 R.KP_TRANS (m.transactions + m.routes.length * 65536)
  let s := s.wr3 R.KP_LOCKM m.matrix
  let p := m.peers.getD 0 ⟨0, [], [], 0, 0, 0, 0⟩
  let s := s.wr3 R.BT_CFG (m.peers.length + p.tOffer * 256 + p.tConf * 65536 + p.tFresh * 16777216)
  let s := s.wr3 R.BT_LONG p.tLong
  let s := s.each (m.peers.zipIdx) fun s p => s.wr3k R.BT_PEER p.2 p.1.addr
  let s := s.wr3 R.PG_CFG (d.pfDepth + d.pfLead * 65536)
  let s := s.wr3 R.MT_AUTO d.mtPeriod
  let s := s.each (List.range 6) fun s k =>
    s.wr3k R.BANK_USE k (m.banks.getD (4 * k) 0 + m.banks.getD (4 * k + 1) 0 * 256 + m.banks.getD (4 * k + 2) 0 * 65536 + m.banks.getD (4 * k + 3) 0 * 16777216)
  let s := s.each (List.range 24) fun s b => s.each [0, 1, 2] fun s x => s.setFlag F.BANK_STAT_FENCED (m.banks.getD b 0 == 0) b x
  s.wr3 R.BF_CFG (d.lagUs + d.sigUs * 65536)

/-- A rank of RING_NODE as RG_RANK codes it: 7 when none. -/
def rankCode (r : Nat) : Nat := if r < 4 then r else 7

/-- The ring, pair, CAN, session, I/O, fault and power registers. -/
def State.loadPeriphery (s : State) (m : ImageContent) : State :=
  let n := m.ring
  let s := s.wr R.RG_ADDR (n.addrA + n.addrB * 65536)
  let s := s.wr R.RG_RANK (rankCode n.tmA + rankCode n.tmB * 8 + rankCode n.sm * 64 + n.cs * 512 + n.beta * 4096)
  let s := s.wr R.RG_EXPORT (n.expQ + n.exw * 16777216)
  let s := s.each (n.imports.zipIdx) fun s i => s.wr R.RG_IMP (i.1.1 + i.1.2.1 * 65536 + i.1.2.2 / 256 * 1048576) i.2
  let d := m.scheds.getD 0 ⟨0, 0, 0, [], []⟩
  let s := s.wr R.RG_SCHED (d.nslots * 8 + d.slotHalf * 4096 + (2 ^ m.scheds.length - 1) * 16777216)
  let s := s.wr R.RG_SCHED2 (d.dynMs + d.positions.length * 65536)
  let s := match m.pair with
    | none => s
    | some p =>
      let s := s.wr R.PAIR_CONF (p.partner + p.witnesses.length * 65536 + (m.tkPrep + 99999) / 100000 * 16777216)
      let s := s.wr R.PAIR_WIT01 (p.witnesses.getD 0 0 + p.witnesses.getD 1 0 * 65536)
      let s := s.wr R.PAIR_LIMITS (p.witnesses.getD 2 0 + p.deltaMax * 65536)
      s.setFlag F.PAIR_STATUS_LOWER (n.addrA % 256 < p.partner % 256)
  let s := s.each m.can fun s c =>
    let s := s.wr R.CAN_CFG (c.nom + c.data * 4 + c.nomSp * 32 + c.dataSp * 256 + b2n c.term * 2048 + c.wakeMode * 4096 + b2n c.sleepQ.isSome * 8192) c.ch
    let s := s.wr R.CAN_CTL_CNT (c.ctls.length + c.sleepQ.getD 0 * 16384) c.ch
    let s := s.wr R.CAN_WAKE_ID c.wakeId c.ch
    let s := (s.wr R.CAN_WAKE_DATA0 (c.wakeData / 2 ^ 32) c.ch).wr R.CAN_WAKE_DATA1 c.wakeData c.ch
    (s.wr R.CAN_WAKE_MASK0 (c.wakeMask / 2 ^ 32) c.ch).wr R.CAN_WAKE_MASK1 c.wakeMask c.ch
  let s := s.wr R.SS_CFG (m.sessions.length + m.queues.length * 256)
  let s := s.wr R.SS_OWN ((m.sessions.head?.map SessDef.ownId).getD 0)
  let s := s.each m.sessions fun s x =>
    let s := s.wr R.SSN_CFG (x.role + x.delivery * 2 + 4 + x.task * 8 + x.timeout * 256 + x.ports.getD 0 0 * 65536 + x.poly.a * 2 ^ 20 + x.poly.b * 2 ^ 23 + x.poly.c * 2 ^ 26) x.n
    s.wr R.SSN_PEER x.peerId x.n
  let s := s.each m.queues fun s x =>
    let s := s.wr R.QU_CFG (x.src + b2n x.ring * 65536 + x.credits * 131072 + x.depth * 2 ^ 23 + 2 ^ 31) x.q
    s.wr R.QU_WIN (x.iBase / 32 + x.consumer * 65536 + x.descMax * 2 ^ 21) x.q

  let s := match m.io with
    | none => s
    | some io =>
      let s := s.wr R.IO_CFG (io.lsMs + (io.pairs.foldl (fun (b : Nat) (p : Nat × Nat) => b + 2 ^ p.1) 0) * 65536)
      let s := s.each (io.inputs.zipIdx) fun s i => s.wr R.IO_IN (i.1.deb + b2n i.1.wbEn * 128 + b2n i.1.vital * 256) i.2
      let s := s.each io.pairs fun s p => s.wr R.IO_DISC p.2 p.1
      s.each io.outputs fun s o => s.wr R.IO_OUTCFG (b2n o.vital + b2n o.safeOn * 2 + 4) o.n
  let s := s.wr R.FC_CFG m.recWin
  let s := s.each (List.range 128) fun s k =>
    match sourceDef k with
    | none => s
    | some f =>
      match m.reacts.find? (fun (r : ReactDef) => r.source == k) with
      | some r => s.wr R.FC_REACT (r.mask + f.min * 256 + r.quiet * 65536 + r.recLimit * 16777216) k
      | none => s.wr R.FC_REACT (f.mask + f.min * 256 + f.quiet * 65536 + 3 * 16777216) k
  s.wr R.PWR_CFG (m.actMax + m.stbyMax * 16)

/-- Every register that the image feeds (R73). -/
def State.loadRegs (s : State) (m : ImageContent) : State := ((s.clearRwl.loadTiming m.timing).loadEngine m).loadPeriphery m

/-- R182, R185: the banks that hold page slots, scratch banks first. The first 4 KiB of the first of them hold the credit
words. -/
def ImageContent.slotBanks (m : ImageContent) : List Nat :=
  let of (u : Nat) : List Nat := (m.banks.zipIdx.filter (fun e => e.1 == u)).map (fun e => e.2)
  of 6 ++ of 4

/-- R182: how many page slots the partition gives. -/
def ImageContent.slotsOf (m : ImageContent) : Nat := 64 * m.slotBanks.length - (if m.slotBanks.isEmpty then 0 else 1)

/-- R182: the bank and the 4 KiB block of page slot n. -/
def ImageContent.slotHome (m : ImageContent) (n : Nat) : Nat × Nat := (m.slotBanks.getD ((n + 1) / 64) 0, (n + 1) % 64)

/-- R182: the bank that holds the credit words. -/
def ImageContent.creditBank (m : ImageContent) : Option Nat := m.slotBanks.head?

/-- Ascending order by PRIO. -/
def prioInsert (t : TaskDef) : List TaskDef → List TaskDef
  | [] => [t]
  | u :: r => if t.prio ≤ u.prio then t :: u :: r else u :: prioInsert t r

/-- The tasks in ascending PRIO. -/
def ImageContent.byPrio (m : ImageContent) : List TaskDef := m.sched.tasks.foldr prioInsert []

/-- The codes of what runs, in ascending PRIO: the tasks, or the sweep. -/
def ImageContent.runOrder (m : ImageContent) : List Nat := if m.sched.sweep then [24] else m.byPrio.map TaskDef.code

/-- The pages of Q in which the image declares a bit. -/
def ImageContent.qPages (m : ImageContent) : List Nat :=
  (List.range 8).filter (fun p => m.syms.any (fun x => x.space == 3 && x.addr / 32768 == p))

/-- R185: the pages in pinning order. -/
def ImageContent.pinOrder (m : ImageContent) : List PageId :=
  m.qPages.map PageId.q ++ (List.range 32).map PageId.g ++ (List.range 64).map PageId.h
    ++ (m.runOrder.flatMap (fun t => (List.range 8).map (fun p => PageId.input t p)))
    ++ (if m.sched.sweep then [] else (m.byPrio.filter (fun t => Nat.ble 8 t.code)).flatMap (fun t =>
        (List.range (min m.sched.pfDepth t.count)).map (fun i => PageId.group (t.first + i))))

/-- The pager after LOAD: pages are pinned as far as slots allow, and 2 (PF_DEPTH + 1) slots stay for group pages. -/
def ImageContent.pager (m : ImageContent) (p : PagerSt) : PagerSt :=
  let n := m.slotsOf
  let pins := m.pinOrder.take (n - 2 * (m.sched.pfDepth + 1))
  { PagerSt.empty with
    nslots := n, slots := pins.zipIdx.map (fun e => ⟨e.1, e.2, false, true, false, false⟩), repair := p.repair, eccNs := p.eccNs }

/-- The state that LOAD builds from an accepted image (R73, R184, spec/06 R128). -/
def State.install (s : State) (m : ImageContent) : State :=
  let s := s.loadRegs m
  { s with
    img := some m
    time := { s.time with tbNs := m.timing.tbMs * 1000000, lastNs := m.timing.tbMs * 1000000, corrNs := 0 }
    sp := s.sp.mapI (fun i x => if s.isCompared i then { x with mem := m.mem, keep := m.keep (s.rd R.BT_EPOCH) s.time.count, pg := m.pager x.pg } else x)
    sess := sparseOf (fun _ => SessSt.none') (m.sessions.map (fun d => (d.n, { SessSt.none' with st := .idle })))
    queues := sparseOf (fun _ => QueueSt.none') (m.queues.map (fun d => (d.q, { QueueSt.none' with free := d.credits })))
    peers := m.peers.map (fun p => ⟨p.addr, false, none, none, 0, false, false, 0, 0⟩) }

/-- Entry to control of track from TOKEN_DEF (R405, spec/06 R128): EPOCH + 1, tokens and memories as loaded, the
restart consumed; ACTIVE-2OO2 with two compared spires. -/
def State.enterFresh (s : State) (m : ImageContent) : State :=
  let ep := (s.rd R.BT_EPOCH 0 + 1) % 65536
  let s := s.wr3 R.BT_EPOCH ep
  let s := { s with
    sp := s.sp.mapI (fun i x => if s.isCompared i then { x with mem := m.mem, keep := m.keep ep s.time.count } else x)
    txSeq := []
    mode := { s.mode with restartPending := false }
    bf := { s.bf with pos := 0, stopped := false } }
  s.setMode (if s.compared.length = 3 then .active else .active2oo2) 1

end Sys2Proof.Machine
end

