-- ==== Sys2Proof/Machine/Faults.lean ====
section
/-! DEFINITION. The meanings of the fault collector's commands (spec/17). -/

namespace Sys2Proof.Machine

/-- R386: order of the raises of one tick: severity first, then number. -/
def raiseBefore (a b : RaiseOp) : Bool :=
  let sa := raiseSev a.source a.sev3
  let sb := raiseSev b.source b.sev3
  Nat.blt sb sa || (sa == sb && Nat.ble a.source b.source)

/-- Insert a raise in that order. -/
def raiseInsert (a : RaiseOp) : List RaiseOp → List RaiseOp
  | [] => [a]
  | b :: t => if raiseBefore a b then a :: b :: t else b :: raiseInsert a t

/-- The raises of a tick in the order of R386, reserved sources dropped (R375). -/
def raiseOrder (rs : List RaiseOp) : List RaiseOp :=
  (rs.filter (fun r => (sourceDef r.source).isSome)).foldr raiseInsert []

/-- FAULT_RAISE (R381, R384, R386): the raises of one collector tick, each recorded; SIMUL when several. -/
def execFaultRaise (rs : List RaiseOp) (s : State) : Host.Outcome State Fault Refusal :=
  act s fun s =>
    let l := raiseOrder rs
    s.each l fun s r => s.raise r.source r.sev3 r.unit r.kind (Nat.blt 1 l.length) false

/-- CONDITION_END (R381). A source that only a force holds ends when the force is cleared (R387). With the condition of
CP_CAN_GROUP no group supply is failed (spec/14 R314), with that of CP_ETH_LINK every port that a session or PTP uses has its link
(spec/22 R465). -/
def execConditionEnd (source : Nat) (s : State) : Host.Outcome State Fault Refusal :=
  act s fun s =>
    if (s.src source).cond && !(s.src source).force then
      let s := if source = 98 then s.each (List.range 40) fun s ch => s.setFlag F.CAN_STATUS_GROUP_FAIL false ch else s
      let s := if source = 99 then
          s.each ((List.range 15).filter (fun p => s.sessionPort p || s.ptpCarried p)) fun s p => s.setFlag F.ETH_STATUS_LINK true p
        else s
      s.endCond source
    else s

/-- R226, R478: what the end of a comparison-minority source's quiet period (or wait) means for its spire: it enters
COPY. -/
def State.quietSpire (s : State) (k : Nat) : State :=
  if k < 72 && k % 24 == 10 && s.bf.spst.get (k / 24) == .quiet then
    { s with bf := { s.bf with
        spst := s.bf.spst.set (k / 24) .copy
        freed := s.bf.freed.set (k / 24) false
        copySeq := s.bf.copySeq.set (k / 24) none } }
  else s

/-- R478: a spire freed from its latch waits in QUIET for the quiet period of its CLEAR comparison-minority source. -/
def State.waitsFreed (s : State) (k : Nat) : Bool :=
  k < 72 && k % 24 == 10 && s.bf.spst.get (k / 24) == .quiet && s.bf.freed.get (k / 24)

/-- QUIET_EXPIRY (R381): QUIET to CLEAR, a recovery counted unless the raise was forced (R387); the window opens
when none runs. -/
def execQuietExpiry (source : Nat) (s : State) : Host.Outcome State Fault Refusal :=
  act s fun s =>
    let x := s.src source
    if x.st = .quiet then
      let s := s.advanceClockTo x.quietEnd
      let s := s.updSrc source (fun x =>
        if x.forced then { x with st := .clear, forced := false }
        else { x with
          st := .clear, recCnt := min (x.recCnt + 1) 255, winCnt := x.winCnt + 1
          winOpen := true, winEnd := if x.winOpen then x.winEnd else s.time.clockNs + s.recWin * 3600000000000 })
      s.quietSpire source
    else if s.waitsFreed source then (s.advanceClockTo x.quietEnd).quietSpire source
    else s

/-- RECOVERY_WINDOW_CLOSE (R381). -/
def execRecoveryWindowClose (source : Nat) (s : State) : Host.Outcome State Fault Refusal :=
  act s fun s =>
    let x := s.src source
    if x.winOpen then (s.advanceClockTo x.winEnd).updSrc source (fun x => { x with winOpen := false, winEnd := 0, winCnt := 0 }) else s

/-- R385: clear STICKY and GONE of a source that is CLEAR or QUIET. -/
def State.clearSticky (s : State) (k : Nat) : State :=
  s.updSrc k (fun x => if x.st = .clear ∨ x.st = .quiet then { x with sticky := false, gone := false } else x)

/-- The sources that bits set in word `w` of a 128-source register name. -/
def wordSources (w mask : Nat) : List Nat := ((List.range 32).filter (fun j => bitOf mask j)).map (fun j => 32 * w + j)

/-- No bit of a reserved source is set (R390). -/
def forceWordOk (w value : Nat) : Bool := Nat.blt w 4 && (wordSources w value).all (fun k => (sourceDef k).isSome)

/-- FC_STICKY_CLEAR (R385, R390): a W1C write to FC_STICKYw; a 1 for a reserved source refuses the write. -/
def execFcStickyClear (c : Svc) (w mask : Nat) (s : State) : Host.Outcome State Fault Refusal :=
  act s fun s => s.service c fun x s =>
    if forceWordOk w mask then (s.answer x).each (wordSources w mask) State.clearSticky
    else s.refuse x (R.FC_STICKY.key w 0)

/-- FC_CTRL.CLR_FIRST (R386). -/
def State.clearFirst (s : State) : State := { s with fc := { s.fc with first := none } }

/-- FC_CTRL.CLR_OCC (R390): OCC of every source. -/
def State.clearOcc (s : State) : State := s.each (List.range 128) fun s k => s.updSrc k (fun x => { x with occ := 0 })

/-- The effect of a value written to FC_CTRL. -/
def State.fcCtrl (s : State) (a : Nat) : State :=
  let s := if bitOf a 0 then s.clearFirst else s
  if bitOf a 1 then s.clearOcc else s

/-- FC_CTRL_CLR_FIRST (R386). -/
def execFcCtrlClrFirst (c : Svc) (s : State) : Host.Outcome State Fault Refusal := act s fun s => s.svcWrite c State.clearFirst

/-- FC_CTRL_CLR_OCC (R390). -/
def execFcCtrlClrOcc (c : Svc) (s : State) : Host.Outcome State Fault Refusal := act s fun s => s.svcWrite c State.clearOcc

/-- R387: set a force bit: a forced raise at severity 1 for a source "1 or 3"; severity 4 by the firmware in
SELFTEST changes no mode. -/
def State.setForceBit (s : State) (k : Nat) : State :=
  if (s.src k).force then s else (s.updSrc k (fun x => { x with force := true })).raise k false 0 0 false true

/-- R387: clear a force bit: the condition ends. -/
def State.clearForceBit (s : State) (k : Nat) : State :=
  if (s.src k).force then (s.updSrc k (fun x => { x with force := false })).endCond k else s

/-- The force bits of a word as they stand. -/
def State.forceWord (s : State) (w : Nat) : Nat :=
  (List.range 32).foldl (fun m j => m + if (s.src (32 * w + j)).force then 2 ^ j else 0) 0

/-- The effect of an accepted write of FC_FORCEw. -/
def State.forceWrite (s : State) (w value : Nat) : State :=
  s.each (List.range 32) fun s j => if bitOf value j then s.setForceBit (32 * w + j) else s.clearForceBit (32 * w + j)


/-- FC_FORCE_WRITE (R387): in MAINTENANCE by a maintainer session, or by the management firmware in SELFTEST. -/
def execFcForceWrite (c : FcWriter) (w value : Nat) (s : State) : Host.Outcome State Fault Refusal :=
  act s fun s =>
    match c with
    | .service c => s.svcRwm c (R.FC_FORCE.key w 0) (s.forceWord w) value (fun _ => forceWordOk w value) (fun s => s.forceWrite w value)
    | .firmware => if s.mode.cur == .selftest && forceWordOk w value then s.forceWrite w value else s

/-- R388: is a unit within its checker's range? -/
def injectUnitOk (checker unit : Nat) : Bool :=
  if checker = 0 then Nat.blt unit 24 else if checker = 5 then Nat.blt unit 3 else if checker = 6 then Nat.blt unit 4
  else if checker = 7 then Nat.blt unit 40 else if checker = 8 then Nat.ble 1 unit && Nat.blt unit 64 else true

/-- R388: may this injection be armed now? -/
def State.injectOk (s : State) (v : Nat) : Bool :=
  let ch := bits v 0 5
  Nat.blt ch 10 && Nat.blt (bits v 6 2) 3 && injectUnitOk ch (bits v 8 6)
    && !(bitOf v 31 && s.fc.inject.any (fun i => i.checker == ch))

/-- R388: arm the injection when ARM is 1; the register's reserved bits stay 0 (spec/00 R8). -/
def State.arm (s : State) (v : Nat) : State :=
  let s := s.wr R.FC_INJ (v &&& R.FC_INJ.rwm)
  if bitOf v 31 then { s with fc := { s.fc with inject := ⟨bits v 0 5, bitOf v 5, bits v 6 2, bits v 8 6⟩ :: s.fc.inject } } else s

/-- FC_INJ_WRITE (R388). -/
def execFcInjWrite (c : FcWriter) (value : Nat) (s : State) : Host.Outcome State Fault Refusal :=
  act s fun s =>
    match c with
    | .service c => s.svcRwm c R.FC_INJ.addr (s.rd R.FC_INJ) value (fun s => s.injectOk value) (fun s => s.arm value)
    | .firmware => if s.mode.cur == .selftest && s.injectOk value then s.arm value else s

/-- R388: take the armed injection of a checker, if one is armed for this unit and spire; FC_INJ.ARM then reads 0. -/
def State.takeInject (s : State) (checker unit spire : Nat) : Option Injection × State :=
  match s.fc.inject.find? (fun i => i.checker == checker && (i.unit == unit || !(checker == 0 || Nat.ble 5 checker && Nat.ble checker 8)) && (i.spire == spire || (6 ≤ checker && checker ≤ 8))) with
  | none => (none, s)
  | some i =>
    (some i, ({ s with fc := { s.fc with inject := s.fc.inject.filter (fun j => j.checker != checker) } }).setFlag F.FC_INJ_ARM false)

/-- FC_REC_CLEAR (R389): recovery counts and windows; LATCHED sources stay. -/
def execFcRecClear (c : Svc) (s : State) : Host.Outcome State Fault Refusal :=
  act s fun s => s.authorised c cmdFcRecClear 0 0 [.auditor] (fun _ => true) fun x s =>
    (s.each (List.range 128) fun s k =>
      s.updSrc k (fun x => { x with recCnt := 0, winCnt := 0, winOpen := false, winEnd := 0 })).record .fcRecClear srcService x.role.code x.port

end Sys2Proof.Machine
end

