-- ==== Sys2Proof/Machine/Recorder.lean ====
section
/-! DEFINITION. The meanings of the recorder's commands (spec/18). -/

namespace Sys2Proof.Machine

/-- FLAGS of a record (R391). -/
def Rec.flags (r : Rec) : Nat :=
  (if r.simul then 1 else 0) + (if r.forced then 2 else 0) + (if r.latch then 4 else 0) + (if r.atInvalid then 8 else 0)
    + (if r.civilInvalid then 16 else 0) + r.cls * 32

/-- The 32 bytes of a record, CRC over bytes 0 to 5 and 8 to 31 (R391). -/
def Rec.bytes (r : Rec) : List Byte :=
  let a := beBytes 2 r.code.number ++ beBytes 1 r.source ++ beBytes 1 r.flags ++ beBytes 2 r.rep
  let b := beBytes 8 r.stamp ++ beBytes 8 r.civil ++ beBytes 4 r.p1 ++ beBytes 4 r.p2
  a ++ beBytes 2 (crc16ccitt.value (a ++ b)) ++ b

/-- The 64 bytes of a change-log entry (R401). -/
def ChgEntry.bytes (e : ChgEntry) : List Byte :=
  let a := beBytes 4 e.seq ++ beBytes 1 e.role ++ beBytes 1 e.port ++ beBytes 1 e.kind ++ beBytes 1 e.spires ++ beBytes 8 e.stamp
    ++ beBytes 8 e.civil ++ beBytes 4 e.target ++ beBytes 4 e.old ++ beBytes 4 e.new ++ beBytes 4 e.opnd2 ++ List.replicate 20 0
  a ++ beBytes 4 (crc32c.value a)

/-- Word w of a byte string. -/
def wordAt (l : List Byte) (w : Nat) : Nat := beNat ((l.drop (4 * w)).take 4)

/-- R396: is a record a repeat of the one stored last? -/
def Rec.repeats (r last : Rec) : Bool :=
  decide (r.code = last.code) && r.source == last.source && r.flags == last.flags && r.p1 == last.p1 && r.p2 == last.p2

/-- R396, R398: store a record in the next slot, or count it as a repeat of the last. -/
def RecSt.put (q : RecSt) (r : Rec) : RecSt :=
  let push : RecSt := { q with
    store := (q.next, r) :: q.store.filter (fun (e : Nat × Rec) => Nat.blt e.1 4096 || Nat.blt q.next (e.1 + 1044480))
    next := q.next + 1 }
  match q.store with
  | [] => push
  | (n, l) :: t =>
    if Nat.ble 4096 n && Nat.blt l.rep 65535 && r.repeats l then { q with store := (n, { l with rep := l.rep + 1 }) :: t } else push

/-- R395, R397: one FLOOD_SUMMARY per class with discards, in class order; `kind` 0 intake, 1 alarm, 2 power loss. -/
def State.summarise (s : State) (kind : Nat) (counts : List Nat) : State :=
  s.each [0, 1, 2, 3] fun s c =>
    let n := counts.getD c 0
    if n = 0 then s else s.recordFull (.num 2) srcComms 0 false false false (kind * 256 + c) (min n 0xFFFFFFFF)

/-- R395: the summaries that are due once a queue has fallen to 512 entries. -/
def State.floodSummaries (s : State) : State :=
  let a := s.rcd.sinceIntake
  let s := if Nat.ble s.rcd.intake.length 512 && a.any (fun n => n != 0) then
      ({ s with rcd := { s.rcd with sinceIntake := [0, 0, 0, 0] } }).summarise 0 a else s
  let b := s.rcd.sinceAlarm
  if Nat.ble s.rcd.alarm.length 512 && b.any (fun n => n != 0) then
    ({ s with rcd := { s.rcd with sinceAlarm := [0, 0, 0, 0] } }).summarise 1 b else s

/-- R397: the summaries of records dropped at 13.0 V, written at the end of LOAD. -/
def State.powerSummaries (s : State) : State :=
  let a := s.rcd.sincePower
  ({ s with rcd := { s.rcd with sincePower := [0, 0, 0, 0] } }).summarise 2 a

/-- The record that the recorder stores next: during a supply warning the first of class 0 (R397). -/
def State.nextRec (s : State) : Option Rec :=
  if s.rcd.stopped then none
  else if s.pwr.warn then s.rcd.intake.find? (fun r => r.cls == 0)
  else s.rcd.intake.head?

/-- RECORD_STORE (R396, R398, R391): `ok` is the read-back. -/
def execRecordStore (ok : Bool) (s : State) : Host.Outcome State Fault Refusal :=
  act s fun s =>
    match s.nextRec with
    | none => s
    | some r =>
      let s := { s with rcd := ({ s.rcd with intake := s.rcd.intake.erase r }).put r }
      (if ok then s else s.raise 103).floodSummaries

/-- ALARM_FORWARD (R394): the oldest alarm goes to every subscription that wants its class. -/
def execAlarmForward (s : State) : Host.Outcome State Fault Refusal :=
  act s fun s =>
    match s.rcd.alarm with
    | [] => s
    | r :: t =>
      let s := s.each (s.rcd.subs.filter (fun (e : Nat × Nat) => decide (r.cls ≤ e.2))) fun s e => s.emit (.alarm e.1 r)
      ({ s with rcd := { s.rcd with alarm := t } }).floodSummaries

/-- HOLDUP_13V (R397): the intake queue is dropped and counted, the recorder stops. -/
def execHoldup13v (mv : Nat) (s : State) : Host.Outcome State Fault Refusal :=
  act s fun s =>
    let s := { s with pwr := { s.pwr with busMv := mv, busMin := min s.pwr.busMin mv } }
    if mv < 13000 && !s.rcd.stopped then
      let s := s.each s.rcd.intake fun s r =>
        ({ s with rcd := { s.rcd with sincePower := addAt s.rcd.sincePower r.cls 1 } }).bumpReg R.REC_DROP r.cls
      { s with rcd := { s.rcd with intake := [], stopped := true } }
    else s

/-- REC_CLEAR (R399). -/
def execRecClear (c : Svc) (s : State) : Host.Outcome State Fault Refusal :=
  act s fun s => s.confirmed c cmdRecClear [] [.auditor] .auditor (fun _ => true) fun _ s =>
    let gone := min (s.rcd.store.length + s.rcd.intake.length) 0xFFFFFFFF
    let drops := [0, 1, 2, 3].foldl (fun n c => n + s.rd R.REC_DROP c) 0
    let s := { s with rcd := { s.rcd with store := [], intake := [], next := 0 } }
    let s := s.recordFull (.num 1) srcComms 0 false false false gone drops
    let s := { s with rcd := s.rcd.intake.foldl RecSt.put { s.rcd with intake := [] } }
    let s := s.each [0, 1, 2, 3] fun s c => (s.wr R.REC_DROP 0 c).wr R.ALM_DROP 0 c
    let s := (s.wr R.REC_CLEAR_AT_LO s.atNow).wr R.REC_CLEAR_AT_HI (s.atNow / 2 ^ 32)
    s.bumpReg R.REC_CLEARS

/-- The words of the record window (R403). -/
def State.recWindow (s : State) (l : List Byte) : State := s.each (List.range 8) fun s w => s.wr R.REC_WIN (wordAt l w) w

/-- The window holds free words: a record whose stored bytes no longer match its CRC. -/
def State.recWindowFree (s : State) : State :=
  s.each (List.range 8) fun s w => (s.draw.2).wr R.REC_WIN s.draw.1 w

/-- R403: latch the record whose number the selector now holds; a failed CRC raises CP_RECORDER (R391). -/
def State.selectRecord (s : State) (lo : Nat) (crcOk : Bool) : State :=
  let s := s.wr R.REC_SEL_LO lo
  let n := s.rd R.REC_SEL_LO + s.rd R.REC_SEL_HI % 65536 * 2 ^ 32
  let s := s.setFlag F.REC_STATUS_SEL_READY true
  match s.rcd.store.find? (fun e => e.1 == n) with
  | none => ((s.setFlag F.REC_STATUS_SEL_VALID false).setFlag F.REC_STATUS_SEL_CRC_OK false).recWindow []
  | some e =>
    let s := (s.setFlag F.REC_STATUS_SEL_VALID true).setFlag F.REC_STATUS_SEL_CRC_OK crcOk
    if crcOk then s.recWindow e.2.bytes else s.recWindowFree.raise 103

/-- REC_SEL_WRITE (R403). -/
def execRecSelWrite (c : Svc) (lo : Nat) (crcOk : Bool) (s : State) : Host.Outcome State Fault Refusal :=
  act s fun s => s.svcWrite c fun s => s.selectRecord lo crcOk

/-- The classes that REC_DIR gives (R394, R403). -/
def dirClass (code : Nat) : Nat :=
  if code ≤ 4 then 0
  else if 0x0100 ≤ code ∧ code ≤ 0x017F then sevClass (raiseSev (code - 0x0100) false)
  else if [RecName.modeChange, .reset, .blockReset, .fcRecClear].any (fun n => (RecCode.named n).number == code) then 0
  else Config.recClass code % 4

/-- Does the running firmware write the code: the stated ones, raises of defined sources, and the firmware's own. -/
def dirDefined (code : Nat) : Bool :=
  if code = 0 then false
  else if code ≤ 4 then true
  else if 0x0100 ≤ code ∧ code ≤ 0x017F then (sourceDef (code - 0x0100)).isSome
  else if 0x0C00 ≤ code ∧ code ≤ 0xEFFF then false
  else Config.recDefined code

/-- R403: the directory entry of a record code. -/
def State.selectCode (s : State) (code : Nat) : State :=
  let k := code % 65536
  let s := s.wr R.REC_DIRSEL k
  if dirDefined k then s.wr R.REC_DIR (1 + dirClass k * 2 + Config.recLayout k % 256 * 256) else s.wr R.REC_DIR 0

/-- REC_DIRSEL_WRITE (R403). -/
def execRecDirselWrite (c : Svc) (code : Nat) (s : State) : Host.Outcome State Fault Refusal :=
  act s fun s => s.svcWrite c fun s => s.selectCode code

/-- R403: the change-log entry of that SEQ. -/
def State.selectEntry (s : State) (seq : Nat) : State :=
  let s := s.wr R.CL_SEL seq
  let l := match s.chg.find? (fun e => e.seq == seq % 2 ^ 32) with | some e => e.bytes | none => []
  s.each (List.range 16) fun s w => s.wr R.CL_WIN (wordAt l w) w

/-- CL_SEL_WRITE (R403). -/
def execClSelWrite (c : Svc) (seq : Nat) (s : State) : Host.Outcome State Fault Refusal :=
  act s fun s => s.svcWrite c fun s => s.selectEntry seq

/-- ALARM_SUBSCRIBE (R394). -/
def execAlarmSubscribe (c : Svc) (prio : Nat) (s : State) : Host.Outcome State Fault Refusal :=
  act s fun s => s.service c fun x s =>
    if prio < 4 then
      ({ s with rcd := { s.rcd with subs := (x.sid, prio) :: s.rcd.subs.filter (fun (e : Nat × Nat) => e.1 != x.sid) } }).answer x
    else s.refuse x prio

end Sys2Proof.Machine
end

