-- ==== Sys2Proof/Machine/Modes.lean ====
section
/-! DEFINITION. The meanings of the mode commands, resets, measured start, self-test and the end of INTEGRATE
(spec/19 R404 to R413, spec/11 R236, spec/20 R424 to R434). -/

namespace Sys2Proof.Machine

/-! ### The end of INTEGRATE -/

/-- R235: the pair is formed: a valid quote of the partner within the last 600 s. -/
def State.pairFormed (s : State) : Bool :=
  match s.pair.quoteNs with | some t => decide (s.time.clockNs ≤ t + 600000000000) | none => false

/-- R236: the partner's frames come and show that it is active. -/
def State.partnerActive (s : State) : Bool :=
  decide (s.pair.missRounds < 2) && (s.pair.partner.mode == 7 || s.pair.partner.mode == 8)

/-- spec/00 R2: every node heard on a ring carries bench flag 1. -/
def RingSt.benchOnly (r : RingSt) : Bool :=
  (r.heard ++ r.heardPrev).all (fun a => r.nodes.any (fun (n : NodeSt) => n.addr == a && n.bench))

/-- spec/00 R2, R3: an HDT3-B may control track only on rings whose every module carries bench flag 1, and not while the
module that stopped it is on the ring. -/
def State.benchOk (s : State) : Bool :=
  !s.mode.benchBlock && (!s.flag F.HW_ID_BENCH || (s.ring.benchOnly && s.ringB.benchOnly))

/-- R408, R3: a pending restart that the bench rules do not withhold. -/
def State.mayRestart (s : State) : Bool := s.mode.restartPending && s.benchOk

/-- R3: a member may take over: the bench rules allow it, and a module that they stopped has had its authorised restart. -/
def State.mayTakeOver (s : State) : Bool := s.benchOk && !s.mode.benchWait

/-- PENDING is consumed (R408); where R3 allows the module to control track, the restart that it asks for has been given. -/
def State.consumeRestart (s : State) : State :=
  { s with mode := { s.mode with restartPending := false, restartUntil := 0, benchWait := s.mode.benchWait && !s.mayRestart } }

/-- R236, R245: enter SHADOW and request the initial copy. -/
def State.enterShadow (s : State) : State :=
  let s := s.consumeRestart
  ({ s with pair := { s.pair with copyReq := true, chunks := [], buffered := [], copy := [], snapSeq := 0 } }).setMode .shadow 7


/-- The end of INTEGRATE (R405, R236): AT valid, ring SYNC, admitted, no trial (R444). `both`: the partner in
INTEGRATE receives the authorised restart in the same round. -/
def State.leaveIntegrate (s : State) (both : Bool) : State :=
  if s.mode.cur = .integrate && s.time.atValid && decide (s.ring.st = .sync) && s.ring.admitted && !s.trial then
    match s.img with
    | none => s
    | some m =>
      match m.pair with
      | none => if s.mayRestart then s.consumeRestart.enterFresh m else s
      | some _ =>
        if s.partnerActive then
          if s.pairFormed then s.enterShadow
          else (s.consumeRestart.event .pairRefused srcModule 5).safeHalt 7
        else if s.mayRestart then
          if both && !s.flag F.PAIR_STATUS_LOWER then s.enterShadow else s.consumeRestart.enterFresh m
        else s
  else s

/-! ### Mode commands (R407, R408) -/

/-- The modes that MODE_HALT accepts. -/
def Mode.haltable : Mode → Bool
  | .integrate | .shadow | .standby | .active | .active2oo2 => true
  | _ => false

/-- MODE_HALT (R405, R407). -/
def execModeHalt (c : Svc) (s : State) : Host.Outcome State Fault Refusal :=
  act s fun s => s.authorised c 0x0201 0 0 [.maintainer] (fun s => s.mode.cur.haltable) fun _ s => s.safeHalt 1

/-- R408: the confirmed restart: PENDING for 600 s, and from SAFE-HALT the MRST. -/
def State.restart (s : State) (both : Bool) : State :=
  let s := { s with mode := { s.mode with restartPending := true, restartUntil := s.time.clockNs + 600000000000 } }
  if s.mode.cur = .safeHalt then s.mrst .restart else s.leaveIntegrate both

/-- MODE_RESTART (R407, R408). -/
def execModeRestart (c : Svc) (partnerToo : Bool) (s : State) : Host.Outcome State Fault Refusal :=
  act s fun s => s.confirmed c 0x0202 [] [.maintainer] .maintainer
    (fun s => s.mode.cur == .integrate || s.mode.cur == .safeHalt) fun _ s => s.restart partnerToo

/-- RESTART_EXPIRED (R408). -/
def execRestartExpired (s : State) : Host.Outcome State Fault Refusal :=
  act s fun s =>
    if s.mode.restartPending then
      let s := s.advanceClockTo s.mode.restartUntil
      { s with mode := { s.mode with restartPending := false, restartUntil := 0 } }.event .restartExpired srcModule
    else s

/-- MAINT_ENTER (R405, R407). -/
def execMaintEnter (c : Svc) (s : State) : Host.Outcome State Fault Refusal :=
  act s fun s => s.authorised c 0x0203 0 0 [.maintainer] (fun s => s.mode.cur == .safeHalt) fun _ s => s.setMode .maintenance 1

/-- R373: lifting a wire-break suppression raises IO_WIRE_BREAK when the input is still in wire break. -/
def State.raiseUnsuppressed (s : State) (was : State) : State :=
  let n := was.fld F.IO_OVR_IN
  if was.flag F.IO_OVR_IN_EN && !s.flag F.IO_OVR_IN_EN && (s.io.inputs.getD n InSt.idle).wb then s.raise 112 false n 0 else s

/-- MAINT_EXIT (R405): the lifts, recorded, and SAFE-HALT. -/
def execMaintExit (c : Svc) (s : State) : Host.Outcome State Fault Refusal :=
  act s fun s => s.authorised c 0x0204 0 0 [.maintainer] (fun s => s.mode.cur == .maintenance) fun _ s =>
    (s.safeHalt 1).raiseUnsuppressed s

/-- UPDATE_ENTER (R405): from SAFE-HALT or MAINTENANCE; leaving MAINTENANCE lifts as R101, R373 and R387 say. -/
def execUpdateEnter (c : Svc) (s : State) : Host.Outcome State Fault Refusal :=
  act s fun s => s.authorised c 0x0205 0 0 [.engineer] (fun s => s.mode.cur == .safeHalt || s.mode.cur == .maintenance) fun _ s =>
    if s.mode.cur = .maintenance then
      (((((s.stopTasks).liftForces true).liftOverrides).liftForceBits).setMode .update 1).raiseUnsuppressed s
    else s.setMode .update 1

/-- UPDATE_EXIT (R405). -/
def execUpdateExit (c : Svc) (s : State) : Host.Outcome State Fault Refusal :=
  act s fun s => s.authorised c 0x0206 0 0 [.engineer] (fun s => s.mode.cur == .update) fun _ s => s.safeHalt 1

/-- MODULE_RESET (R407). -/
def execModuleReset (c : Svc) (s : State) : Host.Outcome State Fault Refusal :=
  act s fun s => s.authorised c 0x0207 0 0 [.engineer, .maintainer] (fun s => !s.mode.cur.track) fun _ s => s.mrst .command

/-! ### Resets -/

/-- spec/01 R26: a feed as its over-voltage switch finds it after POR: disconnected above 36 V. -/
def FeedSt.atPor (mv : Nat) : FeedSt := ⟨mv, decide (mv ≤ 36000)⟩

/-- A feed as R420 counts it: a disconnected one counts as below 16.0 V (spec/01 R26). -/
def FeedSt.level (f : FeedSt) : Nat := if f.connected then f.mv else 0

/-- spec/01 R26: the feed that carries the whole load: the higher of those connected (0 PWR_A, 1 PWR_B); none where the module
runs on hold-up. At equal voltages the rule names neither, and this says PWR_A (DESIGN CHOICE, log entry 105). -/
def PwrSt.loadFeed (p : PwrSt) : Option Nat :=
  if p.feedA.connected && Nat.ble p.feedB.level p.feedA.level then some 0 else if p.feedB.connected then some 1 else none

/-- R420: POR is released by a hold-up bus of at least 20.0 V and one connected feed of at least 16.8 V. -/
def PorOp.released (p : PorOp) : Bool :=
  Nat.ble 20000 p.busMv && (Nat.ble 16800 (FeedSt.atPor p.aMv).level || Nat.ble 16800 (FeedSt.atPor p.bMv).level)

/-- R410, R413: the state after POR: `State.reset` with what is non-volatile. -/
def State.porBody (s : State) (p : PorOp) : State :=
  let k := s.keepRegs (fun _ r => match r with | .n => true | _ => false)
  { State.reset with
    pending := s.pending
    out := s.out
    free := s.free
    regs := k.regs
    time := { State.reset.time with mark := s.time.mark, clockNs := s.time.clockNs, cycleNs := s.time.clockNs, resetNs := s.time.clockNs }
    fc := s.fc.reset true
    rcd := { s.rcd with subs := [], alarm := [] }
    chg := s.chg
    chgNext := s.chgNext
    pwr := { s.pwr with
      feedA := FeedSt.atPor p.aMv, feedB := FeedSt.atPor p.bMv, busMv := p.busMv, busMin := p.busMv
      warn := false, warnSince := 0, strap := p.strap % 512, porHeld := !p.released, lampTest := true
      wakeAt := Three.all none, deferRows := [] }
    sp := (s.sp.mapI (fun x g => { Spire.idle with pg := { PagerSt.empty with
      repair := g.pg.repair.filter (fun e => !s.pwr.deferRows.contains (x, e.1, e.2)) } }))
    bf := { BfSt.idle with spst := (s.bf.spst.mapI (fun x st =>
        if st = .latched then .latched else if p.silent.contains x then .selftest else .compared)) }
    att := { s.att with queue := [], latch := none, ringOut := [], comms := none, ioPlane := none }
    upd := { s.upd with olNext := Three.all 0, olFlash := Three.all [], olHeader := none, staged := none, target := none }
    settings := s.settings
    fwVersion := s.fwVersion }

/-- R436: the copy that the power failure left invalid gives way to the other one. -/
def State.tearBoot (s : State) (torn : List Nat) : State :=
  { s with upd := { s.upd with
      boot := s.upd.boot.mapI (fun x b => if torn.contains x then (s.upd.bootAlt.get x).getD b else b)
      bootAlt := s.upd.bootAlt.mapI (fun x b => if torn.contains x then none else b) } }

/-- POWER_ON_RESET (R410, R411, R420, R437). The queues of the recorder are emptied (R397). -/
def execPowerOnReset (p : PorOp) (s : State) : Host.Outcome State Fault Refusal :=
  if 60000 < p.aMv ∨ 60000 < p.bMv then .fault (.beyondRatings "PWR_A, PWR_B")
  else act s fun s =>
    let s := { s with rcd := { s.rcd with intake := [], alarm := [], stopped := false }, pwr := { s.pwr with warn := false } }
    let s := (((s.liftForces false).liftOverrides).liftForceBits).liftBlocks
    let s := (s.porBody p).tearBoot p.torn
    let s := (s.wr R.RST_CAUSE (1 + if p.holdup then 2 else 0)).bump F.RST_CNT_POR
    let s := s.readStrap.record .reset srcModule (1 + if p.holdup then 2 else 0) (s.time.mark % 2 ^ 32)
    (s.governBoot p.silent).bootTrial

/-- RESET_N (R412): ignored below 100 µs, a reset from 1 ms, either in between. -/
def execResetN (lowUs : Nat) (s : State) : Host.Outcome State Fault Refusal :=
  act s fun s =>
    let s := s.advanceNs (lowUs * 1000)
    if lowUs < 100 then s
    else if 1000 ≤ lowUs then s.mrst .pin
    else
      let d := s.draw
      if d.1 % 2 = 1 then d.2.mrst .pin else d.2

/-- The effect of a value written to RST_CMD (R410): a block reset; the forces' block waits for the finial barrier of a
running task. -/
def State.rstSet (s : State) (value : Nat) : State :=
  let b := value % 256
  let s := s.setFld F.RST_CMD_BLOCK b
  if b = 0x60 && s.sched.cur != 31 then s.setFlag F.RST_CMD_BUSY true
  else s.brst b

/-- RST_CMD_WRITE (R410, R411). -/
def execRstCmdWrite (c : Svc) (value : Nat) (s : State) : Host.Outcome State Fault Refusal :=
  act s fun s => s.svcRwm c R.RST_CMD.addr (s.rd R.RST_CMD) value (fun s => brstBlock (value % 256) && roOk R.RST_CMD.addr (s.word R.RST_CMD.addr) value) fun s => s.rstSet value

/-! ### Measured start (spec/20) -/

/-- The tallies that measured start measures, in order (R425). -/
def startTallies : List Nat := [1, 2, 3, 4, 5, 7]

/-- Tally t of spire x as a 256-bit number. -/
def State.tally (s : State) (x t : Nat) : Nat :=
  (List.range 8).foldl (fun n w => n * 2 ^ 32 + s.rd R.TALLY (8 * (t - 1) + w) x) 0

/-- The field that counts the extensions of tally t. -/
def extField (t : Nat) : Field := ⟨R.ATT_EXT, 4 * (t - 1), 4⟩

/-- R424: measure digest `d` into tally t of spire x. -/
def State.measure (s : State) (x t d : Nat) : State :=
  let n := (Config.sha256 (beBytes 32 (s.tally x t) ++ beBytes 32 d)).toNat
  let s := s.each (List.range 8) fun s w => s.wr R.TALLY (n / 2 ^ (32 * (7 - w))) (8 * (t - 1) + w) x
  (s.bump (extField t) x).setFld F.ATT_STATUS_STAGE t x

/-- R425: the digest of a stage that the manifest of the active firmware set lists. -/
def State.listedDigest (s : State) (t : Nat) : Nat :=
  let b := s.upd.boot.a.set % 2
  match (if b = 0 then s.upd.listed.1 else s.upd.listed.2) with
  | some l => l.getD (t - 1) 0
  | none => (Config.delivered b t).toNat

/-- R425: the tally of the first stage whose digest is not the one that the manifest lists; 0 where none fails. -/
def State.failStage (s : State) (p : SpireStart) : Nat :=
  ([1, 2, 3, 4, 5].find? (fun t => p.digests.getD (t - 1) 0 != s.listedDigest t)).getD 0

/-- The stages that a spire measures: those up to the one that fails (R425). -/
def State.stages (s : State) (p : SpireStart) : List (Nat × Nat) :=
  let l := startTallies.zip p.digests
  if s.failStage p = 0 then l else l.take (s.failStage p)

/-- R425: a spire ends measured start unless a stage fails. -/
def State.startEnds (s : State) (p : SpireStart) : Bool := p.ended && s.failStage p == 0

/-- R434: an entry of the attestation history. -/
def State.history (s : State) (x : Nat) : State :=
  let l := (List.range 8).flatMap (fun t => beBytes 32 (s.tally x (t + 1)))
  let e : HistEntry := ⟨(Config.sha256 l).toNat, s.atNow / 65536, s.fld F.ATT_STATUS_STAGE x, s.rd R.RST_CAUSE % 256⟩
  { s with att := { s.att with hist := s.att.hist.upd x (fun h => (e :: h).take 64) } }

/-- R425, R434: measured start of spire x. -/
def State.measuredStart (s : State) (x : Nat) (p : SpireStart) : State :=
  let was := s.flag F.ATT_STATUS_DONE x
  let fail := s.failStage p
  let ends := s.startEnds p
  let s := s.each ((s.stages p).filter (fun (e : Nat × Nat) => s.fld (extField e.1) x == 0)) fun s e => s.measure x e.1 e.2
  let s := s.setFlag F.ATT_STATUS_DONE ends x
  let s := (s.setFlag F.ATT_STATUS_FAIL (fail != 0) x).setFld F.ATT_STATUS_FAIL_STAGE fail x
  let s := s.setFlag F.ATT_STATUS_KEY_OK p.keyOk x
  if ends && !was then s.history x else s

/-- R427: the digests that are compared. -/
def State.startDigests (s : State) (x : Nat) : List Nat := startTallies.map (fun t => s.tally x t)

/-- R427: the spire whose tallies differ from those of two others that agree. -/
def State.tallyMinority (s : State) (xs : List Nat) : Option Nat :=
  xs.find? (fun x =>
    let others := xs.filter (fun y => y != x)
    Nat.ble 2 others.length && others.all (fun y => s.startDigests y == s.startDigests (others.headD 0)) && s.startDigests x != s.startDigests (others.headD 0))

/-- R447: carry out one change of the descriptor. -/
def State.applyChange (s : State) (ch : SettingChange) : State :=
  match ch with
  | .imageKey slot st key =>
    let f : Field := ⟨R.IMGKEY_STATE, 2 * slot, 2⟩
    ({ s with settings := { s.settings with imageKeys := s.settings.imageKeys.set slot key } }).setFld f st
  | .manifestAdd addr id => { s with settings := { s.settings with manifest := (addr, id) :: s.settings.manifest } }
  | .manifestSet addr old new => { s with settings := { s.settings with manifest := (addr, new) :: s.settings.manifest.erase (addr, old) } }
  | .manifestDrop addr id => { s with settings := { s.settings with manifest := s.settings.manifest.erase (addr, id) } }
  | .ip4 port a => { s with settings := { s.settings with ip4 := s.settings.ip4.set port a } }
  | .ip6 port a => { s with settings := { s.settings with ip6 := s.settings.ip6.set port a } }
  | .caKey key => { s with settings := { s.settings with caKey := key } }
  | .verifier role v => { s with settings := { s.settings with verifiers := s.settings.verifiers.set (role.code - 1) v } }
  | .other name v => { s with settings := { s.settings with other := (name, v) :: s.settings.other.filter (fun (e : Nat × Nat) => e.1 != name) } }

/-- R444, R447: migrate the settings at a trial boot with MIGRATED 0; a failed step reverts. -/
def State.migrate (s : State) (fail : Option Nat) : State :=
  if s.trial && !s.upd.boot.a.migrated then
    match fail with
    | some step => (s.record .updMigrationFail srcModule step s.settings.format).revert 3
    | none =>
      let old := (s.settings, s.rd R.IMGKEY_STATE)
      let s := match s.upd.desc with
        | none => s
        | some d => ({ s with settings := { s.settings with format := d.writes } }).each d.changes State.applyChange
      ({ s with upd := { s.upd with oldSettings := some old } }).writeBoot (fun b => { b with migrated := true })
  else s

/-- A digest that at least two of some have. -/
def twoAlike (l : List Nat) : Option Nat := l.find? (fun d => Nat.ble 2 (l.filter (fun e => e == d)).length)

/-- R426: the comms plane and the I/O plane load the copy that at least two spires have measured to equal digests. -/
def State.loadPlanes (s : State) (m : MeasuredStart) (xs : List Nat) : State :=
  let d (t : Nat) : List Nat := (xs.filter (fun x => s.fld (extField t) x != 0)).map (fun x => (m.spires.get x).digests.getD (t - 1) 0)
  { s with att := { s.att with comms := s.att.comms <|> twoAlike (d 4), ioPlane := s.att.ioPlane <|> twoAlike (d 5) } }

/-- The stages of measured start over the three spires; a spire that sent no pointer record takes no part. -/
def State.measureAll (s : State) (m : MeasuredStart) : State :=
  let xs := threeIdx (fun x => s.bf.spst.get x != .selftest)
  let s := (s.each xs fun s x => s.measuredStart x (m.spires.get x)).loadPlanes m xs
  match s.tallyMinority (threeIdx (fun x => s.flag F.ATT_STATUS_DONE x)) with
  | some x => s.raise (24 * x + 13) true
  | none => s

/-- How many spires have ended measured start. -/
def State.ended (s : State) : Nat := (threeIdx (fun x => s.flag F.ATT_STATUS_DONE x)).length

/-- R445: did a spire fail measured start, or raise SP_TALLY? -/
def State.startFailed (s : State) (m : MeasuredStart) : Bool :=
  [0, 1, 2].any (fun x => s.failStage (m.spires.get x) != 0 || (s.src (24 * x + 13)).cond)

/-- The loader's part of a boot: the migration; none when it fails and the module reverts. -/
def State.bootMigrate (s : State) (m : MeasuredStart) : Option State :=
  if s.trial && !s.upd.boot.a.migrated && m.migFail.isSome then none else some (s.migrate none)

/-- spec/21 *Update stages*: a verification that a reset interrupted starts again at the end of BOOT; here its wait for the
auditor's repetition does. -/
def State.restartVerify (s : State) : State :=
  if s.upd.stage = .verifying then
    { s with svc := { s.svc with confirms := [⟨0x0304, [], s.time.clockNs + 60000000000⟩] } }
  else s

/-- MEASURED_START_END (R405, R425, R427): the module leaves BOOT for SELFTEST with two spires or more. -/
def execMeasuredStartEnd (m : MeasuredStart) (s : State) : Host.Outcome State Fault Refusal :=
  act s fun s =>
    if s.mode.cur = .boot && !s.pwr.porHeld then
      match s.bootMigrate m with
      | none => s.migrate m.migFail
      | some s =>
        let s := s.measureAll m
        if s.trial && s.startFailed m then s.revert 4
        else if Nat.ble 2 s.ended then (s.restartVerify).setMode .selftest 0 else s
    else s

/-- BOOT_TIMEOUT (R405): 3 s have passed. -/
def execBootTimeout (m : MeasuredStart) (s : State) : Host.Outcome State Fault Refusal :=
  act s fun s =>
    if s.mode.cur = .boot && !s.pwr.porHeld then
      match s.bootMigrate m with
      | none => s.migrate m.migFail
      | some s =>
        let s := s.measureAll m
        if s.trial && (s.startFailed m || Nat.blt s.ended 3) then s.revert 4
        else if Nat.ble 2 s.ended then (s.restartVerify).setMode .selftest 0 else s.safeHalt 0
    else s

/-! ### SELFTEST (R405, R200, R232, R233) -/

/-- R202: the spare rows in use in a bank. -/
def PagerSt.sparesOf (g : PagerSt) (bank : Nat) : Nat := (g.repair.filter (fun e => e.1 == bank)).length

/-- R200, R202: a faulty row of spire x is mapped to a spare; a bank that would need more than 8 is faulty. A row that
stands in a spare already stays there (DESIGN CHOICE, log entry 117). During a supply warning the write of the map in flash is
deferred (spec/19 R421). -/
def State.mapRow (s : State) (x bank row : Nat) : State :=
  let g := (s.sp.get x).pg
  if g.repair.contains (bank, row) then s
  else if g.sparesOf bank < 8 then
    let s := if s.pwr.warn then { s with pwr := { s.pwr with deferRows := (x, bank, row) :: s.pwr.deferRows } } else s
    { s with sp := s.sp.upd x (fun p => { p with pg := { p.pg with repair := p.pg.repair ++ [(bank, row)] } }) }
  else s.setFlag F.BANK_STAT_FAULTY true bank x

/-- The faulty rows that a test over every bank of spire x found (R200). -/
def State.mapRows (s : State) (x : Nat) (l : List (Nat × Nat)) : State := s.each l fun s e => s.mapRow x e.1 e.2

/-- A bank of spire x is faulty. -/
def State.bankFaulty (s : State) (x : Nat) : Bool := (List.range 24).any (fun b => s.flag F.BANK_STAT_FAULTY b x)

/-- R233: the result of the injection test in every slice. -/
def State.injectResult (s : State) (t : SelftestOp) : State :=
  let s := s.bfWr R.BF_INJ (1 + if t.injectOk then 0 else t.injFail % 8 * 2 + t.injGroup % 16 * 16 + t.injPattern % 512 * 65536)
  { s with bf := { s.bf with injectFailed := !t.injectOk } }

/-- R233: a failed injection test: BF_INJECT_FAIL and source 77. -/
def State.injectFail (s : State) (t : SelftestOp) : State :=
  if t.injectOk then s
  else (s.record .bfInjectFail srcBelfry (t.injFail % 8 * 256 + t.injGroup) t.injPattern).raise 77 false (t.injFail % 8) t.injGroup

/-- R420: the hold-up time, at most 16 bits of ms; PW_HOLDUP below 20 ms. -/
def State.holdupResult (s : State) (ms : Nat) : State :=
  let s := s.setFld F.SUP_HOLDUP_TEST_MS (min ms 65535)
  if ms < 20 then s.raise 108 else if (s.src 108).cond then s.endCond 108 else s

/-- R383, R405: a severity-4 source stands LATCHED. -/
def State.severeLatch (s : State) : Bool := (List.range 128).any (fun k => s.latchedSev4 k)

/-- Spires that failed SELFTEST stay out with SP_SELFTEST (R405); a spire with a faulty bank has failed it (R200). -/
def State.selftestSpires (s : State) (t : SelftestOp) : State :=
  s.each (threeIdx (fun x => s.bf.spst.get x != .latched
      && (!t.passed.get x || s.bankFaulty x || !s.flag F.ATT_STATUS_DONE x || s.bf.spst.get x != .compared)))
    fun s x => s.raise (24 * x + 11) true

/-- What the tests of SELFTEST showed (R200, R233, R420): faulty rows mapped, the injection test's result, the hold-up time. -/
def State.selftestShown (s : State) (t : SelftestOp) : State :=
  let s := s.each [0, 1, 2] fun s x => s.mapRows x (t.rows.get x)
  (s.injectResult t).holdupResult t.holdupMs

/-- Every spire has passed SELFTEST. -/
def State.allPassed (s : State) (t : SelftestOp) : Bool := [0, 1, 2].all (fun x => t.passed.get x && !s.bankFaulty x)

/-- SELFTEST_END (R405). -/
def execSelftestEnd (t : SelftestOp) (s : State) : Host.Outcome State Fault Refusal :=
  act s fun s =>
    if s.mode.cur = .selftest then
      let s := s.selftestShown t
      if s.trial && !s.allPassed t then (s.selftestSpires t).revert 4
      else
        let s := (s.injectFail t).selftestSpires t
        if s.mode.cur != .selftest then s
        else if s.severeLatch then s.isolated 3
        else if !t.injectOk || Nat.blt s.compared.length 2 then s.safeHalt 12
        else s.setMode .load 0
    else s

end Sys2Proof.Machine
end

