-- ==== Sys2Proof/Machine/Flags.lean ====
section
/-! DEFINITION. The computations on ACC and WACC (spec/04 R85 to R94): the bit a lane's ACC becomes, saturation and
the orders of the word instructions, and the timer transitions. -/

namespace Sys2Proof.Machine

/-! ### Lane masks (R77) -/

/-- Is lane j in a mask? -/
def laneIn (m : BitVec 8) (j : Nat) : Bool := m.getLsbD j

/-- A mask with lane j set to b. -/
def setLane (m : BitVec 8) (j : Nat) (b : Bool) : BitVec 8 :=
  if b then m ||| BitVec.ofNat 8 (2 ^ j) else m &&& ~~~(BitVec.ofNat 8 (2 ^ j))

/-- The lanes of a mask in ascending order. -/
def lanesOf (m : BitVec 8) : List Nat := (List.range 8).filter (laneIn m)

/-! ### Saturation and order (R89) -/

/-- An exact unsigned result cut to the range, and whether it saturated. -/
def satUnsigned (r : Int) : Word × Bool :=
  if r < 0 then (0, true) else if 4294967295 < r then (4294967295, true) else (BitVec.ofInt 32 r, false)

/-- An exact signed result cut to the range, and whether it saturated. -/
def satSigned (r : Int) : Word × Bool :=
  if r < -2147483648 then (BitVec.ofInt 32 (-2147483648), true)
  else if 2147483647 < r then (2147483647, true) else (BitVec.ofInt 32 r, false)

/-- The value of a word in the order that S selects. -/
def wordVal (signed : Bool) (w : Word) : Int := if signed then w.toInt else (w.toNat : Int)

/-- WADD. -/
def wadd (signed : Bool) (a b : Word) : Word × Bool :=
  if signed then satSigned (a.toInt + b.toInt) else satUnsigned ((a.toNat : Int) + b.toNat)

/-- WSUB. -/
def wsub (signed : Bool) (a b : Word) : Word × Bool :=
  if signed then satSigned (a.toInt - b.toInt) else satUnsigned ((a.toNat : Int) - b.toNat)

/-- WCMP. -/
def wcmp (signed equal : Bool) (a b : Word) : Bool :=
  if equal then a == b else decide (wordVal signed b ≤ wordVal signed a)

/-- WMIN and WMAX. -/
def wmin (signed : Bool) (a b : Word) : Word := if wordVal signed b < wordVal signed a then b else a
def wmax (signed : Bool) (a b : Word) : Word := if wordVal signed a < wordVal signed b then b else a

/-! ### Timers (R90 to R94) -/

/-- The fields of a timer word. -/
def timerRun (w : Word) : Bool := w.getLsbD 31
def timerDone (w : Word) : Bool := w.getLsbD 30
def timerExp (w : Word) : Nat := w.toNat % 2 ^ 30

/-- A timer word. -/
def timerWord (run done : Bool) (exp : Nat) : Word :=
  BitVec.ofNat 32 ((if run then 2 ^ 31 else 0) + (if done then 2 ^ 30 else 0) + exp % 2 ^ 30)

/-- R91: expired. -/
def timerExpired (now : Nat) (w : Word) : Bool := decide ((now + 2 ^ 30 - timerExp w) % 2 ^ 30 < 2 ^ 29)

/-- R94: the remaining ticks. -/
def timerLeft (now : Nat) (w : Word) : Nat :=
  if timerRun w && !timerExpired now w then (timerExp w + 2 ^ 30 - now % 2 ^ 30) % 2 ^ 30 else 0

/-- The greatest preset (R92). -/
def presetMax : Nat := 268435455

/-- What a timer instruction makes of a word: the new word, and whether a start was refused for its preset (R92);
none for a (RUN, DONE) that the kind's table does not list, for which the spec states no result. -/
abbrev TimerRes := Option (Word × Bool)

/-- The result of a start with a preset above 0: RUN with the given output bit, unless the preset is out of range. -/
def timerStart (now preset : Nat) (done : Bool) : TimerRes :=
  if presetMax < preset then some (0, true) else some (timerWord true done (now + preset), false)

/-- TON. -/
def ton (now preset : Nat) (inp : Bool) (w : Word) : TimerRes :=
  if !inp then some (0, false)
  else match timerRun w, timerDone w with
  | false, false => if preset = 0 then some (timerWord false true (timerExp w), false) else timerStart now preset false
  | true, false => if timerExpired now w then some (timerWord false true (timerExp w), false) else some (w, false)
  | false, true => some (w, false)
  | true, true => none

/-- TOF. -/
def tof (now preset : Nat) (inp : Bool) (w : Word) : TimerRes :=
  if inp then some (timerWord false true 0, false)
  else match timerRun w, timerDone w with
  | false, true => if preset = 0 then some (0, false) else timerStart now preset true
  | true, true => if timerExpired now w then some (0, false) else some (w, false)
  | false, false => some (w, false)
  | true, false => none

/-- TPL. -/
def tpl (now preset : Nat) (inp : Bool) (w : Word) : TimerRes :=
  match timerRun w, timerDone w with
  | false, false =>
    if !inp then some (w, false)
    else if preset = 0 then some (timerWord true false (timerExp w), false) else timerStart now preset true
  | true, true =>
    if timerExpired now w then (if inp then some (timerWord true false 0, false) else some (0, false)) else some (w, false)
  | true, false => if inp then some (w, false) else some (timerWord false false (timerExp w), false)
  | false, true => none

end Sys2Proof.Machine
end

