-- ==== Sys2Proof/Machine/KeepOps.lean ====
section
/-! DEFINITION. The operations of one spire's token keep (spec/06 R126 to R145): tokens, transactions, the claim
algorithm, release, the records an operation produces and the audit. -/

namespace Sys2Proof.Machine

/-- What a keep operation reads beside the keep: the image, the effective matrix, the module's own address in
boundary records (R155), COUNT and AT, and the admitted peers. -/
structure KCtx where
  img : ImageContent
  matrix : Nat
  own : Nat
  count : Nat
  stamp : Nat
  admitted : List Nat
deriving DecidableEq, Repr

/-- The context of the present moment. -/
def State.kctx (s : State) : KCtx :=
  let m := s.content
  ⟨m, m.matrix, m.pairAddr, s.time.count, s.atNow, (s.peers.filter PeerSt.admitted).map PeerSt.addr⟩

/-! ### Tokens -/

/-- Token k. -/
def KeepSt.token (p : KeepSt) (k : Nat) : Token := p.tokens.getD k Token.zero

/-- Write token k: GEN increments and CRC is recomputed (R126, R127). -/
def KeepSt.putToken (p : KeepSt) (k : Nat) (t : Token) : KeepSt :=
  { p with tokens := p.tokens.set k ({ t with gen := (t.gen + 1) % 65536 }).seal }

/-- R127: a read that finds a CRC mismatch, a reserved STATE or a reserved CLASS. -/
def Token.bad (t : Token) : Bool := t.crc != t.crcOf || Nat.ble 8 t.st || Nat.ble 6 t.cls

/-- The owning states FREE, HELD, SHARED, BLOCKED. -/
def Token.owning (t : Token) : Bool := Nat.blt t.st 4

/-- ROUTE and MAINT are exclusive. -/
def exclusive (c : Nat) : Bool := c == 1 || c == 5

/-- The lowest class code in a share set; 0 when empty. -/
def lowestClass (set : Nat) : Nat := ((List.range 5).find? (bitOf set)).elim 0 (fun j => j + 1)

/-- R130: the class may join every class in the share set. -/
def KCtx.compatible (x : KCtx) (c set : Nat) : Bool :=
  (List.range 5).all (fun j => !bitOf set j || bitOf x.matrix (5 * (c - 1) + j))

/-- The answer of a check on one token. -/
inductive KChk where
  | pass
  | refuse (code : Nat)
  | bad
deriving DecidableEq, Repr

/-- R137, check phase, for one entry. -/
def KCtx.claimCheck (x : KCtx) (p : KeepSt) (k c : Nat) : KChk :=
  let t := p.token k
  if t.bad then .bad
  else if t.st = 3 then .refuse 4
  else if 4 ≤ t.st || t.recon || t.holder == 0xFFFE then .refuse 3
  else if t.st = 1 then .refuse 1
  else if t.st = 2 then
    if exclusive c then .refuse 2
    else if !x.compatible c t.shareSet then .refuse 2
    else if t.shareCnt = 255 then .refuse 1
    else .pass
  else .pass

/-- The first answer that is not `pass`. -/
def KCtx.claimChecks (x : KCtx) (p : KeepSt) : List (Nat × Nat) → KChk
  | [] => .pass
  | e :: l => match x.claimCheck p e.1 e.2 with | .pass => x.claimChecks p l | r => r

/-- R137, swap phase, for one token. -/
def Token.take (t : Token) (n c : Nat) : Token :=
  if exclusive c then { t with holder := n, st := 1, cls := c }
  else
    let set := t.shareSet ||| 2 ^ (c - 1)
    { t with shareCnt := t.shareCnt + 1, st := 2, shareSet := set, cls := lowestClass set }

/-- *Release* (R138). -/
def Token.release (t : Token) (c : Nat) : Token :=
  if exclusive c then { t with st := 0, holder := 0xFFFF, cls := 0 }
  else if t.shareCnt ≤ 1 then { t with st := 0, shareCnt := 0, shareSet := 0, cls := 0 }
  else { t with shareCnt := t.shareCnt - 1 }

/-! ### Transactions -/

/-- Slot n. -/
def KeepSt.slot (p : KeepSt) (n : Nat) : TSlot := Sparse.get (fun _ => TSlot.closed) p.slots n

/-- Write slot n. -/
def KeepSt.putSlot (p : KeepSt) (n : Nat) (x : TSlot) : KeepSt :=
  { p with slots := Sparse.set (fun _ => TSlot.closed) p.slots n x }

/-- TRANSACTIONS. -/
def KCtx.nslots (x : KCtx) : Nat := x.img.transactions

/-- The lowest-numbered closed slot (R131). -/
def KCtx.lowestClosed (x : KCtx) (p : KeepSt) : Option Nat :=
  (List.range x.nslots).find? (fun n => (p.slot n).tstate == 0)

/-- Slot n is open. -/
def KeepSt.isOpen (p : KeepSt) (n : Nat) : Bool := (p.slot n).tstate == 1

/-- Open transactions. -/
def KeepSt.openCount (p : KeepSt) : Nat := (p.slots.filter (fun (e : Nat × TSlot) => e.2.tstate == 1)).length

/-- The live entry for token k in slot n. -/
def KeepSt.liveEntry (p : KeepSt) (n k : Nat) : Option TEntry := (p.slot n).entries.find? (fun e => e.live && e.token == k)

/-! ### Results -/

/-- What an operation leaves: the keep, the result code, the tokens written with their old values in order, the
fields of its operation record, a new V word, or the cause with which the engine stops (R104), and whether the
keep's fault source is raised (R127). -/
structure KOut where
  keep : KeepSt
  code : Nat
  old : List (Nat × Token)
  trans : Nat
  idx : Nat
  v : Option Nat
  stop : Option Nat
  keepFault : Bool
deriving DecidableEq, Repr

/-- A refusal with a result code. -/
def KOut.refuse (p : KeepSt) (code trans idx : Nat) (v : Option Nat := none) : KOut := ⟨p, code, [], trans, idx, v, none, false⟩

/-- The engine stops with cause 0x0A (R136). -/
def KOut.malformed (p : KeepSt) : KOut := ⟨p, 0, [], 0, 0, none, some 0x0A, false⟩

/-- R127: the engine stops with cause 0x07 and the keep's source is raised. -/
def KOut.badToken (p : KeepSt) : KOut := ⟨p, 0, [], 0, 0, none, some 0x07, true⟩

/-- Change token k by f. -/
def KOut.write (o : KOut) (k : Nat) (f : Token → Token) : KOut :=
  { o with keep := o.keep.putToken k (f (o.keep.token k)), old := o.old ++ [(k, o.keep.token k)] }

/-- CLAIM of route r by an instance (R137). -/
def KCtx.claim (x : KCtx) (p : KeepSt) (r inst : Nat) : KOut :=
  match x.img.routes.find? (fun d => d.number == r) with
  | none => .malformed p
  | some d =>
    match x.lowestClosed p with
    | none => .refuse p 6 0xFFFF r (some 0xFFFFFFFF)
    | some n =>
      match x.claimChecks p d.entries with
      | .bad => .badToken p
      | .refuse c => .refuse p c 0xFFFF r (some 0xFFFFFFFF)
      | .pass =>
        let o := d.entries.foldl (fun (o : KOut) e => o.write e.1 (fun t => t.take n e.2)) (KOut.refuse p 0 n r (some n))
        let slot : TSlot := ⟨1, r, 0, 0, d.domain, x.stamp, inst, 0, d.entries.map (fun e => ⟨e.1, e.2, true, false⟩)⟩
        { o with keep := o.keep.putSlot n slot.seal }

/-- The transaction operand of WACC (R95, R136): none where the engine stops. For 0xFFFF_FFFF, which names no transaction and is
refused with 5, the operation record's transaction field holds its low 12 bits, 0x0FFF: R139 gives 0xFFFF to other operations
only (DESIGN CHOICE, log entry 112). -/
def KCtx.transOperand (x : KCtx) (w : Nat) : Option Nat :=
  if w % 4096 < x.nslots || w == 0xFFFFFFFF then some (w % 4096) else none

/-- The open transaction named, unless WACC holds 0xFFFF_FFFF. -/
def KeepSt.openTrans (p : KeepSt) (w n : Nat) : Bool := w != 0xFFFFFFFF && p.isOpen n

/-- RELS K (R138). -/
def KCtx.relsK (x : KCtx) (p : KeepSt) (k w : Nat) : KOut :=
  match x.transOperand w with
  | none => .malformed p
  | some n =>
    if !p.openTrans w n then .refuse p 5 n k
    else match p.liveEntry n k with
    | none => .refuse p 5 n k
    | some e =>
      if (p.token k).bad then .badToken p
      else
        let o := (KOut.refuse p 0 n k).write k (fun t => t.release e.cls)
        let slot : TSlot := p.slot n
        { o with keep := o.keep.putSlot n ({ slot with entries := slot.entries.map (fun (f : TEntry) => if f.live && f.token == k then { f with live := false } else f) }).seal }

/-- RELS V of the transaction in V[x] (R138). -/
def KCtx.relsV (x : KCtx) (p : KeepSt) (v : Nat) : KOut :=
  if v != 0xFFFFFFFF && Nat.ble x.nslots v then .malformed p
  else if v == 0xFFFFFFFF || !p.isOpen v then .refuse p 5 (v % 65536) 0xFFFF
  else
    let slot := p.slot v
    let live := slot.entries.filter TEntry.live
    if live.any (fun e => (p.token e.token).bad) then .badToken p
    else
      let o := live.foldl (fun (o : KOut) e => o.write e.token (fun t => t.release e.cls)) (KOut.refuse p 0 v slot.route (some 0xFFFFFFFF))
      { o with keep := o.keep.putSlot v TSlot.closed }

/-- SHARE K (R138); WACC [18:16] is the class. -/
def KCtx.share (x : KCtx) (p : KeepSt) (k w : Nat) : KOut :=
  let c := bits w 16 3
  match x.transOperand w with
  | none => .malformed p
  | some n =>
    if c == 0 || Nat.ble 6 c then .malformed p
    else if !p.openTrans w n || exclusive c || (p.liveEntry n k).isSome then .refuse p 5 n k
    else if Nat.ble 64 (p.slot n).entries.length then .refuse p 6 n k
    else match x.claimCheck p k c with
    | .bad => .badToken p
    | .refuse code => .refuse p code n k
    | .pass =>
      let o := (KOut.refuse p 0 n k).write k (fun t => t.take n c)
      let slot : TSlot := p.slot n
      { o with keep := o.keep.putSlot n ({ slot with entries := slot.entries ++ [(⟨k, c, true, true⟩ : TEntry)] }).seal }

/-- UNSHARE K (R138). -/
def KCtx.unshare (x : KCtx) (p : KeepSt) (k w : Nat) : KOut :=
  match x.transOperand w with
  | none => .malformed p
  | some n =>
    if !p.openTrans w n then .refuse p 5 n k
    else match p.liveEntry n k with
    | none => .refuse p 5 n k
    | some e =>
      if exclusive e.cls then .refuse p 5 n k
      else if (p.token k).bad then .badToken p
      else
        let o := (KOut.refuse p 0 n k).write k (fun t => t.release e.cls)
        let slot : TSlot := p.slot n
        { o with keep := o.keep.putSlot n ({ slot with entries := slot.entries.filter (fun f => !(f.live && f.token == k)) }).seal }

/-! ### Records (R139, R140) -/

/-- A write record (spec/10 R205). -/
def wrec (dest index mask value : Nat) : WRec :=
  BitVec.ofNat 64 (dest % 8 * 2 ^ 61 + index % 2 ^ 21 * 2 ^ 40 + mask % 256 * 2 ^ 32 + value % 2 ^ 32)

/-- The token records of one token: every quarter whose value changed, and always Q3. -/
def tokenRecs (k : Nat) (old new : Token) (mask : Nat) : List WRec :=
  [0, 1, 2, 3].filterMap (fun q =>
    if q == 3 || old.quarter q != new.quarter q then some (wrec 6 ((0x1C + q) * 65536 + k) mask (new.quarter q)) else none)

/-- The token records of an operation, in the order of its writes. -/
def KOut.tokenRecs (o : KOut) (mask : Nat) : List WRec :=
  o.old.flatMap (fun e => Machine.tokenRecs e.1 e.2 (o.keep.token e.1) mask)

/-! ### Audit (R144) -/

/-- The live entries of every slot: slot number and entry. -/
def KeepSt.liveAll (p : KeepSt) : List (Nat × TEntry) :=
  p.slots.flatMap (fun (e : Nat × TSlot) => if e.2.tstate = 1 then (e.2.entries.filter TEntry.live).map (fun t => (e.1, t)) else [])

/-- Kind 0 for one slot. -/
def KCtx.slotBad (x : KCtx) (t : TSlot) : Bool :=
  if t.tstate = 0 then decide (t ≠ TSlot.closed)
  else if t.tstate = 1 then
    t.hchk != t.hchkOf || t.nLive != (t.entries.filter TEntry.live).length || Nat.blt 64 t.nEntries
      || t.entries.any (fun e => Nat.ble x.img.tokens.length e.token)
  else true

/-- Kind 1 for one token; FLAGS [15:13] stand above the five bits of SHARE_SET. -/
def Token.integrityBad (t : Token) : Bool := t.bad || t.rsvd != 0 || Nat.ble 32 t.shareSet || bitOf t.shareSet 0 || bitOf t.shareSet 4

/-- Kinds 2 to 4 for one token, with its live entries. -/
def Token.holdBad (t : Token) (l : List (Nat × TEntry)) : Option Nat :=
  let ex := l.filter (fun e => exclusive e.2.cls)
  let sh := l.filter (fun e => !exclusive e.2.cls)
  let heldOk := t.st == 1 && ex.length == 1 && ex.all (fun e => e.1 == t.holder && e.2.cls == t.cls)
  if (t.st == 1 && !heldOk) || (t.st != 1 && !ex.isEmpty) then some 2
  else if t.shareCnt != sh.length || sh.any (fun e => !bitOf t.shareSet (e.2.cls - 1)) || (t.st == 2 && t.cls != lowestClass t.shareSet) then some 3
  else if (t.st != 1 && t.st != 2 && !l.isEmpty) || (t.st != 1 && t.holder != 0xFFFF && t.holder != 0xFFFE) then some 4
  else none

/-- The audit's result: the lowest kind with a mismatch and the first slot or token of that kind. `hchkBad`: an
injection makes slot 0 fail (spec/17 R388). -/
def KCtx.audit (x : KCtx) (p : KeepSt) (hchkBad : Bool) : Option (Nat × Nat) :=
  match (if hchkBad then some 0 else none) <|> (p.slots.find? (fun (e : Nat × TSlot) => x.slotBad e.2)).map (fun e => e.1) with
  | some n => some (0, n)
  | none =>
    let idx := p.tokens.zipIdx
    match idx.find? (fun e => e.1.integrityBad) with
    | some e => some (1, e.2)
    | none =>
      let live := p.liveAll
      let res := idx.filterMap (fun e => (e.1.holdBad (live.filter (fun l => l.2.token == e.2))).map (fun k => (k, e.2)))
      [2, 3, 4].findSome? (fun k => res.find? (fun r => r.1 == k))

/-- The digest of R140: CRC-32C over all tokens and all transaction slots. -/
def KCtx.digest (x : KCtx) (p : KeepSt) : Nat :=
  crc32c.value (p.tokens.flatMap Token.bytes ++ (List.range x.nslots).flatMap (fun n =>
    if (p.slot n).tstate = 0 then List.replicate 256 0 else (p.slot n).bytes))

end Sys2Proof.Machine
end

