-- ==== Sys2Proof/Machine/BtOps.lean ====
section
/-! DEFINITION. Boundary tokens in one spire's keep (spec/07): records, offers, timeouts, reconciliation. -/

namespace Sys2Proof.Machine

/-! ### Producing records -/

/-- R158: the next RSEQ: 1 up, skipping 0. -/
def nextSeq32 (n : Nat) : Nat := if (n + 1) % 2 ^ 32 = 0 then 1 else (n + 1) % 2 ^ 32

/-- The definition of token k. -/
def KCtx.def? (x : KCtx) (k : Nat) : Option TokenDef := x.img.tokens[k]?

/-- R157: a record of token k to `dst`, with the token as it now stands; its check values are placed when it leaves. -/
def KCtx.record (x : KCtx) (p : KeepSt) (kind k dst aux rseq : Nat) : BRec :=
  let t := p.token k
  ⟨kind, t.st, t.recon, t.resident, t.holder == 0xFFFE, t.tseq, x.own, dst, (x.def? k).elim 0 TokenDef.element, t.home, p.bt.epoch, aux, rseq, x.stamp, Three.all 0⟩

/-- Produce a record: it waits in the outbox with the cycle that produced it (R159). -/
def KCtx.send (x : KCtx) (p : KeepSt) (kind k dst aux : Nat) : KeepSt :=
  let q := nextSeq32 (Sparse.get (fun _ => 0) p.bt.rseqTx dst)
  { p with bt := { p.bt with
    outbox := p.bt.outbox ++ [(x.count, x.record p kind k dst aux q)]
    rseqTx := Sparse.set (fun _ => 0) p.bt.rseqTx dst q } }

/-- Stop a timer of token k. -/
def KeepSt.stopTimer (p : KeepSt) (kind : BtTimerKind) (k : Nat) : KeepSt :=
  { p with bt := { p.bt with timers := p.bt.timers.filter (fun t => !(decide (t.kind = kind) && t.token == k)) } }

/-- Start a timer of token k; `start` is none until its record is transmitted (R162). -/
def KeepSt.startTimer (p : KeepSt) (kind : BtTimerKind) (k : Nat) (start : Option Nat) : KeepSt :=
  let p := p.stopTimer kind k
  { p with bt := { p.bt with timers := p.bt.timers ++ [⟨kind, k, start⟩] } }

/-- A query of token k to a peer is needed (R163). -/
def KeepSt.needQuery (p : KeepSt) (k peer : Nat) (withdraw : Bool) : KeepSt :=
  if p.bt.queries.any (fun (q : Nat × Nat × Bool) => q.1 == k && q.2.1 == peer) then
    { p with bt := { p.bt with queries := p.bt.queries.map (fun (q : Nat × Nat × Bool) => if q.1 == k && q.2.1 == peer then (k, peer, q.2.2 || withdraw) else q) } }
  else { p with bt := { p.bt with queries := p.bt.queries ++ [(k, peer, withdraw)] } }

/-- The peers that list token k (R156). -/
def KCtx.listing (x : KCtx) (k : Nat) : List Nat := (x.img.peers.filter (fun d => d.tokens.contains k)).map PeerDef.addr

/-- R164: the modules concerned: PEER for a token in transfer, any listing module for one that is AWAY. -/
def KCtx.concerned (x : KCtx) (p : KeepSt) (k : Nat) : List Nat :=
  if (p.token k).st = 5 then x.listing k else [(p.token k).peer]

/-- Queries to the modules concerned. -/
def KCtx.query (x : KCtx) (p : KeepSt) (k : Nat) (withdraw : Bool) : KeepSt :=
  (x.concerned p k).foldl (fun p a => p.needQuery k a withdraw) p

/-- Change token k without an operation record: GEN and CRC follow (R127). -/
def KeepSt.change (p : KeepSt) (k : Nat) (f : Token → Token) : KeepSt := p.putToken k (f (p.token k))

/-- RECON is set: the long-partition timer starts when none runs (R162). -/
def KCtx.setRecon (x : KCtx) (p : KeepSt) (k : Nat) : KeepSt :=
  let p := if (p.token k).recon then p else p.change k (fun t => { t with recon := true })
  if p.bt.timers.any (fun t => decide (t.kind = .long) && t.token == k) then p else p.startTimer .long k (some x.count)

/-- No query of token k is needed any more. -/
def KeepSt.dropQueries (p : KeepSt) (k : Nat) : KeepSt :=
  { p with bt := { p.bt with queries := p.bt.queries.filter (fun (q : Nat × Nat × Bool) => q.1 != k) } }

/-- Everything that waits for token k's reconciliation ends. -/
def KeepSt.settled (p : KeepSt) (k : Nat) : KeepSt :=
  let p := (p.stopTimer .long k).stopTimer .retry k
  { p with bt := { p.bt with
    authReq := p.bt.authReq.filter (fun (a : Nat × Nat) => a.1 != k)
    noOwner := p.bt.noOwner.filter (fun (a : Nat × Nat) => a.1 != k)
    queries := p.bt.queries.filter (fun (q : Nat × Nat × Bool) => q.1 != k) } }

/-- AUTH_REQ stands for token k. -/
def KeepSt.authReq (p : KeepSt) (k : Nat) : Bool := p.bt.authReq.any (fun (a : Nat × Nat) => a.1 == k)

/-- Set AUTH_REQ, by the long-partition timeout against the peers `l`, or `[0xFFFF]` by answers; what set it before stays noted. -/
def KeepSt.setAuth (p : KeepSt) (k : Nat) (l : List Nat) : KeepSt :=
  { p with bt := { p.bt with authReq := (l.map (fun a => (k, a))).filter (fun a => !p.bt.authReq.contains a) ++ p.bt.authReq } }

/-- R161: transfer entries: outstanding offers, stored offers, sending states and IN-HELD. -/
def KeepSt.transfers (p : KeepSt) : Nat :=
  p.bt.offers.length + (p.tokens.filter (fun t => (t.st == 0 && t.holder == 0xFFFE) || t.st == 4 || t.st == 6 || t.st == 7)).length

/-! ### OFFER and ACPT (R138) -/

/-- OFFER K to peer a. -/
def KCtx.offer (x : KCtx) (p : KeepSt) (k a : Nat) : KOut :=
  let t := p.token k
  if t.bad then .badToken p
  else if t.st = 3 then .refuse p 4 0xFFFF k
  else if t.st = 1 ∨ t.st = 2 then .refuse p 1 0xFFFF k
  else if 4 ≤ t.st ∨ t.recon ∨ t.holder = 0xFFFE then .refuse p 3 0xFFFF k
  else if !t.boundary || !(x.listing k).contains a || (t.resident && a != t.home) || Nat.ble 256 p.transfers then .refuse p 5 0xFFFF k
  else
    let s := if (t.tseq + 1) % 65536 = 0 then 1 else (t.tseq + 1) % 65536
    let o := (KOut.refuse p 0 0xFFFF k).write k (fun t => { t with holder := 0xFFFE, peer := a, tseq := s })
    { o with keep := (x.send o.keep 1 k a 0).startTimer .offer k none }

/-- ACPT K with transfer sequence s: exactly one stored offer carries it, and its peer is admitted. -/
def KCtx.acpt (x : KCtx) (p : KeepSt) (k s : Nat) : KOut :=
  let t := p.token k
  let l := p.bt.offers.filter (fun o => o.token == k && o.tseq == s)
  if t.bad then .badToken p
  else if t.st ≠ 5 ∨ t.recon then .refuse p 5 0xFFFF k
  else match l with
  | [f] =>
    if !x.admitted.contains f.src then .refuse p 5 0xFFFF k else
    let o := (KOut.refuse p 0 0xFFFF k).write k (fun t => { t with st := 6, peer := f.src, tseq := s })
    let q := { o.keep with bt := { o.keep.bt with offers := o.keep.bt.offers.filter (fun g => decide (g ≠ f)) } }
    { o with keep := (x.send q 2 k f.src 0).startTimer .confirm k none }
  | _ => .refuse p 5 0xFFFF k

/-! ### Taking records in (R160, R164, R167) -/

/-- What an intake event leaves: the keep, the event code of R174, what is recorded or raised outside the keep. -/
structure IOut where
  keep : KeepSt
  code : Nat
  withdrawn : Bool
  stalled : Bool
  conflict : Option (Nat × Nat)
  rejected : Option Field
  /-- The authorised command that ends: number, result, element's token. -/
  auth : Option (Nat × Nat × Nat)

/-- An event with nothing beside the keep. -/
def IOut.plain (p : KeepSt) (code : Nat) : IOut := ⟨p, code, false, false, none, none, none⟩

/-- A record that is discarded, with its counter. -/
def IOut.reject (p : KeepSt) (f : Field) : IOut := ⟨p, 0, false, false, none, some f, none⟩

/-- R160: a record that meets no row is answered. -/
def KCtx.unmatched (x : KCtx) (p : KeepSt) (k : Nat) (r : BRec) (aux : Nat := 0) : IOut := .plain (x.send p 6 k r.src aux) 6

/-- The token becomes FREE here: RESIDENT when HOME is another module. -/
def KCtx.freeHere (x : KCtx) (p : KeepSt) (k : Nat) : KeepSt :=
  (p.change k (fun t => { t with st := 0, holder := 0xFFFF, cls := 0, shareCnt := 0, shareSet := 0, recon := false, resident := t.home != x.own })).settled k

/-- The token is AWAY with PEER `a`. -/
def KeepSt.awayAt (p : KeepSt) (k a : Nat) : KeepSt :=
  (p.change k (fun t => { t with st := 5, holder := 0xFFFF, cls := 0, shareCnt := 0, shareSet := 0, recon := false, resident := false, peer := a })).settled k

/-- The sending state after an acceptance: HOME-RETURN-PENDING when PEER is HOME; CONFIRM sent, the completion timeout waits for
its transmission. An ANSWER (`answer`) brings RECON to 0 as well, and ends the queries (R164). -/
def KCtx.accepted (x : KCtx) (p : KeepSt) (k src : Nat) (answer : Bool) : KeepSt :=
  let p := p.stopTimer .offer k
  let p := p.change k (fun t => { t with st := if t.peer = t.home then 7 else 4, holder := 0xFFFF, recon := t.recon && !answer })
  let p := if answer then (p.stopTimer .retry k).dropQueries k else p
  (x.send p 3 k src 0).startTimer .completion k none

/-- R164: set RECON, record the conflict, query again. -/
def KCtx.conflict (x : KCtx) (p : KeepSt) (k : Nat) (r : BRec) : IOut :=
  { IOut.plain (x.query (x.setRecon p k) k false) 5 with conflict := some ((p.token k).st, r.st) }

/-- R164: the rows for an own state of FREE with an outstanding offer. -/
def KCtx.answerOffering (x : KCtx) (p : KeepSt) (k : Nat) (r : BRec) : IOut :=
  let t := p.token k
  if r.st = 6 ∧ r.tseq = t.tseq then .plain (x.accepted p k r.src true) 5
  else if 4 ≤ r.st then
    let p := p.stopTimer .offer k
    let p := (p.change k (fun t => { t with holder := 0xFFFF, recon := false, peer := if t.resident then t.peer else t.home })).settled k
    { IOut.plain p 5 with withdrawn := true }
  else if t.recon ∧ !r.offering ∧ r.tseq = t.tseq then .plain ((p.stopTimer .offer k).awayAt k r.src) 5
  else x.conflict p k r

/-- R164, R165: the rows for a sending state. -/
def KCtx.answerSending (x : KCtx) (p : KeepSt) (k : Nat) (r : BRec) : IOut :=
  let t := p.token k
  if r.st = 6 ∧ r.tseq = t.tseq then .plain ((x.send p 3 k r.src 0).startTimer .completion k none) 5
  else if r.st < 4 ∧ !r.offering ∧ r.tseq = t.tseq then .plain ((p.stopTimer .completion k).awayAt k t.peer) 5
  else if 4 ≤ r.st then
    if p.authReq k then .plain p 5 else .plain (x.freeHere (p.stopTimer .completion k) k) 5
  else x.conflict p k r

/-- R164, R165: the rows for IN-HELD. -/
def KCtx.answerInHeld (x : KCtx) (p : KeepSt) (k : Nat) (r : BRec) : IOut :=
  let t := p.token k
  if (r.st = 4 ∨ r.st = 7) ∧ r.tseq = t.tseq then
    if p.authReq k then .plain p 5
    else .plain (x.send (x.freeHere (p.stopTimer .confirm k) k) 4 k r.src 0) 5
  else if r.st < 4 ∧ r.offering ∧ r.tseq = t.tseq then .plain ((x.send p 2 k r.src 0).startTimer .confirm k none) 5
  else if r.st < 4 ∧ !r.offering then .plain ((p.stopTimer .confirm k).awayAt k r.src) 5
  else if 4 ≤ r.st then { IOut.plain (p.setAuth k [0xFFFF]) 5 with stalled := true }
  else x.conflict p k r

/-- R164: the rows for AWAY with RECON. -/
def KCtx.answerAway (x : KCtx) (p : KeepSt) (k : Nat) (r : BRec) : IOut :=
  if r.st < 4 ∧ !r.offering then .plain (p.awayAt k r.src) 5
  else if r.st < 4 ∨ r.st = 4 ∨ r.st = 6 ∨ r.st = 7 then .plain (p.needQuery k r.src false) 5
  else
    let seen := (k, r.src) :: p.bt.noOwner.filter (fun (e : Nat × Nat) => !(e.1 == k && e.2 == r.src))
    let p := { p with bt := { p.bt with noOwner := seen } }
    if (x.listing k).all (fun a => seen.contains (k, a)) then { IOut.plain (p.setAuth k [0xFFFF]) 5 with stalled := true }
    else .plain p 5

/-- R164: does token k await an answer? -/
def Token.awaits (t : Token) : Bool := t.recon || t.holder == 0xFFFE || t.st == 4 || t.st == 6 || t.st == 7

/-- R164: an ANSWER of the module concerned. It stops the long-partition timer (R162). -/
def KCtx.answer (x : KCtx) (p : KeepSt) (k : Nat) (r : BRec) : IOut :=
  let t := p.token k
  if !t.awaits || !(x.concerned p k).contains r.src then .reject p F.BT_REJ2_KIND
  else
  let p := p.stopTimer .long k
  if t.st = 0 ∧ t.holder = 0xFFFE then x.answerOffering p k r
  else if t.st = 4 ∨ t.st = 7 then x.answerSending p k r
  else if t.st = 6 then x.answerInHeld p k r
  else if t.st = 5 ∧ t.recon then x.answerAway p k r
  else x.conflict p k r

/-- The pending SETTLE of token k. -/
def KeepSt.settleOf (p : KeepSt) (k : Nat) : Option SettlePend := p.bt.settles.find? (fun e => e.token == k)

/-- A pending SETTLE ends. -/
def KeepSt.dropSettle (p : KeepSt) (k : Nat) : KeepSt := { p with bt := { p.bt with settles := p.bt.settles.filter (fun e => e.token != k) } }

/-- R167, R168: an ANSWER to a pending SETTLE of token k. One that reports owning acts under R164 where that has a row for it, and
ends the command in any case. -/
def KCtx.settleAnswer (x : KCtx) (p : KeepSt) (k : Nat) (r : BRec) (e : SettlePend) : IOut :=
  if bitOf r.aux 0 then { IOut.plain (p.dropSettle k) 5 with auth := some (e.number, 4, k) }
  else if r.st < 4 then
    let o := x.answer (p.dropSettle k) k r
    { (if o.rejected.isSome then IOut.plain (p.dropSettle k) 5 else o) with auth := some (e.number, 2, k) }
  else
    let rest := e.waiting.filter (fun a => a != r.src)
    if rest.isEmpty then { IOut.plain (x.freeHere (p.dropSettle k) k) 9 with auth := some (e.number, 1, k) }
    else .plain { p with bt := { p.bt with settles := p.bt.settles.map (fun f => if f.token == k then { f with waiting := rest } else f) } } 5

/-- R160, R164, R167: a record for token k that R158 admits. -/
def KCtx.takeKind (x : KCtx) (p : KeepSt) (k : Nat) (r : BRec) : IOut :=
  let t := p.token k
  let sender := t.peer == r.src
  match r.kind with
  | 1 =>
    if t.st = 5 ∧ !t.recon ∧ (x.listing k).contains r.src then
      let rest := p.bt.offers.filter (fun o => !(o.src == r.src && o.token == k))
      let q : KeepSt := { p with bt := { p.bt with offers := rest } }
      if Nat.ble 256 (KeepSt.transfers q) then .reject p F.BT_REJ2_FULL
      else .plain { p with bt := { p.bt with offers := rest ++ [⟨r.src, k, r.tseq⟩] } } 1
    else x.unmatched p k r
  | 2 => if t.st = 0 ∧ t.holder = 0xFFFE ∧ sender ∧ r.tseq = t.tseq ∧ r.st = 6 then .plain (x.accepted p k r.src false) 2 else x.unmatched p k r
  | 3 =>
    if t.st = 6 ∧ sender ∧ r.tseq = t.tseq ∧ (r.st = 4 ∨ r.st = 7) then
      .plain (x.send (x.freeHere (p.stopTimer .confirm k) k) 4 k r.src 0) 3
    else if t.owning ∧ t.holder = 0xFFFF ∧ sender ∧ r.tseq = t.tseq then .plain (x.send p 4 k r.src 0) 3
    else x.unmatched p k r
  | 4 => if (t.st = 4 ∨ t.st = 7) ∧ sender ∧ r.tseq = t.tseq then .plain ((p.stopTimer .completion k).awayAt k t.peer) 4 else x.unmatched p k r
  | 5 => x.unmatched { p with bt := { p.bt with offers := p.bt.offers.filter (fun o => !(o.src == r.src && o.token == k)) } } k r
  | 6 => match p.settleOf k with | some e => if e.waiting.contains r.src then x.settleAnswer p k r e else x.answer p k r | none => x.answer p k r
  | _ =>
    match p.settleOf k with
    | some e => { x.unmatched (p.dropSettle k) k r 1 with code := 8, auth := some (e.number, 4, k) }
    | none =>
      if t.st < 4 then { x.unmatched p k r with code := 8 }
      else { x.unmatched (((p.stopTimer .confirm k).stopTimer .completion k).awayAt k r.src) k r with code := 8 }

/-- R158: why a record is not taken in; none when it is. -/
def KCtx.refusedBy (x : KCtx) (p : KeepSt) (r : BRec) (valid : Nat) (fresh : Nat) : Option Field :=
  if valid < 2 then some F.BT_REJ_CHECK
  else if (r.dst ≠ x.own ∧ r.dst ≠ x.img.ring.addrA) ∨ !x.admitted.contains r.src then some F.BT_REJ_ADMIT
  else if p.bt.fences.contains (r.src, r.epoch) then some F.BT_REJ2_FENCED
  else if r.rseq ≤ Sparse.get (fun _ => 0) p.bt.rseqRx r.src then some F.BT_REJ_SEQ
  else if r.stamp / 65536 + fresh < x.count then some F.BT_REJ_FRESH
  else if r.kind = 0 ∨ 8 ≤ r.kind then some F.BT_REJ2_KIND
  else none

/-- The token of an element (R154). -/
def KCtx.tokenOf (x : KCtx) (element : Nat) : Option Nat := x.img.tokens.findIdx? (fun d => d.boundary && d.element == element)

/-- R158, R154, R160: a received record meets the keep. `valid` check values are valid. Answers the token, when one
is concerned, and the outcome. -/
def KCtx.takeRecord (x : KCtx) (p : KeepSt) (r : BRec) (valid : Nat) : Option Nat × IOut :=
  let fresh := ((x.img.peers.find? (fun d => d.addr == r.src)).map PeerDef.tFresh).getD 4
  match x.refusedBy p r valid fresh with
  | some f => (none, .reject p f)
  | none =>
    let p := { p with bt := { p.bt with
      rseqRx := Sparse.set (fun _ => 0) p.bt.rseqRx r.src r.rseq
      fences := p.bt.fences.filter (fun (f : Nat × Nat) => f.1 != r.src) } }
    match x.tokenOf r.element with
    | none => (none, .reject p F.BT_REJ2_UNKNOWN)
    | some k => (some k, x.takeKind p k r)

/-! ### Timeouts (R162) -/

/-- The limit of a timer in base cycles. -/
def KCtx.limit (x : KCtx) (p : KeepSt) (t : BtTimer) : Nat :=
  let a := if (p.token t.token).st = 5 then (x.listing t.token).headD 0 else (p.token t.token).peer
  let d := (x.img.peers.find? (fun d => d.addr == a)).getD ⟨0, [], [], 8, 4, 4, 120⟩
  match t.kind with
  | .offer => d.tOffer
  | .confirm => d.tConf
  | .completion => d.tConf
  | .retry => 2
  | .long => if x.img.timing.tbMs = 0 then 0 else (d.tLong * 1000 + x.img.timing.tbMs - 1) / x.img.timing.tbMs

/-- The timer has reached its limit. -/
def KCtx.expired (x : KCtx) (p : KeepSt) (t : BtTimer) : Bool :=
  match t.start with | some c => Nat.ble (c + x.limit p t) x.count | none => false

/-- The expiry of a timer is taken in. -/
def KCtx.expire (x : KCtx) (p : KeepSt) (t : BtTimer) : KeepSt :=
  let p := p.stopTimer t.kind t.token
  match t.kind with
  | .offer => x.query p t.token true
  | .confirm => x.query (x.setRecon p t.token) t.token false
  | .completion => x.query (x.setRecon p t.token) t.token false
  | .retry => x.query p t.token ((p.token t.token).st = 0 && (p.token t.token).holder == 0xFFFE)
  | .long => p.setAuth t.token (x.concerned p t.token)

/-- R163: up to 32 queries to each peer, in token order from where the previous cycle stopped. -/
def KCtx.sendQueries (x : KCtx) (p : KeepSt) : KeepSt :=
  let ins (q : Nat × Nat × Bool) (l : List (Nat × Nat × Bool)) : List (Nat × Nat × Bool) :=
    (l.filter (fun (e : Nat × Nat × Bool) => Nat.blt e.1 q.1)) ++ q :: l.filter (fun (e : Nat × Nat × Bool) => Nat.ble q.1 e.1)
  let sorted := p.bt.queries.foldr ins []
  let turn := sorted.filter (fun (q : Nat × Nat × Bool) => Nat.ble p.bt.queryPos q.1) ++ sorted.filter (fun (q : Nat × Nat × Bool) => Nat.blt q.1 p.bt.queryPos)
  let step (a : KeepSt × List (Nat × Nat × Bool)) (q : Nat × Nat × Bool) : KeepSt × List (Nat × Nat × Bool) :=
    let sent := (a.2.filter (fun (e : Nat × Nat × Bool) => e.2.1 == q.2.1)).length
    if 32 ≤ sent ∨ !x.admitted.contains q.2.1 then a
    else (((x.send a.1 5 q.1 q.2.1 (if q.2.2 then 1 else 0)).startTimer .retry q.1 none), a.2 ++ [q])
  let r := turn.foldl step (p, [])
  { r.1 with bt := { r.1.bt with
    queries := p.bt.queries.filter (fun q => !r.2.contains q)
    queryPos := match r.2.getLast? with | some q => q.1 + 1 | none => p.bt.queryPos } }

/-! ### Commands of KP_CMD (R141, R153) -/

/-- BLOCK (1) or UNBLOCK (2): the result of KP_CMD_RES. -/
def KeepSt.kpCmd (p : KeepSt) (k cmd : Nat) : KeepSt × Nat :=
  let t := p.token k
  if cmd = 1 then
    if t.st = 0 ∧ t.holder = 0xFFFF ∧ !t.recon then (p.change k (fun t => { t with st := 3 }), 0)
    else if 4 ≤ t.st ∨ t.recon ∨ (t.st = 0 ∧ t.holder = 0xFFFE) then (p, 3)
    else (p, 1)
  else if t.st = 3 then (p.change k (fun t => { t with st := 0 }), 0)
  else if 4 ≤ t.st ∨ t.recon then (p, 3)
  else (p, 5)

/-- R166: at takeover RECON and a query for every token in transfer; the tokens concerned. -/
def KCtx.takeover (x : KCtx) (p : KeepSt) : KeepSt × List Nat :=
  let ks := (p.tokens.zipIdx.filter (fun e => (e.1.st == 0 && e.1.holder == 0xFFFE) || e.1.st == 4 || e.1.st == 6 || e.1.st == 7)).map (fun e => e.2)
  (ks.foldl (fun p k => x.query (x.setRecon p k) k false) p, ks)

end Sys2Proof.Machine
end

