-- ==== Sys2Proof/Machine/TriOps.lean ====
section
/-! DEFINITION. Tri-signature checks as the spires make them (spec/15 R333, R334, R347), with the injection of checker 5
(spec/17 R388). -/

namespace Sys2Proof.Machine

/-- The armed injection of the tri-signature check, if it acts on a compared spire. -/
def State.triInj (s : State) : Option Injection := s.fc.inject.find? (fun i => i.checker == 5 && s.isCompared i.spire)

/-- Field u of an item is valid. -/
def fieldValid (cv want : Three Nat) (u : Nat) : Bool := cv.get u == want.get u

/-- R333: how many fields of a received item are valid; an injection makes one of three invalid. -/
def State.triN (s : State) (cv want : Three Nat) : Nat :=
  let n := triValid cv want
  match s.triInj with
  | some i => if n = 3 && fieldValid cv want i.unit then 2 else n
  | none => n

/-- The units have checked an item: each computed a value. An injection is consumed; a spire that it makes decide
otherwise than the others is a minority (R334). -/
def State.triDone (s : State) (cv want : Three Nat) : State :=
  let s := s.each s.compared fun s x => s.each [0, 1, 2] fun s u => s.bumpReg R.CVS_CNT u x
  match s.triInj with
  | none => s
  | some i =>
    let s := (s.takeInject 5 i.unit i.spire).2
    if triValid cv want = 2 && fieldValid cv want i.unit then s.isolateSpire i.spire 2 false else s

/-- Each compared spire has computed its own value for an item sent (R334, R347 unit 3). -/
def State.triSent (s : State) : State := s.each s.compared fun s x => s.bumpReg R.CVS_CNT 3 x

end Sys2Proof.Machine
end

