-- ==== Sys2Proof/Machine/Stream.lean ====
section
/-! DEFINITION. What the engines, the pager and the belfry share: the write stream and the delay registers (spec/10
R206), engine stops (spec/04 R104), residency and demand fetches (spec/09 R186 to R191), forces on loads (spec/04
R100) and the Q copies (spec/09 R194). -/

namespace Sys2Proof.Machine

/-- Spire x. -/
def State.spire (s : State) (x : Nat) : Spire := s.sp.get x

/-- Change spire x. -/
def State.updSpire (s : State) (x : Nat) (f : Spire → Spire) : State := { s with sp := s.sp.upd x f }

/-- The engine of spire x. -/
def State.eng (s : State) (x : Nat) : Eng := (s.spire x).eng

/-- Change the engine of spire x. -/
def State.updEng (s : State) (x : Nat) (f : Eng → Eng) : State := s.updSpire x (fun p => { p with eng := f p.eng })

/-- Change the memories of spire x. -/
def State.updMem (s : State) (x : Nat) (f : SMem → SMem) : State := s.updSpire x (fun p => { p with mem := f p.mem })

/-- Change the pager of spire x. -/
def State.updPg (s : State) (x : Nat) (f : PagerSt → PagerSt) : State := s.updSpire x (fun p => { p with pg := f p.pg })

/-- Task t (spec/05, Task codes). -/
def State.task (s : State) (t : Nat) : TaskSt := Sparse.get (fun _ => TaskSt.idle) s.sched.tasks t

/-- Change task t. -/
def State.updTask (s : State) (t : Nat) (f : TaskSt → TaskSt) : State :=
  { s with sched := { s.sched with tasks := Sparse.upd (fun _ => TaskSt.idle) s.sched.tasks t f } }

/-- The program of a group's element type: start in logic code, and length (R76). -/
def ImageContent.codeOf (m : ImageContent) (g : Nat) : Nat × Nat :=
  let t := (m.groups.getD g ⟨0, 0, []⟩).etype
  ((m.etypes.take t).foldl (fun n (e : ETypeDef) => n + e.code.length) 0, (m.etypes.getD t ⟨0, []⟩).code.length)

/-! ### Delay registers (spec/10 R206) -/

/-- The field of BF_FIFO_MAX for spire x. -/
def fifoMaxField (x : Nat) : Field :=
  if x = 0 then F.BF_FIFO_MAX_FILL_A else if x = 1 then F.BF_FIFO_MAX_FILL_B else F.BF_FIFO_MAX_FILL_C

/-- Records of spire x enter its delay register in order. What stands behind its 512 records the spire has not produced yet:
it waits (`State.recordWaits`). -/
def State.push (s : State) (x : Nat) (recs : List WRec) : State :=
  if recs.isEmpty then s
  else
    let s := { s with bf := { s.bf with streams := s.bf.streams.upd x (fun l => l ++ recs) } }
    s.each [0, 1, 2] fun s c => s.peak (fifoMaxField x) (min (s.bf.streams.get x).length 512) c

/-- R206: the delay register of spire x is full, and the spire waits with a record. -/
def State.recordWaits (s : State) (x : Nat) : Bool := Nat.blt 512 (s.bf.streams.get x).length

/-- A belfry wait of spire x (R79); its length, which the belfry's own pace decides, is a free value, counted in BF_WAITx. -/
def State.bfWait (s : State) (x : Nat) : State := s.draw.2.bfBump R.BF_WAIT x s.draw.1 false

/-! ### Engine stops (R104) -/

/-- The engine of spire x stops with a cause and the lowest lane concerned. Its fault source is raised; the belfry
then finds its stream missing. With two or more compared engines stopped the module goes to SAFE-HALT. -/
def State.engStop (s : State) (x cause lane : Nat) : State :=
  let e := s.eng x
  let s := s.updEng x (fun e => { e with run := false, stopped := true, barrier := false, skip := 0 })
  let s := s.wr R.LE_ERROR (cause + lane * 256) x
  let s := (s.wr R.LE_ERR_PC e.pc x).wr R.LE_ERR_GROUP e.group x
  let s := (s.collect (24 * x + 2) false 0 cause false false).1
  if 2 ≤ (s.compared.filter (fun y => (s.eng y).stopped)).length then s.safeHalt 5 else s

/-- The engine stops at lane j of a keep instruction (R104); a token that was not readable raises the spire's keep fault
(spec/06 R127). -/
def State.keepStop (s : State) (x cause j : Nat) (fault : Bool) : State :=
  let s := s.engStop x cause j
  if fault then s.raise (24 * x + 3) else s

/-! ### Stall and instruction clocks (R79, R191) -/

/-- Charge n instruction clocks of spire x to the base cycle and to the running task, and pass to the next
instruction. -/
def State.clocks (s : State) (x n : Nat) : State :=
  let t := s.sched.cur
  s.updEng x (fun e => { e with
    pc := e.pc + 1
    clkCycle := e.clkCycle + n
    clkTask := Sparse.upd (fun _ => 0) e.clkTask t (fun c => c + n) })

/-- Indices of PG_ST: LATE, DEMAND, SLOT, FENCE, QCOPY. -/
def stLate : Nat := 0
def stDemand : Nat := 1
def stSlot : Nat := 2
def stFence : Nat := 3
def stQcopy : Nat := 4

/-- A stall of spire x for one cause; its length, on the spire's own clock, is a free value. -/
def State.stall (s : State) (x cause : Nat) : State :=
  let n := s.draw.1
  let s := s.draw.2
  let t := s.sched.cur
  let s := s.bumpReg R.PG_ST cause x n
  s.updEng x (fun e => { e with stallTask := Sparse.upd (fun _ => 0) e.stallTask t (fun c => c + n) })

/-! ### Corrected errors (spec/09 R180, spec/17 SP_ECC_RATE) -/

/-- A corrected error of spire x; more than 64 within one hour raise SP_ECC_RATE. -/
def State.eccNote (s : State) (x : Nat) : State :=
  let now := s.time.clockNs
  let l := now :: ((s.spire x).pg.eccNs.filter (fun t => decide (now < t + 3600000000000))).take 64
  let s := s.updPg x (fun g => { g with eccNs := l })
  if 64 < l.length && !(s.src (24 * x + 15)).cond then s.raise (24 * x + 15) else s

/-- A corrected word in a bank; an injection that waits for a read of the bank is consumed (spec/17 R388). -/
def State.eccCorrected (s : State) (x bank : Nat) : State := ((s.bump F.BANK_STAT_ECC_CORR bank x).takeInject 0 bank x).2.eccNote x

/-! ### Residency (spec/09 R185 to R191) -/

/-- The groups of a task: first and count; the sweep runs all (R118). -/
def ImageContent.run (m : ImageContent) (t : Nat) : Nat × Nat :=
  if t = 24 then (m.sched.sweepFirst, m.sched.sweepCount)
  else match m.sched.tasks.find? (fun d => d.code == t) with
    | some d => (d.first, d.count)
    | none => (0, 0)

/-- The window of the running task: its current group page and the next PF_DEPTH (Residency); and its unpinned
input pages, which the fill channel serves too (R186). -/
def State.inWindow (s : State) (x : Nat) (p : PageId) : Bool :=
  let m := s.content
  let r := m.run s.sched.cur
  match p with
  | .group g => Nat.ble (s.eng x).group g && Nat.ble g ((s.eng x).group + m.sched.pfDepth) && Nat.blt g (r.1 + r.2)
  | .input t _ => t == s.sched.cur
  | _ => false

/-- The group pages that the pager holds ready for a task, or the sweep, that is not running, in schedule order: the window at
which one that has been pre-empted goes on (R189), or the first PF_DEPTH pages of one that is released or whose lead angle has
come (R187). -/
def State.waitingPages (s : State) (t : Nat) : List PageId :=
  let k := s.task t
  let r := s.content.run t
  let d := s.content.sched.pfDepth
  if t = s.sched.cur then []
  else if k.ready && Nat.blt 0 k.next then (List.range (min (d + 1) (r.2 - k.next))).map (fun i => .group (r.1 + k.next + i))
  else if k.ready || k.lead then (List.range (min d r.2)).map (fun i => .group (r.1 + i))
  else []

/-- A page of some window (R188). -/
def State.inAnyWindow (s : State) (x : Nat) (p : PageId) : Bool :=
  s.inWindow x p || s.content.runOrder.any (fun t => (s.waitingPages t).contains p)

/-- R188: a slot that holds a page is free: the page is clean and stands outside every window and pin. -/
def State.slotFree (s : State) (x : Nat) (q : PgSlot) : Bool := !q.pinned && !q.dirty && !s.inAnyWindow x q.page

/-- R188: the page that gives up its slot: clean, not pinned and outside the running task's window; demand-fetched
pages first, least recently used first; then those of no window, least recently used first (DESIGN CHOICE, log entry 36); then
pages in the windows of tasks that are not running, lowest priority first, farthest page first. -/
def State.victim (s : State) (x : Nat) : Option PgSlot :=
  let free := (s.spire x).pg.slots.filter (fun q => !q.pinned && !q.dirty && !s.inWindow x q.page)
  match free.find? PgSlot.demand with
  | some q => some q
  | none => match free.find? (fun q => !s.inAnyWindow x q.page) with
    | some q => some q
    | none => (s.content.runOrder.reverse.flatMap (fun t => (s.waitingPages t).reverse)).findSome? (fun p => free.find? (fun q => q.page == p))

/-- The lowest page slot that holds no page. -/
def PagerSt.empty? (g : PagerSt) : Option Nat := (List.range g.nslots).find? (fun n => !g.slots.any (fun q => q.home == n))

/-- Put a page into a slot of spire x, an empty one first; none when no slot is free. -/
def State.place (s : State) (x : Nat) (q : PgSlot) : Option State :=
  let pg := (s.spire x).pg
  if pg.slots.any (fun r => r.page == q.page) then some s
  else match pg.empty? with
    | some n => some (s.updPg x (fun g => { g with slots := g.slots ++ [{ q with home := n }] }))
    | none => match s.victim x with
      | some v => some (s.updPg x (fun g => { g with slots := g.slots.filter (fun r => decide (r ≠ v)) ++ [{ q with home := v.home }] }))
      | none => none

/-- R188: write back the dirty page least recently used, which frees its slot. -/
def State.writeBackOne (s : State) (x : Nat) : State :=
  match (s.spire x).pg.slots.find? (fun q => q.dirty && !q.pinned && !s.inWindow x q.page) with
  | some v =>
    let s := s.bumpReg R.PG_WBACK x
    s.updPg x (fun g => { g with slots := g.slots.filter (fun r => decide (r ≠ v)) })
  | none => s

/-- A resident page becomes the most recently used one, and dirty where it is written; answers whether its slot is
poisoned. -/
def State.usePage (s : State) (x : Nat) (page : PageId) (dirty : Bool) : State × Bool :=
  match (s.spire x).pg.slots.find? (fun q => q.page == page) with
  | some q =>
    let q' : PgSlot := { q with dirty := q.dirty || dirty }
    (s.updPg x (fun g => { g with slots := g.slots.filter (fun r => r.page != page) ++ [q'] }), q.poisoned)
  | none => (s, false)

/-- R188: a page takes a slot; where none is free a dirty page is first written back. -/
def State.takeSlot (s : State) (x : Nat) (q : PgSlot) : State :=
  match s.place x q with
  | some s => s
  | none => (((s.stall x stSlot).writeBackOne x).place x q).getD s

/-! ### The fill channel (R186, R187, R190) -/

/-- A read of the DRAM of spire x (R179): it meets the error that an armed injection brings (spec/17 R388), or `err`: none,
some false a corrected one, some true an uncorrectable one, which it answers. -/
def State.dramRead (s : State) (x : Nat) (err : Option Bool) : State × Bool :=
  let i := s.takeInject 1 0 x
  match (i.1.map Injection.double) <|> err with
  | none => (i.2, false)
  | some false => ((i.2.bump F.PG_DRAM_ECC_CORR x).eccNote x, false)
  | some true => (i.2.bump F.PG_DRAM_ECC_UNCORR x, true)

/-- A page of spire x that its fill has read: an uncorrectable error poisons its slot (R190, SP_FILL). -/
def State.filled (s : State) (x : Nat) (page : PageId) (demand bad : Bool) : State :=
  let s := (s.takeSlot x ⟨page, 0, false, false, demand, bad⟩).bumpReg R.PG_FILLS x
  if bad then s.raise (24 * x + 14) else s

/-- A whole fill, for which the engine waits. -/
def State.fillNow (s : State) (x : Nat) (page : PageId) (demand : Bool) : State :=
  let r := s.dramRead x none
  r.1.filled x page demand r.2

/-- A page of spire x occupies a slot. -/
def State.resident (s : State) (x : Nat) (page : PageId) : Bool := (s.spire x).pg.slots.any (fun q => q.page == page)

/-- R186: the requests of the fill channel of spire x, in the order of its service: the running task's unpinned input pages,
its window in schedule order, then the lead fills of R187, those of the task with the lowest PRIO first (DESIGN CHOICE, log
entry 118). Demand fetches come before them, at the access. -/
def State.fillWants (s : State) (x : Nat) : List PageId :=
  let t := s.sched.cur
  let inputs := if t < 25 then (List.range 8).map (fun p => PageId.input t p) else []
  let window := ((List.range (s.content.sched.pfDepth + 1)).map (fun i => PageId.group ((s.eng x).group + i))).filter (fun p => s.inWindow x p)
  let lead := s.content.runOrder.flatMap (fun t => if (s.task t).ready && Nat.blt 0 (s.task t).next then [] else s.waitingPages t)
  (inputs ++ window ++ lead).filter (fun p => !s.resident x p)

/-- R186: the channel goes on to its next request once no fill is in progress. -/
def State.startFill (s : State) (x : Nat) : State :=
  let w := (s.fillWants x).head?
  s.updPg x (fun g => { g with filling := g.filling <|> w })

/-- The channels of the compared spires. -/
def State.startFills (s : State) : State := s.each s.compared fun s x => s.startFill x

/-- What the channel fills up to and with a page: the fill in progress first, then the requests in their order. -/
def State.fillsUpTo (s : State) (x : Nat) (page : PageId) : List PageId :=
  let l := (match (s.spire x).pg.filling with | some p => [p] | none => []) ++ s.fillWants x
  l.takeWhile (fun p => p != page) ++ [page]

/-- A page that is not resident: one that is being filled, or that its window still fills, stalls the spire as LATE until the
channel has served it; any other is fetched on demand. -/
def State.fetchPage (s : State) (x : Nat) (page : PageId) : State :=
  if s.inWindow x page || (s.spire x).pg.filling == some page then
    let s := s.each (s.fillsUpTo x page) fun s p => s.fillNow x p false
    ((s.stall x stLate).updPg x (fun g => { g with filling := none })).startFill x
  else ((s.fillNow x page true).stall x stDemand).bumpReg R.PG_DEMAND x

/-- A read of a bank of spire x through the logic-engine port meets an armed injection (spec/17 R388). Answers whether the
error is uncorrectable (R180). -/
def State.engineRead (s : State) (x bank : Nat) : State × Bool :=
  let i := s.takeInject 0 bank x
  match i.1.map Injection.double with
  | none => (i.2, false)
  | some false => (i.2.eccCorrected x bank, false)
  | some true => (i.2, true)

/-- The bank in which a page of spire x stands. -/
def State.pageBank (s : State) (x : Nat) (page : PageId) : Option Nat :=
  ((s.spire x).pg.slots.find? (fun q => q.page == page)).map (fun q => (s.content.slotHome q.home).1)

/-- The engine of spire x addresses a page (R190, R191). Answers whether it meets a poisoned slot or an uncorrectable error. -/
def State.touch (s : State) (x : Nat) (page : PageId) (dirty : Bool) : State × Bool :=
  let s := if s.resident x page then s else s.fetchPage x page
  let u := s.usePage x page dirty
  match u.1.pageBank x page with
  | none => u
  | some b => let r := u.1.engineRead x b; (r.1, u.2 || r.2)

/-- Address several pages; answers whether one of them is poisoned. -/
def State.touchAll (s : State) (x : Nat) (pages : List PageId) (dirty : Bool) : State × Bool :=
  pages.foldl (fun (a : State × Bool) p => let r := a.1.touch x p dirty; (r.1, a.2 || r.2)) (s, false)

/-! ### The pager port (R180, R195, R196) -/

/-- R195: the pager port meets the logic-engine port at one word `n` times: each time it changes nothing, counts one collision
and retries in the next clock. The engine's port is at rest while nothing runs. -/
def State.collide (s : State) (x bank n : Nat) : State := if s.sched.cur = 31 then s else s.bumpBy F.BANK_STAT_COLL n bank x

/-- A read of a bank of spire x through the pager port, once its collisions are over: it meets an armed injection, one bit or
two as FC_INJ.DOUBLE says (spec/17 R388), or the error given; an uncorrectable one raises the spire's SRAM source (R180). -/
def State.portRead (s : State) (x bank : Nat) (p : PortOp) : State :=
  let s := s.collide x bank p.coll
  let i := s.takeInject 0 bank x
  match (i.1.map Injection.double) <|> p.err with
  | none => i.2
  | some false => i.2.eccCorrected x bank
  | some true => i.2.raise (24 * x + 5) true bank 4

/-- The same in the bank where a page stands; one that is not resident stands in DRAM. -/
def State.pageRead (s : State) (x : Nat) (page : PageId) (p : PortOp) : State :=
  match s.pageBank x page with
  | some b => s.portRead x b p
  | none => s

/-! ### Loads, with forces (R100) -/

/-- The value that a standing force of spire x gives to a bit of space 1 G, 2 I or 3 Q. -/
def State.forced (s : State) (x space a : Nat) : Option Bool :=
  match (List.range 32).find? (fun k => s.flag F.FORCE_ENABLE k x && s.fld F.FORCE_SPACE k x == space && s.fld F.FORCE_INDEX k x == a) with
  | some k => some (s.flag F.FORCE_VALUE k x)
  | none => none

/-- What a load of a bit of space 1 G, 2 I (the running task's frozen image) or 3 Q returns. -/
def State.loadBit (s : State) (x space a : Nat) : Bool :=
  match s.forced x space a with
  | some b => b
  | none =>
    let m := (s.spire x).mem
    if space = 1 then Sparse.get (fun _ => false) m.g a
    else if space = 2 then Sparse.get (fun _ => false) (s.task s.sched.cur).input a
    else Sparse.get (fun _ => false) m.q a

/-- The 32 bits from `a` up as a word, bit 0 the lowest address (R81). -/
def wordOf (f : Nat → Bool) (a : Nat) : Word :=
  BitVec.ofNat 32 ((List.range 32).foldl (fun n i => if f (a + i) then n + 2 ^ i else n) 0)

/-! ### Q copies (spec/09 R194) -/

/-- Copy one Q page into a task's Q copy. -/
def State.qCopyPage (s : State) (x task page : Nat) : State :=
  let lo := page * 32768
  let inPage (e : Nat × Bool) : Bool := Nat.ble lo e.1 && Nat.blt e.1 (lo + 32768)
  s.updSpire x (fun p =>
    let old := Sparse.get (fun _ => ([] : Sparse Bool)) p.pg.qcopy task
    let new := sparseOf (fun _ => false) (old.filter (fun e => !inPage e) ++ p.mem.q.filter inPage)
    { p with pg := { p.pg with
      qcopy := Sparse.set (fun _ => ([] : Sparse Bool)) p.pg.qcopy task new
      qpend := p.pg.qpend.filter (fun e => !(e.1 == page && e.2 == task)) } })

/-- A list up to its last element with p. -/
def upToLast {α : Type} (p : α → Bool) (l : List α) : List α := (l.reverse.dropWhile (fun e => !p e)).reverse

/-- R194: the engine writes to a Q page: it first waits until every copy of that page still to be made is made, and the pages
before it with it, since the copies go in their order. -/
def State.awaitQ (s : State) (x page : Nat) : State :=
  let l := upToLast (fun (e : Nat × Nat) => e.1 == page) (s.spire x).pg.qpend
  if l.isEmpty then s else (s.stall x stQcopy).each l fun s e => s.qCopyPage x e.2 e.1

/-- A bit of a task's Q copy as emission and the voted word read it: a standing force comes first (R100). -/
def State.copyBit (s : State) (x task a : Nat) : Bool :=
  match s.forced x 3 a with
  | some b => b
  | none => Sparse.get (fun _ => false) (Sparse.get (fun _ => ([] : Sparse Bool)) (s.spire x).pg.qcopy task) a

end Sys2Proof.Machine
end

