-- ==== Sys2Proof/Machine/Engine.lean ====
section
/-! DEFINITION. The instructions of the logic engine (spec/04 R76 to R104, spec/06 R137, R138), one definition each,
and the writes to FORCEk and LE_CTRL. An instruction acts while its spire's engine executes a group; at other
times no instruction is executed and the command changes nothing. -/

namespace Sys2Proof.Machine

/-! ### The frame of every instruction -/

/-- EN (R77). -/
def Eng.en (e : Eng) : BitVec 8 := e.stack.headD 0

/-- The base mask (R76). -/
def Eng.base (e : Eng) : BitVec 8 := e.stack.getLastD 0

/-- EN AND ACC: where keep and emission instructions act (R95, R97, R98). -/
def Eng.acting (e : Eng) : BitVec 8 := e.en &&& e.acc

/-- The engine executes a group: it runs and is neither stopped nor at a barrier. -/
def Eng.executes (e : Eng) : Bool := e.run && !e.stopped && !e.barrier

/-- WACC of lane j. -/
def Eng.w (e : Eng) (j : Nat) : Word := e.wacc.getD j 0

/-- Set WACC of lane j. -/
def Eng.setW (e : Eng) (j : Nat) (v : Word) : Eng := { e with wacc := e.wacc.set j v }

/-- Set ACC of lane j. -/
def Eng.setAcc (e : Eng) (j : Nat) (b : Bool) : Eng := { e with acc := setLane e.acc j b }

/-- What the opcode table (R84) allows an opcode: the space codes, and the modifier bits (bit 0 for MOD[24]). -/
structure Enc where
  spaces : List Nat
  mods : Nat
deriving DecidableEq, Repr

/-- The running program has been passed without FIN (R104 cause 0x08). -/
def State.pastEnd (s : State) (x : Nat) : Bool :=
  let c := s.content.codeOf (s.eng x).group
  Nat.ble (c.1 + c.2) (s.eng x).pc

/-- The bank that holds the program in execution, by the place of its instruction words of 4 bytes in the code banks. -/
def State.codeBank (s : State) (x : Nat) : Nat :=
  let l := s.content.banks.zipIdx.filter (fun e => e.1 == 1)
  ((l[(s.eng x).pc * 4 / 262144]?).map (fun e => e.2)).getD 0

/-- R180: the ECC event that the fetch of an instruction meets: the one it comes with, or that of an injection armed for its
bank (spec/17 R388). -/
def State.fetchEcc (s : State) (o : EngOp) : Option EccEv × State :=
  match o.ecc with
  | some v => (some v, s)
  | none =>
    let b := s.codeBank o.spire
    let i := s.takeInject 0 b o.spire
    (i.1.map (fun j => ⟨b, j.double, true⟩), i.2)

/-- One instruction of spire `o.spire` (R84, R88, R104): a spire whose delay register is full waits before it (spec/10
R206); it is passed over while SKIPZ skips; else its encoding is checked and `body` acts. A store that names a read-only space
has a space code which R84 does not give it: it stops with cause 0x01, and cause 0x05 is that of a store to FIRST
(DESIGN CHOICE, log entry 116). -/
def State.instr (s : State) (o : EngOp) (c : Enc) (body : State → State) : State :=
  let x := o.spire
  let e := s.eng x
  if Nat.ble 3 x || !e.executes then s
  else if s.recordWaits x then s.bfWait x
  else if 0 < e.skip then s.updEng x (fun e => { e with skip := e.skip - 1, pc := e.pc + 1 })
  else if s.pastEnd x then s.engStop x 0x08 0
  else match s.fetchEcc o with
    | (some v, s) =>
      if v.double then s.engStop x (if v.code then 0x06 else 0x07) 0
      else if !c.spaces.contains o.sp || o.md &&& c.mods != o.md then (s.eccCorrected x v.bank).engStop x 0x01 0
      else body (s.eccCorrected x v.bank)
    | (none, s) => if !c.spaces.contains o.sp || o.md &&& c.mods != o.md then s.engStop x 0x01 0 else body s

/-! ### Addresses (R80, R81) -/

/-- An effective address within a space of `size`: absolute, or relative to the instance base. -/
def effAddr (base idx size : Nat) : Option Nat :=
  let a := if idx < 2 ^ 20 then idx else base + (idx - 2 ^ 20)
  if a < size then some a else none

/-- The bit address of a lane. -/
def bitAddr (l : LaneDef) (sp idx : Nat) : Option Nat :=
  match sp with
  | 0 => if idx < 512 then some idx else none
  | 1 => effAddr l.g idx 1048576
  | 2 => effAddr l.i idx 262144
  | 3 => effAddr l.q idx 262144
  | 4 => effAddr l.t idx 131072
  | _ => some idx

/-- The word address of a lane; the word views of I and Q start at a multiple of 32. -/
def wordAddr (l : LaneDef) (sp idx : Nat) : Option Nat :=
  match sp with
  | 0 => if idx < 64 then some idx else none
  | 1 => effAddr l.h idx 65536
  | 2 => (effAddr l.i idx 262144).filter (fun a => a % 32 == 0)
  | 3 => (effAddr l.q idx 262144).filter (fun a => a % 32 == 0)
  | 4 => effAddr l.t idx 131072
  | 5 => if idx < 64 then some idx else none
  | 6 => effAddr l.c idx 262144
  | _ => some idx

/-- A lane that holds nothing. -/
def LaneDef.none' : LaneDef := ⟨0, 0, 0, 0, 0, 0, 0, 0, []⟩

/-- The instance in lane j of the group in execution. -/
def State.lane (s : State) (x j : Nat) : LaneDef :=
  (s.content.groups.getD (s.eng x).group ⟨0, 0, []⟩).lanes.getD j LaneDef.none'

/-- The pages that accesses to a space at an address concern (spec/09): the group page for F, V and K, pages of G, H
and Q, and the frozen input image; T and C stand in banks and are not paged. -/
def pageOf (word : Bool) (group task sp a : Nat) : List PageId :=
  match sp with
  | 0 => [.group group]
  | 1 => [if word then .h (a / 1024) else .g (a / 32768)]
  | 2 => [.input task (a / 32768)]
  | 3 => [.q (a / 32768)]
  | 5 => [.group group]
  | _ => []

/-- The accesses of an instruction in its acting lanes: their addresses are checked (R104 cause 0x04, with the lowest
lane concerned; 0 where no lane acts), their pages are addressed, and `k` acts on the pairs of lane and address. -/
def State.access (s : State) (o : EngOp) (word write : Bool) (acting : BitVec 8) (k : List (Nat × Nat) → State → State) : State :=
  let x := o.spire
  let f := if word then wordAddr else bitAddr
  let lanes := lanesOf acting
  match lanes.find? (fun j => (f (s.lane x j) o.sp o.idx).isNone) with
  | some j => s.engStop x 0x04 j
  | none =>
    if lanes.isEmpty && decide (o.idx < 2 ^ 20) && (f LaneDef.none' o.sp o.idx).isNone then s.engStop x 0x04 0
    else
      let l := lanes.map (fun j => (j, (f (s.lane x j) o.sp o.idx).getD 0))
      let pages := (l.flatMap (fun (e : Nat × Nat) => pageOf word (s.eng x).group s.sched.cur o.sp e.2)).eraseDups
      let r := s.touchAll x pages (write && o.sp == 0)
      if r.2 then r.1.engStop x 0x07 (lanes.headD 0)
      else
        let s := if write && o.sp == 3 then r.1.each (l.map (fun (e : Nat × Nat) => e.2 / 32768)).eraseDups (fun s p => s.awaitQ x p) else r.1
        k l s

/-! ### Operands -/

/-- The value of a bit operand in a lane. -/
def State.bitVal (s : State) (x sp j a : Nat) : Bool :=
  match sp with
  | 0 => Sparse.get (fun _ => false) (s.spire x).mem.f (fKey (s.eng x).group j a)
  | 1 => s.loadBit x 1 a
  | 2 => s.loadBit x 2 a
  | 3 => s.loadBit x 3 a
  | 4 => timerDone (Sparse.get (fun _ => 0) (s.spire x).mem.t a)
  | _ => a % 2 == 1

/-- NOW of the running task (R90). -/
def State.nowTick (s : State) : Nat := (s.task s.sched.cur).now

/-- The value of a word operand in a lane. -/
def State.wordVal (s : State) (x sp j a : Nat) : Word :=
  match sp with
  | 0 => Sparse.get (fun _ => 0) (s.spire x).mem.v (vKey (s.eng x).group j a)
  | 1 => Sparse.get (fun _ => 0) (s.spire x).mem.h a
  | 2 => wordOf (s.loadBit x 2) a
  | 3 => wordOf (s.loadBit x 3) a
  | 4 => BitVec.ofNat 32 (timerLeft s.nowTick (Sparse.get (fun _ => 0) (s.spire x).mem.t a))
  | 5 => BitVec.ofNat 32 ((s.lane x j).krefs.getD a 0)
  | 6 => BitVec.ofNat 32 (Sparse.get (fun _ => 0) s.content.consts a)
  | _ => BitVec.ofNat 32 a

/-! ### Bit instructions (R85, R86) -/

/-- Space codes of a bit load. -/
def bitLoadSpaces : List Nat := [0, 1, 2, 3, 4, 7]

/-- A load or logic instruction: `f old op` in the lanes of EN. An immediate index above 1 is reserved (R80). -/
def State.bitLoad (s : State) (o : EngOp) (mods : Nat) (f : Bool → Bool → Bool) : State :=
  s.instr o ⟨bitLoadSpaces, mods⟩ fun s =>
    if o.sp = 7 ∧ 1 < o.idx then s.engStop o.spire 0x01 0
    else s.access o false false (s.eng o.spire).en fun l s =>
      let v := l.map (fun (e : Nat × Nat) => (e.1, f (laneIn (s.eng o.spire).acc e.1) (s.bitVal o.spire o.sp e.1 e.2)))
      (s.updEng o.spire (fun e => v.foldl (fun e (u : Nat × Bool) => e.setAcc u.1 u.2) e)).clocks o.spire 1

/-- LD. -/
def execLd (o : EngOp) (s : State) : Host.Outcome State Fault Refusal :=
  act s fun s => s.bitLoad o 0 (fun _ b => b)

/-- LDN. -/
def execLdn (o : EngOp) (s : State) : Host.Outcome State Fault Refusal :=
  act s fun s => s.bitLoad o 0 (fun _ b => !b)

/-- A: ACC, or NOT ACC with MOD[24]. -/
def accIn (o : EngOp) (a : Bool) : Bool := if o.md % 2 = 1 then !a else a

/-- AND. -/
def execAndI (o : EngOp) (s : State) : Host.Outcome State Fault Refusal :=
  act s fun s => s.bitLoad o 1 (fun a b => accIn o a && b)

/-- ANDN. -/
def execAndn (o : EngOp) (s : State) : Host.Outcome State Fault Refusal :=
  act s fun s => s.bitLoad o 1 (fun a b => accIn o a && !b)

/-- OR. -/
def execOrI (o : EngOp) (s : State) : Host.Outcome State Fault Refusal :=
  act s fun s => s.bitLoad o 1 (fun a b => accIn o a || b)

/-- ORN. -/
def execOrn (o : EngOp) (s : State) : Host.Outcome State Fault Refusal :=
  act s fun s => s.bitLoad o 1 (fun a b => accIn o a || !b)

/-- XOR. -/
def execXorI (o : EngOp) (s : State) : Host.Outcome State Fault Refusal :=
  act s fun s => s.bitLoad o 1 (fun a b => accIn o a != b)

/-- Write a bit of F, G or Q of one lane. -/
def SMem.putBit (m : SMem) (sp group j a : Nat) (b : Bool) : SMem :=
  match sp with
  | 0 => { m with f := Sparse.set (fun _ => false) m.f (fKey group j a) b }
  | 1 => { m with g := Sparse.set (fun _ => false) m.g a b }
  | _ => { m with q := Sparse.set (fun _ => false) m.q a b }

/-- R102: the destination code of a bit store. -/
def bitDest (sp : Nat) : Nat := if sp = 0 then 0 else if sp = 1 then 2 else 4

/-- R102, R103: the records of a bit store of (lane, address, bit): one record for F and for an absolute address,
even with mask 0; one per acting lane for a relative address. -/
def bitRecs (sp idx : Nat) (l : List (Nat × Nat × Bool)) : List WRec :=
  if sp = 0 ∨ idx < 2 ^ 20 then
    [wrec (bitDest sp) idx (l.foldl (fun n e => n + 2 ^ e.1) 0) (l.foldl (fun n e => if e.2.2 then n + 2 ^ e.1 else n) 0)]
  else l.map (fun e => wrec (bitDest sp) e.2.1 (2 ^ e.1) (if e.2.2 then 2 ^ e.1 else 0))

/-- Store bits: memory in ascending lane order (R78), then the records. -/
def State.storeBits (s : State) (x sp idx : Nat) (l : List (Nat × Nat × Bool)) : State :=
  let g := (s.eng x).group
  (s.updMem x (fun m => l.foldl (fun m e => m.putBit sp g e.1 e.2.1 e.2.2) m)).push x (bitRecs sp idx l)

/-- A store to FIRST is refused (R82, R104 cause 0x05). -/
def storesFirst (o : EngOp) : Bool := o.sp == 0 && o.idx == 511

/-- A bit store of `f acc` in the lanes of a mask. -/
def State.bitStore (s : State) (o : EngOp) (mask : Eng → BitVec 8) (f : Bool → Bool) : State :=
  s.instr o ⟨[0, 1, 3], 1⟩ fun s =>
    if storesFirst o then s.engStop o.spire 0x05 0
    else s.access o false true (mask (s.eng o.spire)) fun l s =>
      let acc := (s.eng o.spire).acc
      (s.storeBits o.spire o.sp o.idx (l.map (fun (e : Nat × Nat) => (e.1, e.2, f (laneIn acc e.1))))).clocks o.spire 1

/-- ST. -/
def execSt (o : EngOp) (s : State) : Host.Outcome State Fault Refusal :=
  act s fun s => s.bitStore o Eng.en (accIn o)

/-- EN where ACC is 1, or with N where ACC is 0. -/
def Eng.selected (o : EngOp) (e : Eng) : BitVec 8 := if o.md % 2 = 1 then e.en &&& ~~~e.acc else e.en &&& e.acc

/-- SET. -/
def execSetI (o : EngOp) (s : State) : Host.Outcome State Fault Refusal :=
  act s fun s => s.bitStore o (Eng.selected o) (fun _ => true)

/-- CLR. -/
def execClr (o : EngOp) (s : State) : Host.Outcome State Fault Refusal :=
  act s fun s => s.bitStore o (Eng.selected o) (fun _ => false)

/-- The key under which a new edge detector stands (spec/21 R451): the F bit of the lane, or the G address. -/
def State.edgeKey (s : State) (o : EngOp) (e : Nat × Nat) : Nat × Nat :=
  (o.sp, if o.sp = 0 then fKey (s.eng o.spire).group e.1 e.2 else e.2)

/-- An edge instruction (R86): `f acc p` where FIRST is 0, 0 where it is 1; P becomes the input ACC. The read of P is
a load: a force on it answers (R100). -/
def State.edge (s : State) (o : EngOp) (f : Bool → Bool → Bool) : State :=
  s.instr o ⟨[0, 1], 0⟩ fun s =>
    if storesFirst o then s.engStop o.spire 0x05 0
    else s.access o false true (s.eng o.spire).en fun l s =>
      let x := o.spire
      let acc := (s.eng x).acc
      let v := l.map (fun (e : Nat × Nat) =>
        (e.1, if s.bitVal x 0 e.1 511 || (s.eng x).freshEdges.contains (s.edgeKey o e) then false else f (laneIn acc e.1) (s.bitVal x o.sp e.1 e.2)))
      let s := s.storeBits x o.sp o.idx (l.map (fun (e : Nat × Nat) => (e.1, e.2, laneIn acc e.1)))
      let done := l.map (fun e => s.edgeKey o e)
      let s := s.updEng x (fun e => { e with freshEdges := e.freshEdges.filter (fun k => !done.contains k) })
      (s.updEng x (fun e => v.foldl (fun e (u : Nat × Bool) => e.setAcc u.1 u.2) e)).clocks x 1

/-- EDR. -/
def execEdr (o : EngOp) (s : State) : Host.Outcome State Fault Refusal :=
  act s fun s => s.edge o (fun a p => a && !p)

/-- EDF. -/
def execEdf (o : EngOp) (s : State) : Host.Outcome State Fault Refusal :=
  act s fun s => s.edge o (fun a p => !a && p)

/-! ### Branches (R87, R88) -/

/-- An instruction without operands: space and index are 0 (R84). -/
def State.plain (s : State) (o : EngOp) (mods : Nat) (k : Eng → State → State) : State :=
  s.instr o ⟨[0], mods⟩ fun s => if o.idx ≠ 0 then s.engStop o.spire 0x01 0 else k (s.eng o.spire) s

/-- IF. -/
def execIfI (o : EngOp) (s : State) : Host.Outcome State Fault Refusal :=
  act s fun s => s.plain o 1 fun e s =>
    if 17 ≤ e.stack.length then s.engStop o.spire 0x02 0
    else (s.updEng o.spire (fun e => { e with stack := Eng.selected o e :: e.stack })).clocks o.spire 1

/-- ELSE. -/
def execElseI (o : EngOp) (s : State) : Host.Outcome State Fault Refusal :=
  act s fun s => s.plain o 0 fun e s =>
    match e.stack with
    | t :: u :: r => (s.updEng o.spire (fun e => { e with stack := (u &&& ~~~t) :: u :: r })).clocks o.spire 1
    | _ => s.engStop o.spire 0x03 0

/-- ENDIF. -/
def execEndif (o : EngOp) (s : State) : Host.Outcome State Fault Refusal :=
  act s fun s => s.plain o 0 fun e s =>
    match e.stack with
    | _ :: u :: r => (s.updEng o.spire (fun e => { e with stack := u :: r })).clocks o.spire 1
    | _ => s.engStop o.spire 0x03 0

/-- SKIPZ. -/
def execSkipz (o : EngOp) (s : State) : Host.Outcome State Fault Refusal :=
  act s fun s => s.instr o ⟨[0], 0⟩ fun s =>
    if o.idx = 0 ∨ 255 < o.idx then s.engStop o.spire 0x01 0
    else
      let s := if (s.eng o.spire).en = 0 then s.updEng o.spire (fun e => { e with skip := o.idx }) else s
      s.clocks o.spire 1

/-! ### Word instructions (R89) -/

/-- Space codes of a word operand. -/
def wordLoadSpaces : List Nat := [0, 1, 4, 5, 6, 7]

/-- A word instruction on the lanes of EN: `f acc wacc op` gives ACC, WACC and whether the result saturated. A
saturation is counted and raises SP_SAT. -/
def State.wordOp (s : State) (o : EngOp) (mods : Nat) (f : Bool → Word → Word → Bool × Word × Bool) : State :=
  s.instr o ⟨wordLoadSpaces, mods⟩ fun s =>
    s.access o true false (s.eng o.spire).en fun l s =>
      let x := o.spire
      let v := l.map (fun (e : Nat × Nat) => (e.1, f (laneIn (s.eng x).acc e.1) ((s.eng x).w e.1) (s.wordVal x o.sp e.1 e.2)))
      let s := s.updEng x (fun e => v.foldl (fun e (u : Nat × Bool × Word × Bool) => (e.setAcc u.1 u.2.1).setW u.1 u.2.2.1) e)
      let n := (v.filter (fun u => u.2.2.2)).length
      let s := s.clocks x 1
      if n = 0 then s else (s.bumpReg R.LE_SAT_CNT x 0 n).raise (24 * x + 18)

/-- S of MOD[24]. -/
def signedOp (o : EngOp) : Bool := o.md % 2 == 1

/-- WLD. -/
def execWld (o : EngOp) (s : State) : Host.Outcome State Fault Refusal :=
  act s fun s => s.wordOp o 1 (fun a _ v => (a, if o.md % 2 = 1 then v &&& 0xFFFF#32 else v, false))

/-- WADD. -/
def execWadd (o : EngOp) (s : State) : Host.Outcome State Fault Refusal :=
  act s fun s => s.wordOp o 1 (fun a w v => let r := wadd (signedOp o) w v; (a && !r.2, r.1, r.2))

/-- WSUB. -/
def execWsub (o : EngOp) (s : State) : Host.Outcome State Fault Refusal :=
  act s fun s => s.wordOp o 1 (fun a w v => let r := wsub (signedOp o) w v; (a && !r.2, r.1, r.2))

/-- WCMP. -/
def execWcmp (o : EngOp) (s : State) : Host.Outcome State Fault Refusal :=
  act s fun s => s.wordOp o 3 (fun _ w v => (wcmp (signedOp o) (bitOf o.md 1) w v, w, false))

/-- WMIN. -/
def execWmin (o : EngOp) (s : State) : Host.Outcome State Fault Refusal :=
  act s fun s => s.wordOp o 1 (fun a w v => (a, wmin (signedOp o) w v, false))

/-- WMAX. -/
def execWmax (o : EngOp) (s : State) : Host.Outcome State Fault Refusal :=
  act s fun s => s.wordOp o 1 (fun a w v => (a, wmax (signedOp o) w v, false))

/-- Write a word of V or H of one lane. -/
def SMem.putWord (m : SMem) (sp group j a : Nat) (v : Word) : SMem :=
  match sp with
  | 0 => { m with v := Sparse.set (fun _ => 0) m.v (vKey group j a) v }
  | _ => { m with h := Sparse.set (fun _ => 0) m.h a v }

/-- WST. -/
def execWst (o : EngOp) (s : State) : Host.Outcome State Fault Refusal :=
  act s fun s => s.instr o ⟨[0, 1], 1⟩ fun s =>
    s.access o true true (s.eng o.spire).en fun l s =>
      let x := o.spire
      let e := s.eng x
      let v := l.map (fun (u : Nat × Nat) => (u.1, u.2,
        if o.md % 2 = 1 then (s.wordVal x o.sp u.1 u.2 &&& 0xFFFF0000#32) ||| (e.w u.1 &&& 0xFFFF#32) else e.w u.1))
      let s := s.updMem x (fun m => v.foldl (fun m (u : Nat × Nat × Word) => m.putWord o.sp e.group u.1 u.2.1 u.2.2) m)
      (s.push x (v.map (fun u => wrec (if o.sp = 0 then 1 else 3) u.2.1 (2 ^ u.1) u.2.2.toNat))).clocks x 1

/-! ### Timers (R90 to R94) -/

/-- One lane of a timer instruction: the word it leaves, and whether the preset was refused. Where the kind's table
lists no row the word is free. -/
def State.timerLane (s : State) (x : Nat) (f : Nat → Nat → Bool → Word → TimerRes) (j a : Nat) : State × Word × Bool :=
  match f s.nowTick ((s.eng x).w j).toNat (laneIn (s.eng x).acc j) (Sparse.get (fun _ => 0) (s.spire x).mem.t a) with
  | some r => (s, r.1, r.2)
  | none => (s.draw.2, BitVec.ofNat 32 s.draw.1, false)

/-- TON, TOF, TPL: every lane reads before any writes (R78); ACC becomes DONE, and 0 where the preset was refused
(R92), which is counted and raises SP_PRESET. A record for every lane of EN (R103). -/
def State.timerOp (s : State) (o : EngOp) (f : Nat → Nat → Bool → Word → TimerRes) : State :=
  s.instr o ⟨[4], 0⟩ fun s =>
    s.access o true true (s.eng o.spire).en fun l s =>
      let x := o.spire
      let r := l.foldl (fun (p : State × List (Nat × Nat × Word × Bool)) (e : Nat × Nat) =>
        let q := p.1.timerLane x f e.1 e.2
        (q.1, p.2 ++ [(e.1, e.2, q.2.1, q.2.2)])) (s, [])
      let v := r.2
      let s := r.1.updMem x (fun m => { m with t := v.foldl (fun t (u : Nat × Nat × Word × Bool) => Sparse.set (fun _ => 0) t u.2.1 u.2.2.1) m.t })
      let s := s.updEng x (fun e => v.foldl (fun e (u : Nat × Nat × Word × Bool) => e.setAcc u.1 (timerDone u.2.2.1 && !u.2.2.2)) e)
      let s := (s.push x (v.map (fun u => wrec 5 u.2.1 (2 ^ u.1) u.2.2.1.toNat))).clocks x 2
      let n := (v.filter (fun u => u.2.2.2)).length
      if n = 0 then s else (s.bumpReg R.LE_PRESET_CNT x 0 n).raise (24 * x + 17)

/-- TON. -/
def execTon (o : EngOp) (s : State) : Host.Outcome State Fault Refusal := act s fun s => s.timerOp o ton

/-- TOF. -/
def execTof (o : EngOp) (s : State) : Host.Outcome State Fault Refusal := act s fun s => s.timerOp o tof

/-- TPL. -/
def execTpl (o : EngOp) (s : State) : Host.Outcome State Fault Refusal := act s fun s => s.timerOp o tpl

/-- TTST. -/
def execTtst (o : EngOp) (s : State) : Host.Outcome State Fault Refusal :=
  act s fun s => s.instr o ⟨[4], 0⟩ fun s =>
    s.access o true false (s.eng o.spire).en fun l s =>
      let x := o.spire
      let v := l.map (fun (e : Nat × Nat) => (e.1, Sparse.get (fun _ => 0) (s.spire x).mem.t e.2))
      let now := s.nowTick
      (s.updEng x (fun e => v.foldl (fun e (u : Nat × Word) =>
        (e.setAcc u.1 (timerDone u.2)).setW u.1 (BitVec.ofNat 32 (timerLeft now u.2))) e)).clocks x 2

/-! ### Keep instructions (R95, R96, spec/06 R136 to R140) -/

/-- The registers that count results and peaks (spec/06 R152). -/
def State.keepCounted (s : State) (x : Nat) (o : KOut) : State :=
  let s := s.bumpReg R.KP_RES o.code x
  let s := s.peak F.KP_PEAK_OPEN_MAX o.keep.openCount x
  s.peak F.KP_PEAK_SHARE_MAX (o.old.foldl (fun n e => max n (o.keep.token e.1).shareCnt) 0) x


/-- One acting lane of a keep instruction: the whole operation `f` on the keep as the lanes before it left it, its
operation record, its token records and the record of the V word it writes. An injection into the token CRC check
(spec/17 R388) meets it as a bad token. Answers whether the engine has stopped. -/
def State.keepLane (s : State) (o : EngOp) (opc : Nat) (f : KCtx → KeepSt → KOut) (j a : Nat) : State × Bool :=
  let x := o.spire
  let inj := s.takeInject 2 0 x
  let s := inj.2
  let r := if inj.1.isSome then KOut.badToken (s.spire x).keep else f s.kctx (s.spire x).keep
  match r.stop with
  | some c => (s.keepStop x c j r.keepFault, true)
  | none =>
    let g := (s.eng x).group
    let s := s.updSpire x (fun p => { p with keep := r.keep })
    let s := match r.v with | some v => s.updMem x (fun m => m.putWord 0 g j a (BitVec.ofNat 32 v)) | none => s
    let s := s.updEng x (fun e => (e.setW j (BitVec.ofNat 32 r.code)).setAcc j (r.code == 0))
    let s := s.keepCounted x r
    let op := wrec 6 (opc % 32 * 65536 + r.idx) (2 ^ j) (r.trans * 65536 + r.code)
    let vr := match r.v with | some v => [wrec 1 a (2 ^ j) v] | none => []
    (s.push x (op :: (r.tokenRecs (2 ^ j) ++ vr)), false)

/-- The lanes of a keep instruction in order, until one stops the engine (R78, R104). -/
def State.keepLanes (s : State) (o : EngOp) (opc : Nat) (f : State → Nat → Nat → KCtx → KeepSt → KOut) : List (Nat × Nat) → State
  | [] => s
  | e :: l =>
    let r := s.keepLane o opc (f s e.1 e.2) e.1 e.2
    if r.2 then r.1 else r.1.keepLanes o opc f l

/-- A keep instruction acting where EN and ACC are 1, in space `sp` (0 V, 5 K), with its clocks over the acting
lanes; 2 clocks with none. -/
def State.keepInstr (s : State) (o : EngOp) (sp opc : Nat) (clk : State → Nat → Nat → Nat)
    (f : State → Nat → Nat → KCtx → KeepSt → KOut) : State :=
  s.instr o ⟨[sp], 0⟩ fun s =>
    let x := o.spire
    s.access o true (sp == 0) (s.eng x).acting fun l s =>
      let n := if l.isEmpty then 2 else l.foldl (fun n (e : Nat × Nat) => n + clk s e.1 e.2) 0
      let s := s.keepLanes o opc f l
      if (s.eng x).stopped || !(s.eng x).run then s else s.clocks x n

/-- The token that K reference `a` of lane j names; the engine stops with cause 0x0A where it is no token of the
image. -/
def State.onToken (s : State) (x j a : Nat) (f : Nat → Word → KCtx → KeepSt → KOut) (c : KCtx) (p : KeepSt) : KOut :=
  let k := (s.lane x j).krefs.getD a 0
  if k < p.tokens.length then f k ((s.eng x).w j) c p else .malformed p

/-- CLAIM V (R137): WACC [14:0] is the route. -/
def execClaim (o : EngOp) (s : State) : Host.Outcome State Fault Refusal :=
  act s fun s => s.keepInstr o 0 0x28
    (fun s j _ => 8 + 2 * ((s.content.routes.find? (fun d => d.number == ((s.eng o.spire).w j).toNat % 32768)).map (fun d => d.entries.length)).getD 0)
    (fun s j _ c p => c.claim p (((s.eng o.spire).w j).toNat % 32768) (s.lane o.spire j).inst)

/-- RELS K (R138). -/
def execRelsK (o : EngOp) (s : State) : Host.Outcome State Fault Refusal :=
  act s fun s => s.keepInstr o 5 0x29 (fun _ _ _ => 6)
    (fun s j a => s.onToken o.spire j a (fun k w c p => c.relsK p k w.toNat))

/-- RELS V (R138). -/
def execRelsV (o : EngOp) (s : State) : Host.Outcome State Fault Refusal :=
  act s fun s => s.keepInstr o 0 0x29
    (fun s j a => 4 + 2 * ((s.spire o.spire).keep.slot (s.wordVal o.spire 0 j a).toNat).entries.length)
    (fun s j a c p => c.relsV p (s.wordVal o.spire 0 j a).toNat)

/-- SHARE K (R138). -/
def execShare (o : EngOp) (s : State) : Host.Outcome State Fault Refusal :=
  act s fun s => s.keepInstr o 5 0x2A (fun _ _ _ => 6)
    (fun s j a => s.onToken o.spire j a (fun k w c p => c.share p k w.toNat))

/-- UNSHARE K (R138). -/
def execUnshare (o : EngOp) (s : State) : Host.Outcome State Fault Refusal :=
  act s fun s => s.keepInstr o 5 0x2B (fun _ _ _ => 6)
    (fun s j a => s.onToken o.spire j a (fun k w c p => c.unshare p k w.toNat))

/-- QRY of one lane after the other (R78): WACC is quarter 0 of the token, ACC whether it is FREE. A reference to no token, or a
token that is not readable, stops the engine there; the lanes before it have acted. -/
def State.qryLanes (s : State) (x : Nat) : List (Nat × Nat) → State
  | [] => s.clocks x 2
  | e :: l =>
    let p := (s.spire x).keep
    let k := (s.lane x e.1).krefs.getD e.2 0
    if p.tokens.length ≤ k then s.keepStop x 0x0A e.1 false
    else
      let inj := s.takeInject 2 0 x
      if inj.1.isSome || (p.token k).bad then inj.2.keepStop x 0x07 e.1 true
      else
        (inj.2.updEng x (fun g => (g.setW e.1 (BitVec.ofNat 32 ((p.token k).quarter 0))).setAcc e.1 ((p.token k).st == 0))).qryLanes x l

/-- QRY K (R95, R138): every lane of EN. -/
def execQry (o : EngOp) (s : State) : Host.Outcome State Fault Refusal :=
  act s fun s => s.instr o ⟨[5], 0⟩ fun s => s.access o true false (s.eng o.spire).en fun l s => s.qryLanes o.spire l

/-- OFFER K (R138): WACC [15:0] is the peer. -/
def execOffer (o : EngOp) (s : State) : Host.Outcome State Fault Refusal :=
  act s fun s => s.keepInstr o 5 0x2D (fun _ _ _ => 10)
    (fun s j a => s.onToken o.spire j a (fun k w c p => c.offer p k (w.toNat % 65536)))

/-- ACPT K (R138): WACC [15:0] is the transfer sequence. -/
def execAcpt (o : EngOp) (s : State) : Host.Outcome State Fault Refusal :=
  act s fun s => s.keepInstr o 5 0x2E (fun _ _ _ => 10)
    (fun s j a => s.onToken o.spire j a (fun k w c p => c.acpt p k (w.toNat % 65536)))

/-! ### Input, output, emission (R97, R98) -/

/-- IN. -/
def execInI (o : EngOp) (s : State) : Host.Outcome State Fault Refusal :=
  act s fun s => s.instr o ⟨[2], 0⟩ fun s =>
    s.access o true false (s.eng o.spire).en fun l s =>
      let x := o.spire
      let v := l.map (fun (e : Nat × Nat) => (e.1, s.wordVal x 2 e.1 e.2))
      (s.updEng x (fun e => v.foldl (fun e (u : Nat × Word) => e.setW u.1 u.2) e)).clocks x 1

/-- Write 32 bits of Q from `a` up. -/
def SMem.putQWord (m : SMem) (a : Nat) (v : Word) : SMem :=
  (List.range 32).foldl (fun (m : SMem) i => { m with q := Sparse.set (fun _ => false) m.q (a + i) (v.getLsbD i) }) m

/-- OUT: in the operation record the index is the Q word address (R102). -/
def execOutI (o : EngOp) (s : State) : Host.Outcome State Fault Refusal :=
  act s fun s => s.instr o ⟨[3], 0⟩ fun s =>
    s.access o true true (s.eng o.spire).acting fun l s =>
      let x := o.spire
      let e := s.eng x
      let s := s.updMem x (fun m => l.foldl (fun m (u : Nat × Nat) => m.putQWord u.2 (e.w u.1)) m)
      (s.push x (l.map (fun u => wrec 6 (0x11 * 65536 + u.2 / 32) (2 ^ u.1) (e.w u.1).toNat))).clocks x 1

/-- The image defines output message n. -/
def ImageContent.hasMsg (m : ImageContent) (n : Nat) : Bool := m.msgs.any (fun d => d.num == n)

/-- The message that a lane's EMIT names (R81). -/
def State.messageOf (s : State) (o : EngOp) (j : Nat) : Nat :=
  if o.idx < 2 ^ 20 then o.idx else (s.lane o.spire j).m + (o.idx - 2 ^ 20)

/-- EMIT of one lane after the other (R78): the message is marked once, and recorded. A number outside the image's messages lies
outside its space, and stops the engine there; the lanes before it have acted. -/
def State.emitLanes (s : State) (x : Nat) : List (Nat × Nat) → State
  | [] => s.clocks x 2
  | e :: l =>
    if s.content.hasMsg e.2 then
      let s := s.updTask s.sched.cur (fun t => { t with marks := if t.marks.contains (x, e.2) then t.marks else t.marks ++ [(x, e.2)] })
      (s.push x [wrec 6 (0x12 * 65536 + e.2) (2 ^ e.1) 0]).emitLanes x l
    else s.engStop x 0x04 e.1

/-- EMIT (R98). -/
def execEmit (o : EngOp) (s : State) : Host.Outcome State Fault Refusal :=
  act s fun s => s.instr o ⟨[7], 0⟩ fun s =>
    s.emitLanes o.spire ((lanesOf (s.eng o.spire).acting).map (fun j => (j, s.messageOf o j)))

/-! ### The finial (R99) -/

/-- FIN: the finial record, FIRST cleared for the group's instances, the group ended; the spire waits at the barrier. -/
def execFinI (o : EngOp) (s : State) : Host.Outcome State Fault Refusal :=
  act s fun s => s.plain o 0 fun e s =>
    let x := o.spire
    if 1 < e.stack.length then s.engStop x 0x03 0
    else
      let r := s.touch x (.group e.group) true
      if r.2 then r.1.engStop x 0x07 0
      else
        let s := r.1.updMem x (fun m => (lanesOf e.base).foldl (fun m j => m.putBit 0 e.group j 511 false) m)
        let s := s.push x [wrec 7 e.group e.base.toNat (e.acc &&& e.base).toNat]
        (s.clocks x 1).updEng x (fun e => { e with run := false, barrier := true })

/-! ### Registers of the engine (R100, R101, R105) -/

/-- May FORCEk take this value (R100, R101, FORCEk.SPACE)? -/
def State.forceOk (s : State) (k v : Nat) : Bool :=
  if !bitOf v 31 then true
  else
    let space := bits v 21 3
    let index := bits v 0 21
    (space == 1 || space == 2 || space == 3)
      && (List.range 32).all (fun i => i == k || !(s.flag F.FORCE_ENABLE i s.lead && s.fld F.FORCE_SPACE i s.lead == space && s.fld F.FORCE_INDEX i s.lead == index))

/-- The effect of a value written to FORCEk; a write that lifts a standing force is recorded. -/
def State.forceSet (s : State) (k a : Nat) : State :=
  let was := s.flag F.FORCE_ENABLE k s.lead
  let s := s.each s.compared fun s x => s.wr R.FORCE (a % 2 ^ 32 &&& 0x81FFFFFF) k x
  let s := if was && !bitOf a 31 then s.event .forceLift srcService k else s
  s.countForces.forceSource

/-- FORCE_WRITE: access RWM (spec/00 R9). -/
def execForceWrite (c : Svc) (k : Nat) (v : SpireVals) (s : State) : Host.Outcome State Fault Refusal :=
  act s fun s => s.svcRwmSpires c (R.FORCE.key k 0) (s.rd R.FORCE k s.lead) v (fun a s => Nat.blt k 32 && s.forceOk k a) fun a s => s.forceSet k a

/-- The effect of a value written to LE_CTRL (R105): bit 0 clears LE_CLK_MAX, bit 1 the two counters. -/
def State.leCtrl (s : State) (a : Nat) : State :=
  s.each s.compared fun s x =>
    let s := if bitOf a 0 then s.wr R.LE_CLK_MAX 0 x else s
    if bitOf a 1 then (s.wr R.LE_SAT_CNT 0 x).wr R.LE_PRESET_CNT 0 x else s

/-- LE_CTRL.CLR_MAX (R105); a value that sets both bits does both. -/
def execLeCtrlClrMax (c : Svc) (v : SpireVals) (s : State) : Host.Outcome State Fault Refusal :=
  act s fun s => s.svcWriteSpires c (R.LE_CTRL.key 0 0) v fun a s => s.leCtrl a

/-- LE_CTRL.CLR_CNT (R105); a value that sets both bits does both. -/
def execLeCtrlClrCnt (c : Svc) (v : SpireVals) (s : State) : Host.Outcome State Fault Refusal :=
  act s fun s => s.svcWriteSpires c (R.LE_CTRL.key 0 0) v fun a s => s.leCtrl a

end Sys2Proof.Machine
end

