-- ==== Sys2Proof/Machine/ProgCheck.lean ====
section
/-! DEFINITION. The load-time checks of logic code (spec/03 R64, R70 checks 0x12 to 0x14; spec/00 R5; spec/04 R83): the
encoding of every program, the addresses, timers and writes of every instance that runs it, and the declarations of
what it uses. -/

namespace Sys2Proof.Machine

/-! ### Instruction words (spec/04, Instruction format) -/

/-- The four fields of an instruction word. -/
structure Ins where
  op : Nat
  md : Nat
  sp : Nat
  idx : Nat
deriving DecidableEq, Repr

/-- The fields of a word. -/
def insOf (w : Word) : Ins := ⟨w.toNat / 2 ^ 26, w.toNat / 2 ^ 24 % 4, w.toNat / 2 ^ 21 % 8, w.toNat % 2 ^ 21⟩

/-- R84: the space codes and the modifier bits that an opcode allows; none for a reserved opcode. -/
def opcodeRow (op : Nat) : Option Enc :=
  if op ∈ [0x01, 0x02] then some ⟨[0, 1, 2, 3, 4, 7], 0⟩
  else if op ∈ [0x03, 0x04, 0x05, 0x06, 0x07] then some ⟨[0, 1, 2, 3, 4, 7], 1⟩
  else if op ∈ [0x08, 0x09, 0x0A] then some ⟨[0, 1, 3], 1⟩
  else if op ∈ [0x0C, 0x0D] then some ⟨[0, 1], 0⟩
  else if op = 0x10 then some ⟨[0], 1⟩
  else if op ∈ [0x11, 0x12, 0x13, 0x28, 0x3E] then some ⟨[0], 0⟩
  else if op ∈ [0x18, 0x1A, 0x1B, 0x1D, 0x1E] then some ⟨[0, 1, 4, 5, 6, 7], 1⟩
  else if op = 0x1C then some ⟨[0, 1, 4, 5, 6, 7], 3⟩
  else if op = 0x19 then some ⟨[0, 1], 1⟩
  else if op ∈ [0x20, 0x21, 0x22, 0x23] then some ⟨[4], 0⟩
  else if op = 0x29 then some ⟨[0, 5], 0⟩
  else if op ∈ [0x2A, 0x2B, 0x2C, 0x2D, 0x2E] then some ⟨[5], 0⟩
  else if op = 0x30 then some ⟨[2], 0⟩
  else if op = 0x31 then some ⟨[3], 0⟩
  else if op = 0x32 then some ⟨[7], 0⟩
  else none

/-- The opcodes without an address: IF, ELSE, ENDIF, SKIPZ, EMIT, FIN. -/
def Ins.bare (i : Ins) : Bool := [0x10, 0x11, 0x12, 0x13, 0x32, 0x3E].contains i.op

/-- R80 to R84, R88: a reserved opcode, modifier or space code, a field that must be 0 or in range and is not, or a write
of FIRST (R82). -/
def Ins.encBad (i : Ins) : Bool :=
  (match opcodeRow i.op with
    | none => true
    | some r => !r.spaces.contains i.sp || i.md &&& r.mods != i.md)
    || ([0x10, 0x11, 0x12, 0x3E].contains i.op && i.idx != 0) || (i.op == 0x13 && (i.idx == 0 || Nat.blt 255 i.idx))
    || (Nat.blt i.op 0x10 && i.sp == 7 && Nat.ble 2 i.idx) || ([0x08, 0x09, 0x0A, 0x0C, 0x0D].contains i.op && i.sp == 0 && i.idx == 511)

/-- The effective address of an instance (R81); none outside the space or, for the word views of I and Q, not at a
multiple of 32. -/
def Ins.address (i : Ins) (l : LaneDef) : Option Nat := if i.op < 0x10 then bitAddr l i.sp i.idx else wordAddr l i.sp i.idx

/-! ### Programs -/

/-- One instruction against the open IFs (for each, whether its ELSE has come): the new ones, or none where R77 or R87 is
broken. -/
def progStep (st : Option (List Bool)) (i : Ins) : Option (List Bool) :=
  match st with
  | none => none
  | some l =>
    if i.op = 0x10 then (if 16 ≤ l.length then none else some (false :: l))
    else if i.op = 0x11 then (match l with | false :: t => some (true :: t) | _ => none)
    else if i.op = 0x12 then (match l with | _ :: t => some t | [] => none)
    else some l

/-- R88: the instructions that a SKIPZ passes over are balanced and hold no FIN. -/
def passable (body : List Ins) : Bool := (body.foldl progStep (some [])) == some [] && !body.any (fun i => i.op == 0x3E)

/-- R88: some SKIPZ passes over what it may not, or past the end. -/
def skipBad : List Ins → Bool
  | [] => false
  | i :: t => (i.op == 0x13 && ((t.take i.idx).length != i.idx || !passable (t.take i.idx))) || skipBad t

/-- R83 on a program by itself: encoding, absolute addresses, mask stack, IF and ENDIF, SKIPZ, and FIN as its last
instruction and only there (R99). -/
def ETypeDef.bad (e : ETypeDef) : Bool :=
  let p := e.code.map insOf
  p.any Ins.encBad || (p.foldl progStep (some [])) != some [] || skipBad p
    || p.getLast?.map Ins.op != some 0x3E || p.dropLast.any (fun i => i.op == 0x3E)
    || p.any (fun i => !i.bare && Nat.blt i.idx (2 ^ 20) && (i.address LaneDef.none').isNone)

/-! ### Instances (R83: for every instance that runs the program) -/

/-- Every instance with its element type: number, type, bases. -/
def ImageContent.runs (m : ImageContent) : List (Nat × ETypeDef × LaneDef) :=
  m.groups.flatMap (fun g => match m.etypes[g.etype]? with
    | some e => g.lanes.map (fun l => (g.etype, e, l))
    | none => [])

/-- Every instruction of every instance with an address: element type number, its domain, instruction, address. -/
def ImageContent.operands (m : ImageContent) : List (Nat × Nat × Ins × Option Nat) :=
  m.runs.flatMap (fun r => ((r.2.1.code.map insOf).filter (fun i => !i.bare)).map (fun i => (r.1, r.2.1.domain, i, i.address r.2.2)))

/-- R83: one timer named by two of TON, TOF and TPL. -/
def ImageContent.timersBad (m : ImageContent) : Bool :=
  let named := m.operands.filter (fun u => [0x20, 0x21, 0x22].contains u.2.2.1.op)
  named.any (fun a => named.any (fun b => a.2.2.2 == b.2.2.2 && a.2.2.1.op != b.2.2.1.op))

/-- R81, R83: an EMIT of some instance that names no message of the image. -/
def ImageContent.emitBad (m : ImageContent) : Bool :=
  m.runs.any (fun r => ((r.2.1.code.map insOf).filter (fun i => i.op == 0x32)).any (fun i =>
    !m.hasMsg (if i.idx < 2 ^ 20 then i.idx else r.2.2.m + (i.idx - 2 ^ 20))))

/-- Check 0x13. -/
def ImageContent.logicBad (m : ImageContent) : Bool :=
  m.etypes.any ETypeDef.bad || m.operands.any (fun u => u.2.2.2.isNone) || m.timersBad || m.emitBad

/-- R64: an instruction that writes a G bit or H word which its domain does not own. -/
def ImageContent.foreignWrite (m : ImageContent) : Bool :=
  let owns (l : List (Nat × Nat × Nat)) (d a : Nat) : Bool := l.any (fun o => o.1 == d && Nat.ble o.2.1 a && Nat.blt a (o.2.1 + o.2.2))
  m.operands.any (fun u =>
    match u.2.2.2 with
    | none => false
    | some a =>
      if u.2.2.1.sp != 1 then false
      else if [0x08, 0x09, 0x0A, 0x0C, 0x0D].contains u.2.2.1.op then !owns m.ownG u.2.1 a
      else u.2.2.1.op == 0x19 && !owns m.ownH u.2.1 a)

/-! ### Declarations (spec/00 R5) -/

/-- Is a location declared, vital or non-vital? Space codes 0 F, 1 G, 2 I, 3 Q, 4 T, 5 H, 6 V; a bit of F stands at
element type * 512 + bit, a word of V at element type * 64 + word. -/
def ImageContent.declared (m : ImageContent) (space a : Nat) : Bool :=
  (m.vital ++ m.plain).any (fun v => v.1 == space && Nat.ble v.2.1 a && Nat.blt a (v.2.1 + v.2.2))

/-- The locations that an instruction uses: space, first address, count. FIRST is declared by the module (R82); K, C and
immediate operands are no declared locations. -/
def Ins.used (i : Ins) (etype a : Nat) : List (Nat × Nat × Nat) :=
  if i.op < 0x10 then
    match i.sp with
    | 0 => if a = 511 then [] else [(0, etype * 512 + a, 1)]
    | 7 => []
    | sp => [(sp, a, 1)]
  else match i.sp with
    | 0 => [(6, etype * 64 + a, 1)]
    | 1 => [(5, a, 1)]
    | 2 => [(2, a, 32)]
    | 3 => [(3, a, 32)]
    | 4 => [(4, a, 1)]
    | _ => []

/-- What an output message reads of Q. -/
def MsgDef.used (d : MsgDef) : List (Nat × Nat × Nat) :=
  match d.kind with
  | .command _ _ len q => [(3, q, 8 * (len - 20))]
  | .plain _ _ len q => [(3, q, 8 * len)]
  | .ringQueue _ _ len q => [(3, q, 8 * len)]

/-- What local I/O uses: the inputs and pairs in use with their wire-break bits, the outputs' Q bits. -/
def IoMap.used (i : IoMap) : List (Nat × Nat × Nat) :=
  [(2, i.iVal, i.inputs.length)] ++ i.pairs.map (fun p => (2, i.iPair + p.1, 1))
    ++ ((i.inputs.zipIdx).filter (fun e => e.1.wbEn)).map (fun e => (2, i.iWb + e.2, 1)) ++ i.outputs.map (fun o => (3, o.q, 1))

/-- Every location that logic code, local I/O or a message uses. -/
def ImageContent.used (m : ImageContent) : List (Nat × Nat × Nat) :=
  m.operands.flatMap (fun u => match u.2.2.2 with | some a => u.2.2.1.used u.1 a | none => [])
    ++ (match m.io with | some i => i.used | none => []) ++ m.msgs.flatMap MsgDef.used
    ++ m.can.flatMap (fun c => c.ctls.map (fun k => (2, k.iBase, 8 * (k.len - 20))) ++ c.rx.map (fun r => (2, r.2.2, 8 * r.2.1))
        ++ (match c.sleepQ with | some q => [(3, q, 1)] | none => []))
    ++ (if m.ring.exw = 0 then [] else [(3, m.ring.expQ, 32 * m.ring.exw)]) ++ m.ring.imports.map (fun i => (2, i.2.2, 32 * i.2.1))
    ++ m.sessions.flatMap (fun d => [(3, d.txQ, 8 * d.txLen), (2, d.rxI, 8 * d.rxLen)])
    ++ m.queues.map (fun q => (2, q.iBase, 32 + q.depth * (32 + 8 * q.descMax)))

/-- R5: a location that is used and not declared. -/
def ImageContent.undeclared (m : ImageContent) : Bool :=
  m.used.any (fun u => !(List.range u.2.2).all (fun k => m.declared u.1 (u.2.1 + k)))

/-- R6: a vital location given a reset value other than 0. -/
def ImageContent.vitalPreset (m : ImageContent) : Bool :=
  let types (n : Nat) : List Nat := (m.groups.filter (fun g => g.lanes.any (fun l => l.inst == n))).map GroupDef.etype
  m.initG.any (fun a => m.vitalBit 1 a) || m.initQ.any (fun a => m.vitalBit 3 a) || m.initH.any (fun e => e.2 != 0 && m.vitalBit 5 e.1)
    || m.initF.any (fun e => (types e.1).any (fun t => m.vitalBit 0 (t * 512 + e.2)))
    || m.initV.any (fun e => e.2.2 != 0 && (types e.1).any (fun t => m.vitalBit 6 (t * 64 + e.2.1)))

end Sys2Proof.Machine
end

