-- ==== Sys2Proof/Machine/ImageOps.lean ====
section
/-! DEFINITION. The load-time checks of a station image (spec/03 R51 to R70, with the ranges that other chapters refuse
at load), on one spire's copy. Conditions on bodies whose fields the spec does not lay out stand in the command
(`ImageDoc.others`; log entry 6). -/

namespace Sys2Proof.Machine

/-! ### Bytes -/

/-- Header bytes 0 to 251 (R52). -/
def ImageDoc.header (d : ImageDoc) : List Byte :=
  beBytes 4 d.magic ++ beBytes 2 d.format ++ beBytes 2 d.headerLen ++ beBytes 8 d.idHash ++ beBytes 4 d.version ++ beBytes 4 d.hwType
    ++ beBytes 4 d.totalLen ++ beBytes 2 d.sectionCount ++ beBytes 2 d.flags ++ beBytes 8 d.buildTai ++ beBytes 4 d.askahVer
    ++ beBytes 4 d.minFw ++ beBytes 8 d.baseIdHash ++ beBytes 4 d.baseVersion ++ beBytes 4 d.rsvd60 ++ beBytes 64 d.name
    ++ beBytes 32 d.areaHash ++ beBytes 92 d.rsvd160

/-- Section header bytes 0 to 11 and the body (R55). -/
def SectionDoc.covered (x : SectionDoc) : List Byte :=
  beBytes 2 x.type ++ beBytes 2 x.sver ++ beBytes 4 x.length ++ beBytes 2 x.domain ++ beBytes 2 x.inst ++ x.body

/-- A whole section. -/
def SectionDoc.bytes (x : SectionDoc) : List Byte := (x.covered.take 12) ++ beBytes 4 x.check ++ x.body

/-- The section area. -/
def ImageDoc.area (d : ImageDoc) : List Byte := d.sections.flatMap SectionDoc.bytes

/-- An approval record (R60). -/
def ApprovalDoc.bytes (a : ApprovalDoc) : List Byte :=
  beBytes 1 a.role ++ beBytes 7 a.rsvd ++ beBytes 8 a.tai ++ beBytes 48 a.person ++ beBytes 32 a.certFp ++ beBytes 32 a.rsvd2

/-- What the signature covers (R51). -/
def ImageDoc.signed (d : ImageDoc) : List Byte := d.header ++ beBytes 4 d.headerCrc ++ d.area ++ d.approvals.flatMap ApprovalDoc.bytes

/-- The whole image (R72). -/
def ImageDoc.bytes (d : ImageDoc) : List Byte :=
  d.signed ++ beBytes 2 d.sigAlg ++ beBytes 1 d.keySlot ++ beBytes 5 d.sigRsvd ++ beBytes 64 d.sig ++ beBytes 8 d.sigRsvd2

/-- FLAGS.BENCH and FLAGS.DELTA. -/
def ImageDoc.bench (d : ImageDoc) : Bool := bitOf d.flags 0
def ImageDoc.delta (d : ImageDoc) : Bool := bitOf d.flags 1

/-! ### Bodies that the spec lays out, and sections that are absent (R58, R67, R69; spec/12 R261, R284; spec/19 R419) -/

/-- The big-endian number in `n` bytes of the body from byte `o` on. -/
def SectionDoc.num (x : SectionDoc) (o n : Nat) : Nat := beNat ((x.body.drop o).take n)

/-- The sections of a type, in order of INST. -/
def ImageDoc.ofType (d : ImageDoc) (t : Nat) : List SectionDoc := d.sections.filter (fun x => x.type == t)

/-- R69: the TIMING body. -/
def SectionDoc.timing (x : SectionDoc) : TimingDef :=
  ⟨x.num 0 2, x.num 2 1, x.num 3 1, x.num 4 1, x.num 5 1, x.num 6 2, x.num 8 2, x.num 10 1, x.num 11 1, x.num 12 1, x.num 13 1⟩

/-- Spec/12 R261: the RING_NODE body. -/
def SectionDoc.ringNode (x : SectionDoc) : RingNode where
  addrA := x.num 0 2
  addrB := x.num 2 2
  beta := x.num 4 1
  tmA := x.num 5 1
  tmB := x.num 6 1
  sm := x.num 7 1
  cs := x.num 8 1
  exw := x.num 9 1
  expQ := x.num 12 4
  poly := ⟨x.num 16 4, x.num 20 4, x.num 24 4⟩
  imports := (List.range (x.num 10 1)).map (fun i => (x.num (32 + 8 * i) 2, x.num (34 + 8 * i) 1, x.num (36 + 8 * i) 4))

/-- Spec/12 R284: a RING_SCHEDULE body. -/
def SectionDoc.ringSched (x : SectionDoc) : RingSched where
  nslots := x.num 0 2
  slotHalf := x.num 2 1
  dynMs := x.num 4 2
  owners := (List.range 256).map (fun i => x.num (8 + 2 * i) 2)
  positions := (List.range (x.num 6 2)).map (fun i => (x.num (520 + 8 * i) 2, x.num (524 + 8 * i) 4))

/-- Offset in the section of the first byte of a laid-out body that is reserved and not 0. -/
def SectionDoc.rsvdAt (x : SectionDoc) : Option Nat :=
  let fields : List (Nat × Nat) :=
    if x.type = 0x0001 then [(30, 2)]
    else if x.type = 0x0003 then [(14, 2)]
    else if x.type = 0x0050 then [(11, 1), (28, 4)] ++ (List.range 16).map (fun i => (35 + 8 * i, 1))
    else if x.type = 0x0051 then (3, 1) :: (List.range (x.num 6 2)).map (fun i => (522 + 8 * i, 2))
    else if x.type = 0x0090 then [(2, 2)]
    else []
  (fields.find? (fun f => x.num f.1 f.2 != 0)).map (fun f => 16 + f.1)

/-- The content that a document means: identity, laid-out bodies, DOMAIN of the element types and the list of sections come from
its bytes, the other bodies as the operand gives them (log entry 6); what an absent section would set is empty or its default
(R58). -/
def ImageDoc.image (d : ImageDoc) : ImageContent :=
  let c := d.content
  let has (t : Nat) : Bool := !(d.ofType t).isEmpty
  let some1 {α : Type} (t : Nat) (l : List α) : List α := if has t then l else []
  { c with
    id := ⟨d.idHash, d.version⟩
    bench := d.bench
    sections := d.sections.map (fun x => (x.type, x.inst))
    banks := match d.ofType 0x0001 with | x :: _ => (List.range 24).map (fun i => x.num i 1) | [] => []
    tokensDecl := match d.ofType 0x0001 with | x :: _ => x.num 24 4 | [] => 0
    transactions := match d.ofType 0x0001 with | x :: _ => x.num 28 2 | [] => 0
    timing := match d.ofType 0x0003 with | x :: _ => x.timing | [] => c.timing
    etypes := c.etypes.zipIdx.map (fun e => match (d.ofType 0x0010)[e.2]? with | some x => { e.1 with domain := x.domain } | none => e.1)
    consts := some1 0x0012 c.consts
    tokens := some1 0x0020 c.tokens
    lockm := if has 0x0021 then c.lockm else none
    routes := some1 0x0022 c.routes
    peers := some1 0x0023 c.peers
    io := if has 0x0040 then c.io else none
    ring := match d.ofType 0x0050 with | x :: _ => x.ringNode | [] => c.ring
    scheds := (d.ofType 0x0051).map SectionDoc.ringSched
    pair := if has 0x0052 then c.pair else none
    can := some1 0x0060 c.can
    msgs := c.msgs.filter (fun m => match m.kind with | .ringQueue _ _ _ _ => has 0x0070 | _ => has 0x0060)
    sessions := some1 0x0070 c.sessions
    queues := some1 0x0071 c.queues
    reacts := some1 0x0080 c.reacts
    recWin := if has 0x0080 then c.recWin else 24
    actMax := match d.ofType 0x0090 with | x :: _ => x.num 0 1 | [] => 3
    stbyMax := match d.ofType 0x0090 with | x :: _ => x.num 1 1 | [] => 4 }

/-! ### Where a check fails: section index (0xFFFF when none) and byte offset -/

/-- A failure: code, section, offset; the offset stays open where the spec lays out no field (log entry 31). -/
structure LoadFail where
  code : Nat
  sectNo : Nat
  offset : Option Nat
deriving DecidableEq, Repr

/-- A failure in the header or a block. -/
def failAt (code offset : Nat) : LoadFail := ⟨code, 0xFFFF, some offset⟩

/-- Offsets of the sections. -/
def sectionOffsets (l : List SectionDoc) (o : Nat) : List Nat :=
  match l with
  | [] => []
  | x :: t => o :: sectionOffsets t (o + 16 + x.length)

/-- The sections with index and offset. -/
def ImageDoc.placed (d : ImageDoc) : List (Nat × Nat × SectionDoc) :=
  ((d.sections.zip (sectionOffsets d.sections 256)).zipIdx).map (fun e => (e.2, e.1.2, e.1.1))

/-- Length of the section area. -/
def ImageDoc.areaLen (d : ImageDoc) : Nat := d.sections.foldl (fun n x => n + 16 + x.length) 0

/-- The first section that satisfies `p`: a failure at `o` bytes from its start. -/
def ImageDoc.failSection (d : ImageDoc) (code o : Nat) (p : SectionDoc → Bool) : Option LoadFail :=
  (d.placed.find? (fun e => p e.2.2)).map (fun e => ⟨code, e.1, some (e.2.1 + o)⟩)

/-- A failure in the first section of type `t`, `off` bytes from its start, or at an offset that is open. -/
def ImageDoc.failBody (d : ImageDoc) (code t : Nat) (off : Option Nat) : LoadFail :=
  match d.placed.find? (fun e => e.2.2.type == t) with
  | some e => ⟨code, e.1, off.map (fun o => e.2.1 + o)⟩
  | none => ⟨code, 0xFFFF, none⟩

/-- A failure in the body of section type `t`, at an offset that is open. -/
def ImageDoc.failType (d : ImageDoc) (code t : Nat) (bad : Bool) : Option LoadFail :=
  if bad then some (d.failBody code t none) else none

/-- The first of the conditions, each with its offset in the section of type `t`, that is met. -/
def ImageDoc.failFields (d : ImageDoc) (code t : Nat) (l : List (Bool × Option Nat)) : Option LoadFail :=
  (l.find? (fun e => e.1)).map (fun e => d.failBody code t e.2)

/-- A failure when `bad`. -/
def failWhen (bad : Bool) (f : LoadFail) : Option LoadFail := if bad then some f else none

/-! ### Section types (R57) -/

/-- Type, least and greatest count in a full image, domain-bound. -/
def sectionTypes : List (Nat × Nat × Nat × Bool) := [
  (0x0001, 1, 1, false), (0x0002, 0, 1, false), (0x0003, 1, 1, false), (0x0004, 1, 1, false), (0x0005, 1, 1, false),
  (0x0010, 1, 1024, true), (0x0011, 1, 1, false), (0x0012, 0, 16, true), (0x0020, 0, 1, false), (0x0021, 0, 1, false),
  (0x0022, 0, 15, true), (0x0023, 0, 1, false), (0x0030, 1, 1, false), (0x0040, 0, 1, false), (0x0050, 1, 1, false),
  (0x0051, 1, 8, false), (0x0052, 0, 1, false), (0x0060, 0, 1, false), (0x0070, 0, 1, false), (0x0071, 0, 1, false),
  (0x0080, 0, 1, false), (0x0090, 0, 1, false)]

/-- The row of a type. -/
def sectionType (t : Nat) : Option (Nat × Nat × Bool) := (sectionTypes.find? (fun e => e.1 == t)).map (fun e => e.2)

/-- Is a type allowed: listed, an annotation, or DELTA_MAP in a delta image? -/
def typeOk (delta : Bool) (t : Nat) : Bool := (sectionType t).isSome || Nat.ble 0xF000 t || (delta && t == 0x00E0)

/-- Is a type domain-bound? -/
def domainBound (t : Nat) : Bool := match sectionType t with | some r => r.2.2 | none => false

/-- How many sections of a type. -/
def ImageDoc.count (d : ImageDoc) (t : Nat) : Nat := (d.sections.filter (fun x => x.type == t)).length

/-! ### Checks 0x01 to 0x0E -/

/-- R56: strictly ascending (TYPE, INST), INST from 0 without gaps. -/
def orderBad : Option SectionDoc → SectionDoc → Bool
  | none, x => x.inst != 0
  | some p, x => if p.type = x.type then x.inst != p.inst + 1 else decide (x.type < p.type) || x.inst != 0

/-- The first section that breaks the order. -/
def ImageDoc.orderFail (d : ImageDoc) : Option LoadFail :=
  let prev := none :: d.sections.map some
  ((d.placed.zip prev).find? (fun e => orderBad e.2 e.1.2.2)).map (fun e => ⟨0x0B, e.1.1, some e.1.2.1⟩)

/-- R61: an approval block that is not accepted, or a reserved byte not 0. -/
def ImageDoc.approvalBad (d : ImageDoc) : Bool :=
  match d.approvals with
  | [a, b] => !((a.role == 1 && b.role == 2) || (a.role == 2 && b.role == 1)) || a.person == 0 || b.person == 0 || a.person == b.person
      || a.certFp == b.certFp || Nat.blt a.tai d.buildTai || Nat.blt b.tai d.buildTai
      || a.rsvd != 0 || a.rsvd2 != 0 || b.rsvd != 0 || b.rsvd2 != 0
  | _ => true

/-- R62: the signature does not verify, or the block is malformed. -/
def State.signatureBad (s : State) (d : ImageDoc) : Bool :=
  d.sigAlg != 1 || Nat.ble 4 d.keySlot || (s.rd R.IMGKEY_STATE / 2 ^ (2 * d.keySlot)) % 4 != 1 || d.sigRsvd != 0 || d.sigRsvd2 != 0
    || !Config.ecdsaOk (s.settings.imageKeys.getD d.keySlot 0) d.signed d.sig

/-- Check 0x07: the version of the running management firmware. -/
def State.fwRunning (s : State) : Nat := if s.upd.boot.a.set % 2 = 0 then s.fwVersion.1 else s.fwVersion.2

/-- Checks 0x01 to 0x0A. -/
def State.headFails (s : State) (d : ImageDoc) : List (Option LoadFail) :=
  let area := (Config.sha256 d.area).toNat
  [ failWhen (d.magic != 0x44543349) (failAt 0x01 0)
  , failWhen (d.format != 0x0100) (failAt 0x02 4)
  , failWhen (d.headerLen != 256) (failAt 0x02 6)
  , failWhen (d.headerCrc != crc32.value d.header) (failAt 0x03 252)
  , failWhen (d.totalLen != d.storedLen || Nat.blt 536870912 d.totalLen) (failAt 0x04 24)
  , failWhen (d.hwType / 65536 != 0x0D03 || Nat.blt (s.fld F.HW_ID_REV) (d.hwType / 256 % 256)) (failAt 0x05 20)
  , failWhen (d.bench && !s.flag F.HW_ID_BENCH) (failAt 0x06 30)
  , failWhen (Nat.blt s.fwRunning d.minFw) (failAt 0x07 44)
  , failWhen (s.signatureBad d) (failAt 0x08 (d.totalLen - 80))
  , failWhen d.approvalBad (failAt 0x09 (d.totalLen - 336))
  , failWhen (d.areaHash != area) (failAt 0x0A 128)
  , failWhen (d.idHash != area / 2 ^ 192) (failAt 0x0A 8) ]

/-- Checks 0x0B to 0x0E. A limit of R63 that a check of R70 before 0x0F names too (TOTAL_LEN, the number of sections, a section's
length, the number of element types or schedules) is met there first and takes that check's code (DESIGN CHOICE, log entry
106); so does BASE_ID_HASH or BASE_VERSION not 0 in a full image, which R52 fixes at 0 and no check names (0x0E; DESIGN CHOICE,
log entry 109). -/
def ImageDoc.sectionFails (d : ImageDoc) : List (Option LoadFail) :=
  let least := if d.delta then 1 else 9
  [ failWhen (d.sections.length != d.sectionCount || Nat.blt d.sectionCount least || Nat.blt 4096 d.sectionCount) (failAt 0x0B 28)
  , d.failSection 0x0B 4 (fun x => x.length % 4 != 0 || Nat.blt x.length 4 || Nat.blt 67108864 x.length || x.body.length != x.length)
  , failWhen (256 + d.areaLen + 336 != d.totalLen) ⟨0x0B, d.sections.length - 1, some (256 + d.areaLen)⟩
  , d.orderFail
  , d.failSection 0x0C 12 (fun x => x.check != crc32c.value x.covered)
  , d.failSection 0x0D 0 (fun x => !typeOk d.delta x.type)
  , d.failSection 0x0D 2 (fun x => x.sver != 1)
  , failWhen (sectionTypes.any (fun e => Nat.blt e.2.2.1 (d.count e.1) || (!d.delta && Nat.blt (d.count e.1) e.2.1))
      || (d.delta && d.count 0x00E0 != 1)) ⟨0x0D, 0xFFFF, some 28⟩
  , d.failSection 0x0D 8 (fun x => if domainBound x.type then Nat.blt 15 x.domain else x.domain != 0)
  , failWhen (d.hwType % 256 != 0) (failAt 0x0E 23)
  , failWhen (Nat.ble 4 d.flags) (failAt 0x0E 30)
  , failWhen (!d.delta && (d.baseIdHash != 0 || d.baseVersion != 0)) (failAt 0x0E 48)
  , failWhen (d.rsvd60 != 0) (failAt 0x0E 60)
  , failWhen (d.rsvd160 != 0) (failAt 0x0E 160)
  , d.placed.findSome? (fun e => e.2.2.rsvdAt.map (fun o => ⟨0x0E, e.1, some (e.2.1 + o)⟩)) ]

/-! ### Checks 0x0F to 0x1E on the content -/

/-- No value stands twice. -/
def distinct [BEq α] (l : List α) : Bool := l.eraseDups.length == l.length

/-- Instances defined. -/
def ImageContent.instances (m : ImageContent) : Nat := m.lanes.length

/-- R63: the limits on the content, by the section concerned, in the order of sections; with the offset of TOKENS and
TRANSACTIONS in BANK_PARTITION. -/
def ImageContent.overLimit (m : ImageContent) : List (Bool × Nat × Option Nat) :=
  let ctl := m.can.foldl (fun n c => n + c.ctls.length) 0
  [ (Nat.blt 65536 m.tokensDecl, 0x0001, some 40)
  , (Nat.blt 4096 m.transactions, 0x0001, some 44)
  , (Nat.blt 15 m.domains.length || m.domains.any (fun c => c == 0 || Nat.blt 15 c), 0x0005, none)
  , (Nat.blt 1024 m.etypes.length, 0x0010, none)
  , (Nat.blt 65536 m.instances || (Nat.blt 16384 m.instances && !m.sched.sweep), 0x0011, none)
  , (Nat.blt 65536 m.tokens.length, 0x0020, none)
  , (Nat.blt 32768 m.routes.length || m.routes.any (fun r => Nat.blt 64 r.entries.length), 0x0022, none)
  , (Nat.blt 8 (m.sched.tasks.filter (fun t => Nat.blt t.code 8)).length || Nat.blt 16 (m.sched.tasks.filter (fun t => Nat.ble 8 t.code)).length
      || Nat.blt 4 m.sched.bound, 0x0030, none)
  , (Nat.blt 8 m.scheds.length, 0x0051, none)
  , (m.can.any (fun c => Nat.blt 30 c.ctls.length) || Nat.blt 1200 ctl, 0x0060, none)
  , (Nat.blt 63 m.sessions.length, 0x0070, none)
  , (Nat.blt 64 m.queues.length, 0x0071, none) ]

/-- Check 0x0F. -/
def ImageDoc.capacityFail (d : ImageDoc) (m : ImageContent) : Option LoadFail :=
  (m.overLimit.find? (fun e => e.1)).map (fun e => d.failBody 0x0F e.2.1 e.2.2)

/-- A reference code of R39: 5 and 6 are reserved. -/
def refBad (r : Nat) : Bool := r == 5 || r == 6 || Nat.ble 8 r

/-- R29, R39, R69 and the fields of spec/02 R50 that TIMING sets, each with its offset in the section; a T_B that is no integer
multiple of T_R is found in TB_MS, as the worked example of R72 says. -/
def TimingDef.fields (t : TimingDef) : List (Bool × Option Nat) :=
  [ (Nat.blt t.tbMs 10 || Nat.blt 500 t.tbMs || (Nat.ble t.trSel 3 && t.tbMs % trMs t.trSel != 0), some 16)
  , (Nat.blt 3 t.trSel, some 18)
  , (refBad t.refPri, some 19)
  , (refBad t.refSec, some 20)
  , (t.nCyc == 0 || Nat.blt 255 t.nCyc, some 21)
  , (t.nRef == 0 || Nat.blt 65535 t.nRef, some 22)
  , (t.holdMin == 0 || Nat.blt 1440 t.holdMin, some 24)
  , (refBad t.anchorRef, some 26)
  , (Nat.blt 255 t.anchorOff, some 27)
  , (Nat.blt 15 t.ptpPort, some 28)
  , (Nat.blt 1 t.ptpDelay, some 29) ]

/-- Some field of TIMING is out of its range. -/
def TimingDef.bad (t : TimingDef) : Bool := t.fields.any (fun e => e.1)

/-- The length of a body that the spec fixes (R67, R69; spec/12 R261, R284; spec/19 R419) is not that of the section; reported at
LENGTH, under the code of the structure (DEDUCED, log entry 110). -/
def ImageDoc.lengthBad (d : ImageDoc) (t n : Nat) : Bool := (d.ofType t).any (fun x => x.length != n)

/-- The LAG_US and SIG_US of R477. -/
def SchedDef.lagBad (d : SchedDef) : Bool := Nat.blt d.lagUs 20 || Nat.blt 2000 d.lagUs || Nat.blt d.sigUs 20 || Nat.blt 1000 d.sigUs

/-- The banks of one use form one run. -/
def oneRun (banks : List Nat) (u : Nat) : Bool :=
  let idx := (banks.zipIdx.filter (fun e => e.1 == u)).map (fun e => e.2)
  match idx with
  | [] => true
  | a :: _ => idx == List.range' a idx.length

/-- R67, R68, each with its offset in the section where one field is in error. -/
def ImageContent.partitionFields (m : ImageContent) : List (Bool × Option Nat) :=
  let n (u : Nat) : Nat := (m.banks.filter (fun b => b == u)).length
  let code := m.etypes.foldl (fun k e => k + 4 * e.code.length) 0
  m.banks.zipIdx.map (fun b => (Nat.blt 6 b.1, some (16 + b.2)))
    ++ [ (!([1, 2, 3, 5].all (oneRun m.banks)) || Nat.blt (n 4) 2 || n 1 == 0 || n 5 == 0 || m.banks.length != 24, none)
       , (Nat.blt (n 1 * 262144) code || Nat.blt (n 5 * 262144) (m.timers * 4), none)
       , (Nat.blt (n 2 * 262144) (m.tokensDecl * 16), some 40)
       , (Nat.blt (n 3 * 262144) (m.transactions * 256), some 44) ]

/-- R66: the writers' ranges of I: first bit and number of bits. -/
def ImageContent.iRanges (m : ImageContent) : List (Nat × Nat) :=
  (match m.io with | some i => [(i.iVal, 32), (i.iPair, 16), (i.iWb, 32)] | none => [])
    ++ m.can.flatMap (fun c => c.ctls.map (fun k => (k.iBase, 8 * (k.len - 20))) ++ c.rx.map (fun r => (r.2.2, 8 * r.2.1)))
    ++ m.ring.imports.map (fun i => (i.2.2, 32 * i.2.1))
    ++ (m.sessions.filter (fun d => d.delivery == 0)).map (fun d => (d.rxI, 8 * d.rxLen))
    ++ m.queues.map (fun q => (q.iBase, 32 + q.depth * (32 + 8 * q.descMax)))

/-- Two ranges meet. -/
def rangesMeet (a b : Nat × Nat) : Bool := Nat.blt a.1 (b.1 + b.2) && Nat.blt b.1 (a.1 + a.2)

/-- Some two ranges of a list meet. -/
def anyMeet : List (Nat × Nat) → Bool
  | [] => false
  | a :: t => t.any (rangesMeet a) || anyMeet t

/-- Check 0x12: R66, a location used and not declared (spec/00 R5), a vital one given a reset value. -/
def ImageContent.symbolsBad (m : ImageContent) : Bool := anyMeet (m.iRanges.filter (fun r => r.2 != 0)) || m.undeclared || m.vitalPreset

/-- R64: an address of a list of (domain, first, count) is owned by two domains. -/
def twoOwners : List (Nat × Nat × Nat) → Bool
  | [] => false
  | a :: t => t.any (fun b => b.1 != a.1 && rangesMeet a.2 b.2) || twoOwners t

/-- R64, but for the DOMAIN fields of the sections. -/
def ImageContent.domainsBad (m : ImageContent) : Bool :=
  m.etypes.any (fun e => e.domain == 0 || !m.domains.contains e.domain) || m.routes.any (fun r => r.domain == 0 || !m.domains.contains r.domain)
    || twoOwners m.ownG || twoOwners m.ownH || m.foreignWrite

/-- R107 for one task. -/
def TaskDef.bad (t : TaskDef) (sealAng : Nat) : Bool :=
  Nat.blt 23 t.code || Nat.blt 23 t.prio || Nat.blt 8191 t.first || t.count == 0 || Nat.blt 8192 t.count
    || (if t.code < 8 then
          Nat.blt 4 t.periodExp || Nat.ble (2 ^ t.periodExp) t.phase || Nat.blt t.relAng t.inAng || Nat.ble t.dlAng t.relAng
            || Nat.blt t.outAng t.dlAng || Nat.blt sealAng t.dlAng || Nat.blt 65535 t.outAng
        else Nat.blt 1 t.kind || (t.kind == 0 && Nat.blt 63 t.src) || (t.kind == 1 && (Nat.blt 31 t.src || t.edge == 0 || Nat.blt 3 t.edge))
            || t.dlRel == 0 || Nat.blt 65535 t.dlRel || Nat.blt 65535 t.minSep || Nat.blt 65535 t.outAng)

/-- Strictly ascending. -/
def ascending : List Nat → Bool
  | a :: b :: t => Nat.blt a b && ascending (b :: t)
  | _ => true

/-- R106, R107: every instance group belongs to exactly one run; the runs are disjoint and within INSTANCE_TABLE, which holds
1 to 8,192 groups. A sweep has all of it, and no task. -/
def ImageContent.runsBad (m : ImageContent) : Bool :=
  let d := m.sched
  let runs := if d.sweep then [(d.sweepFirst, d.sweepCount)] else d.tasks.map (fun t => (t.first, t.count))
  m.groups.isEmpty || Nat.blt 8192 m.groups.length || anyMeet runs || runs.any (fun r => Nat.blt m.groups.length (r.1 + r.2))
    || runs.foldl (fun n r => n + r.2) 0 != m.groups.length || (d.sweep && !d.tasks.isEmpty)

/-- R107: the schedule of the image's mode. -/
def SchedDef.modeBad (d : SchedDef) : Bool :=
  if d.sweep then
    d.bound == 0 || d.starts.isEmpty || Nat.blt 4 d.starts.length || d.outs.isEmpty || Nat.blt 4 d.outs.length || !ascending d.starts
      || !ascending d.outs || (d.starts ++ d.outs).any (fun a => Nat.blt 65535 a)
  else
    d.tasks.any (fun t => t.bad d.sealAng) || !distinct (d.tasks.map TaskDef.prio) || !distinct (d.tasks.map TaskDef.code)
      || !d.tasks.any (fun t => t.code == 0 && t.periodExp == 0) || Nat.blt 65535 d.sealAng

/-- R106, R107, R477, R252. -/
def ImageContent.scheduleBad (m : ImageContent) : Bool :=
  let d := m.sched
  Nat.blt d.pfDepth 1 || Nat.blt 8 d.pfDepth || Nat.blt 1440 d.mtPeriod || d.modeBad || m.runsBad
    || (m.pair.isSome && !d.sweep && (match d.tasks.find? (fun t => t.code == 0) with
          | some t => Nat.blt (m.timing.tbMs * 1000000) (t.outAng * m.timing.tbMs * 1000000 / 65536 + 2 * trMs m.timing.trSel * 1000000 + m.tkPrep)
          | none => false))

/-- A home that is not defined: neither this module (or pair) nor a peer of BOUNDARY_TABLE (DEDUCED, log entry 111). -/
def ImageContent.homeless (m : ImageContent) (t : TokenDef) : Bool := t.home != m.pairAddr && !m.peers.any (fun p => p.addr == t.home)

/-- Spec/06, Lock class codes; R128, R129, R67. -/
def ImageContent.tokensBad (m : ImageContent) : Bool :=
  (match m.lockm with
    | some x => x &&& builtinMatrix != x || (List.range 25).any (fun i => bitOf x i != bitOf x (i % 5 * 5 + i / 5))
    | none => false)
    || m.tokens.length != m.tokensDecl || m.tokens.any (fun t => Nat.blt 5 t.cls || m.homeless t) || m.routes.any (fun r => r.entries.any (fun e => Nat.blt 5 e.2))
    || m.lanes.any (fun l => l.2.2.krefs.any (fun k => Nat.ble m.tokensDecl k && k != 0xFFFF))

/-- R137. -/
def ImageContent.routesBad (m : ImageContent) : Bool :=
  m.routes.any (fun r => r.entries.isEmpty || r.entries.any (fun e => Nat.ble m.tokens.length e.1) || !distinct (r.entries.map (fun e => e.1)))
    || !(List.range m.routes.length).all (fun n => (m.routes.filter (fun r => r.number == n)).length == 1)

/-- R156. -/
def ImageContent.boundariesBad (m : ImageContent) : Bool :=
  Nat.blt 16 m.peers.length
    || m.peers.any (fun p => p.ids.isEmpty || Nat.blt 4 p.ids.length || Nat.blt p.tOffer 2 || Nat.blt 255 p.tOffer || Nat.blt p.tConf 2
        || Nat.blt 255 p.tConf || Nat.blt p.tFresh 2 || Nat.blt 16 p.tFresh || Nat.blt p.tLong 10 || Nat.blt 3600 p.tLong)
    || m.tokens.zipIdx.any (fun t => t.1.boundary && !m.peers.any (fun p => p.tokens.contains t.2))

/-- The longest interval between presentations, ms (R370). -/
def ImageContent.presentMs (m : ImageContent) : Nat :=
  if m.sched.sweep then
    match m.sched.outs with
    | [] => m.timing.tbMs
    | a :: t =>
      let gaps := ((a :: t).zip t).map (fun e => e.2 - e.1) ++ [65536 + a - (a :: t).getLastD a]
      (gaps.foldl max 0 * m.timing.tbMs + 65535) / 65536
  else m.timing.tbMs

/-- R355, R358, R370. -/
def ImageContent.ioBad (m : ImageContent) : Bool :=
  match m.io with
  | none => false
  | some i =>
    let inp (k : Nat) : InDef := i.inputs.getD k ⟨0, false, false⟩
    i.inputs.any (fun d => Nat.blt 65 d.deb)
      || i.pairs.any (fun p => Nat.blt 15 p.1 || p.2 == 0 || Nat.blt 200 p.2 || (inp (2 * p.1)).deb != (inp (2 * p.1 + 1)).deb
          || (inp (2 * p.1)).wbEn != (inp (2 * p.1 + 1)).wbEn || !(inp (2 * p.1)).vital || !(inp (2 * p.1 + 1)).vital || !m.vitalBit 2 (i.iPair + p.1))
      || Nat.blt i.lsMs 20 || Nat.blt 2000 i.lsMs || Nat.blt (20 * i.lsMs) (21 * m.presentMs)
      || i.outputs.any (fun o => o.vital && o.safeOn)

/-- R331: three polynomial codes of one use. -/
def polyBad (p : Three Nat) : Bool := Nat.blt 5 p.a || Nat.blt 5 p.b || Nat.blt 5 p.c || p.a == p.b || p.a == p.c || p.b == p.c

/-- R262, R283 to R285, spec/20 R433 for one schedule; `own` and `pair` are the module's addresses. -/
def RingSched.bad (g : RingSched) (tr own pair : Nat) (n : RingNode) (needRec : Bool) : Bool :=
  let nit : Int := (tr * 1000000 : Nat) - ((g.nslots * g.slotHalf * 500 + g.dynMs * 500 : Nat) : Int)
  let res := g.positions.takeWhile (fun p => p.2 != 0)
  let use := res.foldl (fun k p => k + (p.2 + 44 * ((p.2 + 4127) / 4128)) * 8 + 500) 0
  Nat.blt g.nslots 4 || Nat.blt 256 g.nslots || Nat.blt g.slotHalf 4 || Nat.blt 32 g.slotHalf || g.positions.isEmpty
    || Nat.blt 2047 g.positions.length || Nat.blt g.dynMs g.positions.length || decide (nit < ((tr * 20000 + 40000 : Nat) : Int))
    || (g.positions.drop res.length).any (fun p => p.2 != 0) || Nat.blt (g.dynMs * 500) use
    || (Nat.blt n.tmA 4 && g.owners.getD n.tmA 0xFFFF != own)
    || !g.positions.any (fun p => p.1 == own || p.1 == pair)
    || (g.owners.drop g.nslots).any (fun o => o != 0xFFFF)
    || (needRec && (!g.owners.contains own || Nat.blt (125 * (g.slotHalf - 2) / 2) (20 + 48 + 4 * n.exw + 44)))

/-- R235: the first four conditions. -/
def ImageContent.pairBad (m : ImageContent) : Bool :=
  match m.pair with
  | none => false
  | some p =>
    let a := m.ring.addrA
    !(p.partner / 256 == a / 256 && (p.partner % 256 == a % 256 + 1 || a % 256 == p.partner % 256 + 1))
      || p.witnesses.isEmpty || Nat.blt 3 p.witnesses.length || p.witnesses.any (fun w => w == a || w == p.partner)
      || Nat.blt p.deltaMax 64 || Nat.blt 1024 p.deltaMax
      || m.scheds.any (fun g => Nat.blt ((g.positions.filter (fun x => x.1 == m.pairAddr)).foldl (fun k x => k + x.2) 0 * m.timing.tbMs / trMs m.timing.trSel)
          (p.deltaMax * 1024))

/-- R285, R461: the schedules and the pair, with the strap's node number and its parity. -/
def ImageContent.ringBad (m : ImageContent) (strapOk : Bool) : Bool :=
  !strapOk || m.scheds.any (fun g => g.bad (trMs m.timing.trSel) m.ring.addrA m.pairAddr m.ring (!m.peers.isEmpty)) || m.pairBad

/-- R315: the parameters of a channel by their CAN_CFG codes, and its identifiers. -/
def CanChDef.bad (c : CanChDef) : Bool :=
  let ids := c.ctls.flatMap (fun k => [k.cmdId, k.statId]) ++ c.rx.map (fun r => r.1)
  Nat.ble 40 c.ch || Nat.ble 4 c.nom || Nat.ble 5 c.data || Nat.ble 6 c.nomSp || Nat.ble 5 c.dataSp || polyBad c.poly || !distinct ids
    || ids.any (fun i => if bitOf i 31 then Nat.ble (2 ^ 29) (i % 2 ^ 31) else Nat.ble (2 ^ 11) i)
    || !distinct (c.ctls.map CtlDef.addr) || c.ctls.any (fun k => Nat.blt 30 k.addr || !([20, 24, 32, 48, 64].contains k.len))

/-- R331, R337, R343. -/
def ImageContent.sessionsBad (m : ImageContent) : Bool :=
  m.sessions.any (fun d => d.n == 0 || Nat.blt 63 d.n || Nat.blt 1 d.role || Nat.blt 1 d.delivery || d.ownId == 0 || d.peerId == 0
      || d.ownId != (m.sessions.headD d).ownId || Nat.blt d.timeout 10 || Nat.blt 200 d.timeout || Nat.blt 24 d.task
      || d.ports.isEmpty || Nat.blt 2 d.ports.length || d.ports.any (fun p => Nat.blt 14 p) || Nat.blt d.udp 1024 || Nat.blt 65535 d.udp
      || d.txQ % 32 != 0 || Nat.blt 1024 d.txLen || d.rxI % 32 != 0 || Nat.blt 1024 d.rxLen || (d.delivery == 1 && (d.rxI != 0 || d.rxLen != 0))
      || polyBad d.poly)
    || !distinct (m.sessions.map SessDef.n) || !distinct (m.sessions.map SessDef.udp)
    || m.queues.any (fun q => Nat.blt 63 q.q || q.credits == 0 || Nat.blt 32 q.credits || Nat.blt q.descMax 4 || Nat.blt 256 q.descMax
      || q.depth == 0 || Nat.blt 8 q.depth || q.iBase % 32 != 0 || Nat.blt 24 q.consumer)
    || !distinct (m.queues.map QueueDef.q)

/-- R378, R390: reactions weaker than the minimum. -/
def ImageContent.reactsBad (m : ImageContent) : Bool :=
  m.recWin == 0 || Nat.blt 720 m.recWin || m.reacts.any (fun r =>
    match sourceDef r.source with
    | none => false
    | some d => r.mask &&& d.min != d.min || (bitOf r.mask 2 && !([88, 92, 93, 94, 95, 96, 97, 99].contains r.source))
        || Nat.blt 5 r.quiet || (d.quiet == 0 && r.quiet != 0) || (r.quiet != 0 && Nat.blt r.quiet d.quiet) || r.recLimit == 0 || Nat.blt 3 r.recLimit)

/-- The fields of RING_NODE with their offsets in the section (spec/12 R260, R261, R285; spec/13 R291; spec/15 R331). -/
def RingNode.fields (n : RingNode) : List (Bool × Option Nat) :=
  [ (n.beta == 1 && n.addrB == 0xFFFF, some 18)
  , (Nat.ble 3 n.beta, some 20)
  , (Nat.ble 3 n.cs || (n.cs != 0 && Nat.ble 4 n.tmA) || (n.cs == 2 && (n.beta != 1 || Nat.ble 4 n.tmB)), some 24)
  , (Nat.blt 8 n.exw, some 25)
  , (Nat.blt 16 n.imports.length, some 26)
  , (n.expQ % 32 != 0, some 28)
  , (Nat.blt 5 n.poly.a, some 32)
  , (Nat.blt 5 n.poly.b || n.poly.b == n.poly.a, some 36)
  , (Nat.blt 5 n.poly.c || n.poly.c == n.poly.a || n.poly.c == n.poly.b, some 40) ]
    ++ n.imports.zipIdx.map (fun i => (i.1.2.2 % 256 != 0 || Nat.blt 262144 (i.1.2.2 + 32 * i.1.2.1), some (52 + 8 * i.2)))

/-- Spec/19 R419, with offsets in the section. -/
def ImageContent.powerFields (m : ImageContent) : List (Bool × Option Nat) := [(Nat.blt 3 m.actMax, some 16), (Nat.blt 4 m.stbyMax, some 17)]

/-- Checks 0x0F to 0x1E. -/
def ImageDoc.contentFails (d : ImageDoc) (m : ImageContent) (strapOk sessOk : Bool) : List (Option LoadFail) :=
  [ d.capacityFail m
  , d.failFields 0x10 0x0003 ((d.lengthBad 0x0003 16, some 4) :: m.timing.fields)
  , d.failType 0x10 0x0030 m.sched.lagBad
  , d.failFields 0x11 0x0001 ((d.lengthBad 0x0001 32, some 4) :: m.partitionFields)
  , d.failType 0x12 0x0004 m.symbolsBad
  , d.failType 0x13 0x0010 m.logicBad
  , d.failSection 0x14 8 (fun x => domainBound x.type && (x.domain == 0 || !m.domains.contains x.domain))
  , d.failType 0x14 0x0005 m.domainsBad
  , d.failType 0x15 0x0030 m.scheduleBad
  , d.failType 0x16 0x0020 m.tokensBad
  , d.failType 0x17 0x0022 m.routesBad
  , d.failType 0x18 0x0023 m.boundariesBad
  , d.failType 0x19 0x0040 m.ioBad
  , d.failFields 0x1A 0x0050 ((d.lengthBad 0x0050 160, some 4) :: m.ring.fields)
  , d.failSection 0x1A 4 (fun x => x.type == 0x0051 && x.length != 520 + 8 * x.num 6 2)
  , d.failType 0x1A 0x0050 (m.ringBad strapOk)
  , d.failType 0x1B 0x0060 (m.can.any CanChDef.bad || !distinct (m.can.map CanChDef.ch))
  , d.failType 0x1C 0x0070 (m.sessionsBad || !sessOk)
  , d.failType 0x1D 0x0080 m.reactsBad
  , d.failFields 0x1E 0x0090 ((d.lengthBad 0x0090 4, some 4) :: m.powerFields) ]

/-! ### The image of this member (spec/22 R461, R462) -/

/-- The strap's node number and whether its parity is odd. -/
def State.strapNode (s : State) : Nat := s.rd R.STRAP % 256
def State.strapOdd (s : State) : Bool := (List.range 9).foldl (fun c i => c + s.pwr.strap / 2 ^ i % 2) 0 % 2 == 1

/-- R461: the strap fits RING_NODE.ADDR_A. -/
def State.strapFits (s : State) (m : ImageContent) : Bool :=
  let a := m.ring.addrA % 256
  s.strapOdd && (s.strapNode == a || (m.pair.isSome && s.strapNode == a + 1))

/-- The settings give the port the address (spec/21 R455). -/
def Settings.gives (c : Settings) (port : Nat) : EchoTo → Bool
  | .ipv4 a => (c.ip4.getD port none).map PortAddr.addr == some a
  | .ipv6 a => (c.ip6.getD port none).map PortAddr.addr == some a

/-- R455: the module address that each session names for this member is among those that the settings give its ports. -/
def State.addrFits (s : State) (m : ImageContent) : Bool :=
  let higher := m.pair.isSome && s.strapNode == m.ring.addrA % 256 + 1
  m.sessions.all (fun d => d.ports.any (fun p => s.settings.gives p (if higher then d.own.2 else d.own.1)))

/-- R462: the addresses of this member: the strap's node number, ADDR_B offset in the same way, the partner the other of
the two. -/
def State.forStrap (s : State) (m : ImageContent) : ImageContent :=
  match m.pair with
  | none => m
  | some p =>
    let a := m.ring.addrA
    let up := s.strapNode == a % 256 + 1
    if up then { m with
      ring := { m.ring with addrA := a + 1, addrB := if m.ring.addrB = 0xFFFF then 0xFFFF else m.ring.addrB + 1 }
      pair := some { p with partner := a } }
    else { m with pair := some { p with partner := a + 1 } }

/-- The order of two failures: by code. -/
def earlier (a b : LoadFail) : LoadFail := if b.code < a.code then b else a

/-- R59, R337, spec/21 R455: the session keys unwrap, and the addresses fit this member. -/
def State.sessionsFit (s : State) (m : ImageContent) : Bool := s.addrFits m && m.sessions.all (fun x => Config.unwrapOk s.settings.kek x.key)

/-- R70: the checks 0x01 to 0x1E that fail on a spire's copy, those that the operand gives among them. -/
def State.checkFails (s : State) (d : ImageDoc) : List LoadFail :=
  let c := d.image
  (s.headFails d ++ d.sectionFails ++ d.contentFails (s.forStrap c) (s.strapFits c) (s.sessionsFit c)).filterMap id
    ++ d.others.map (fun e => (⟨e.1, e.2.1, some e.2.2⟩ : LoadFail))

/-- The first of some failures. -/
def firstFail : List LoadFail → Option LoadFail
  | [] => none
  | a :: l => some (l.foldl earlier a)

/-- R70: the first check that fails on a spire's copy. -/
def State.checkImage (s : State) (d : ImageDoc) : Option LoadFail := firstFail (s.checkFails d)

end Sys2Proof.Machine
end

