-- ==== Sys2Proof/Machine/SessOps.lean ====
section
/-! DEFINITION. The operations of safe sessions and queues (spec/15): frame bytes, check values and MAC, the checks of
a frame, an input freeze, sending, and the credits of the queues. -/

namespace Sys2Proof.Machine

/-! ### Bytes and bits -/

/-- The bits set in a list of words placed at bit address `base`, bit 0 of a word lowest. -/
def bitsAt (base : Nat) (l : List Word) : List (Nat × Bool) :=
  l.zipIdx.flatMap (fun w => (List.range 32).filterMap (fun b => if w.1.getLsbD b then some (base + 32 * w.2 + b, true) else none))

/-- The bits that are 1 of an n-bit value placed from `base` up, bit 0 at the lowest address. -/
def fieldBits (base n v : Nat) : List (Nat × Bool) := (List.range n).filterMap (fun i => if v.testBit i then some (base + i, true) else none)

/-- A payload placed from `base` up: 4 bytes make a big-endian word (spec/00 R7), and what is left at the end a big-endian value
of its own 8, 16 or 24 bits, so that n bytes take 8 n bits (log entry 108). -/
def payloadBits (base : Nat) : List Byte → List (Nat × Bool)
  | a :: b :: c :: d :: t => fieldBits base 32 (beNat [a, b, c, d]) ++ payloadBits (base + 32) t
  | l => fieldBits base (8 * l.length) (beNat l)

/-- `n` bytes of Q from a word-aligned base on, read through `f`: the converse of `payloadBits`. -/
def qBytes (f : Nat → Bool) (base n : Nat) : List Byte :=
  (List.range (n / 4)).flatMap (fun i => beBytes 4 (wordOf f (base + 32 * i)).toNat)
    ++ beBytes (n % 4) (wordOf f (base + 32 * (n / 4))).toNat

/-- The lowest compared spire: the one a body is taken from (spec/15 R334). -/
def State.bodySpire (s : State) : Nat := s.compared.headD 0

/-- A bit of a task's Q copy as it leaves the module: in SAFE-HALT and MAINTENANCE every vital bit is 0 (R338). -/
def State.sentBit (s : State) (task a : Nat) : Bool :=
  if !s.mode.cur.track && s.vitalBit 3 a then false else s.copyBit s.bodySpire task a

/-! ### Sessions -/

/-- Session n. -/
def State.sessAt (s : State) (n : Nat) : SessSt := Sparse.get (fun _ => SessSt.none') s.sess n

/-- Change session n. -/
def State.updSess (s : State) (n : Nat) (f : SessSt → SessSt) : State :=
  { s with sess := Sparse.upd (fun _ => SessSt.none') s.sess n f }

/-- The definition of session n. -/
def State.sessDef (s : State) (n : Nat) : Option SessDef := s.content.sessions.find? (fun d => d.n == n)

/-- The session key (R59): unwrapped inside the secure elements. -/
def State.sessKey (s : State) (d : SessDef) : Nat := Config.unwrapKey s.settings.kek d.key

/-- Frame bytes 0 to 47 + LEN (R335). -/
def SFrame.body (f : SFrame) : List Byte :=
  beBytes 1 f.ver ++ beBytes 1 f.type ++ beBytes 2 f.flags ++ beBytes 4 f.src ++ beBytes 4 f.dst ++ beBytes 4 f.seq
    ++ beBytes 4 f.echoSeq ++ beBytes 8 f.ts ++ beBytes 8 f.tsEcho ++ beBytes 8 f.conn ++ beBytes 2 f.payload.length
    ++ beBytes 2 f.rsvd ++ f.payload

/-- Frame bytes 0 to 59 + LEN. -/
def SFrame.signedBytes (f : SFrame) : List Byte := f.body ++ beBytes 4 f.cv.a ++ beBytes 4 f.cv.b ++ beBytes 4 f.cv.c

/-- R336: the MAC under a key with nonces N_I and N_R. -/
def SFrame.macOf (f : SFrame) (key nI nR : Nat) : Nat :=
  (Config.cmac key (beBytes 8 nI ++ beBytes 8 nR ++ f.signedBytes)).toNat

/-- R332: the check values of a frame. -/
def SFrame.cvOf (f : SFrame) (poly : Three Nat) : Three Nat := triSig poly f.dst f.seq f.body

/-- R336: a nonce. -/
def State.nonceOf (s : State) (d : SessDef) : Nat :=
  (Config.cmac (s.sessKey d) (beBytes 1 0x4E ++ beBytes 1 d.n ++ beBytes 8 s.atNow)).toNat / 2 ^ 64

/-- A frame of this module, complete with check values (0 from a spire outside COMPARED, R222) and MAC. -/
def State.makeFrame (s : State) (d : SessDef) (x : SessSt) (type conn : Nat) (payload : List Byte) : SFrame :=
  let f : SFrame := ⟨1, type, 0, d.ownId, d.peerId, x.txSeq, x.rxSeq, s.atNow, x.lastTsEcho, conn, 0, payload, Three.all 0, 0⟩
  let f : SFrame := { f with tsEcho := x.lastTs, cv := s.maskCv (f.cvOf d.poly) }
  { f with mac := f.macOf (s.sessKey d) x.nI (if type = 1 then 0 else x.nR) }

/-- R336: two secure elements give the same tag (spec/17 source 8 of a spire: its element is silent or differs). -/
def State.tagAgreed (s : State) : Bool := Nat.ble 2 (threeIdx (fun x => !(s.src (24 * x + 8)).cond)).length

/-- Send a frame of session n on its ports; each port counts it. -/
def State.sendFrame (s : State) (n type conn : Nat) (payload : List Byte) : State :=
  match s.sessDef n with
  | none => s
  | some d => if !s.tagAgreed then s else (s.triSent.emit (.sessionFrame n (s.makeFrame d (s.sessAt n) type conn payload))).each d.ports fun s p => s.bumpReg R.ETH_TXCNT p

/-- R340: TIMEOUT of a session has passed in `cau` CAU: TIMEOUT × 65,536 / T_B at the nominal T_B. -/
def State.pastTimeout (s : State) (d : SessDef) (cau : Nat) : Bool := Nat.blt (d.timeout * 10 * 65536) (cau * s.tbMs)

/-- The greatest LEN of a session (R339 check 1): RX_LEN, or DESC_MAX of its queue. -/
def State.lenLimit (s : State) (d : SessDef) : Nat :=
  if d.delivery = 0 then d.rxLen
  else ((s.content.queues.find? (fun q => !q.ring && q.src == d.n)).map QueueDef.descMax).getD 0

/-- R339 check 1 but for the session's state. -/
def State.headerOk (s : State) (d : SessDef) (f : SFrame) : Bool :=
  f.ver == 1 && (f.type == 1 || f.type == 2 || f.type == 3 || f.type == 4) && f.flags == 0 && f.rsvd == 0
    && Nat.ble f.payload.length (min 1024 (s.lenLimit d)) && f.src == d.peerId && f.dst == d.ownId

/-- R339 checks 1 to 3, with N_I and N_R as they stand for this frame: the counter of the failing one. -/
def State.check123 (s : State) (d : SessDef) (f : SFrame) (nI nR : Nat) : Option Field :=
  if !s.headerOk d f then some F.SSN_REJ_OTHER
  else if s.triN f.cv (f.cvOf d.poly) < 2 then some F.SSN_REJ_CHECK
  else if f.mac != f.macOf (s.sessKey d) nI nR || s.fc.inject.any (fun i => i.checker == 8 && i.unit == d.n) then some F.SSN_REJ_MAC
  else none

/-- R339: what the checks of an arriving DATA or CLOSE frame say. -/
inductive FrameVerdict where
  | accept
  | reject (counter : Field)
  | duplicate
deriving DecidableEq, Repr

/-- R339 checks 1 to 6 on a frame of session n in state `x`, at the present AT. -/
def State.checkFrame (s : State) (d : SessDef) (x : SessSt) (f : SFrame) : FrameVerdict :=
  if x.st ≠ .opened then .reject F.SSN_REJ_OTHER
  else match s.check123 d f x.nI x.nR with
  | some c => .reject c
  | none =>
    let ds := (f.seq + 2 ^ 32 - x.rxSeq % 2 ^ 32) % 2 ^ 32
    if ds = 0 then .duplicate
    else if 1048575 < ds then .reject F.SSN_REJ_SEQ
    else
      let dt := (f.ts + 2 ^ 64 - x.lastTs % 2 ^ 64) % 2 ^ 64
      if dt = 0 ∨ 2 ^ 63 ≤ dt then .reject F.SSN_REJ_OTHER
      else if s.pastTimeout d (s.atNow - f.tsEcho) then .reject F.SSN_REJ_OTHER
      else .accept

/-- A frame of session d has been checked: the units counted, injections of checkers 5 and 8 consumed (spec/17 R388). -/
def State.frameDone (s : State) (d : SessDef) (f : SFrame) : State := ((s.triDone f.cv (f.cvOf d.poly)).takeInject 8 d.n 0).2

/-- Count an accepted frame (R333). -/
def State.frameCounted (s : State) (d : SessDef) (f : SFrame) : State :=
  let s := s.bump F.SSN_CNT_ACCEPTED d.n
  if s.triN f.cv (f.cvOf d.poly) = 2 then s.bump F.SSN_CNT_ONE_BAD d.n else s

/-- A session leaves OPEN with a cause: HOLDOFF; CLOSE is sent when `close`. A timeout raises CP_SESSION (spec/17 R380). -/
def State.leaveOpen (s : State) (n cause : Nat) (close : Bool) : State :=
  let s := if close then (s.updSess n (fun x => { x with txSeq := (x.txSeq + 1) % 2 ^ 32 })).sendFrame n 4 0 [] else s
  let s := s.updSess n (fun x => { x with st := .holdoff, cause := cause, held := [] })
  if cause = 1 then s.raise 101 false n 0 else s

/-- A session enters OPEN by a frame accepted with checks 1 to 3 and SEQ 1; an entry from OPEN is a new connection
(cause 3) and is not recorded again. CP_SESSION ends when every session that timed out is OPEN again (DEDUCED, log entry 126). -/
def State.enterOpen (s : State) (n : Nat) (f : SFrame) (nI nR : Nat) : State :=
  let now := s.atNow
  let again := (s.sessAt n).st == .opened
  let s := s.updSess n (fun x => { x with
    st := .opened, cause := if again then 3 else x.cause, nI := nI, nR := nR, txSeq := 1, rxSeq := 1, lastTs := f.ts, lastTsEcho := f.tsEcho
    held := [], openAt := now, dataSeen := false })
  let s := s.bump F.SSN_STATE_OPENS n
  let s := if again then s else s.record .sessionOpen srcComms n 0
  if s.sess.all (fun e => e.2.cause != 1 || e.2.st == .opened) then s.gone 101 else s

/-- IDLE sessions of ROLE 0 connect (R338): N_I derived, CONNECT sent. -/
def State.connect (s : State) (d : SessDef) : State :=
  let ni := s.nonceOf d
  let s := s.updSess d.n (fun x => { SessSt.none' with st := .connecting, nI := ni, txSeq := 1, cause := x.cause, payload := x.payload })
  s.sendFrame d.n 1 ni []

/-- Start every session that may connect, in the modes in which sessions run. -/
def State.connectIdle (s : State) : State :=
  if s.mode.cur.sessions then
    s.each s.content.sessions fun s d => if d.role = 0 && (s.sessAt d.n).st == .idle then s.connect d else s
  else s

/-! ### An input freeze (R339, R340) -/

/-- The held frames of a session of DELIVERY 0 are checked in order of arrival; the payload of the last one accepted
stands in RX_I. -/
def State.freezeHeld (s : State) (d : SessDef) : List SFrame → State
  | [] => s.updSess d.n (fun x => { x with held := [] })
  | f :: l =>
    match s.checkFrame d (s.sessAt d.n) f with
    | .accept =>
      let s := s.updSess d.n (fun x => { x with rxSeq := f.seq, lastTs := f.ts, lastTsEcho := f.tsEcho, dataSeen := true, payload := f.payload })
      ((s.frameCounted d f).frameDone d f).freezeHeld d l
    | .reject c => ((s.bump c d.n).frameDone d f).freezeHeld d l
    | .duplicate => (s.frameDone d f).freezeHeld d l

/-- R340: the session times out at this freeze. The echo age counts once DATA has been accepted on the connection. -/
def State.timedOut (s : State) (d : SessDef) : Bool :=
  let x := s.sessAt d.n
  x.st == .opened && (if x.dataSeen then s.pastTimeout d (s.atNow - x.lastTsEcho) else Nat.ble (d.timeout * 10 * 65536) ((s.atNow - x.openAt) * s.tbMs))

/-- One session at a freeze. -/
def State.freezeSession (s : State) (d : SessDef) : State :=
  let s := s.freezeHeld d (s.sessAt d.n).held
  let x := s.sessAt d.n
  let s := if x.st = .opened && x.dataSeen then
      let ms := min ((s.atNow - x.lastTsEcho) * s.tbMs / 65536) 65535
      (s.setFld F.SSN_AGE_AGE_MS ms d.n).peak F.SSN_AGE_MAX_MS ms d.n
    else s
  if s.timedOut d then s.leaveOpen d.n 1 true else s

/-- Every session at a freeze; they run in the modes of R338 only. -/
def State.freezeSessions (s : State) : State :=
  if s.mode.cur.sessions then s.each s.content.sessions (fun s d => s.freezeSession d) else s

/-- The bits of RX_I of a session as a freeze takes them: while the session is not OPEN, and until the first DATA of a
connection, its vital bits read 0 (R338, R340). -/
def State.sessBits (s : State) (d : SessDef) : List (Nat × Bool) :=
  if d.delivery ≠ 0 then []
  else
    let x := s.sessAt d.n
    let l := payloadBits d.rxI (x.payload.take d.rxLen)
    if x.st = .opened && x.dataSeen then l else l.filter (fun e => !s.vitalBit 2 e.1)

/-! ### Queues (R343 to R345) -/

/-- Queue q. -/
def State.queueAt (s : State) (q : Nat) : QueueSt := Sparse.get (fun _ => QueueSt.none') s.queues q

/-- Change queue q. -/
def State.updQueue (s : State) (q : Nat) (f : QueueSt → QueueSt) : State :=
  { s with queues := Sparse.upd (fun _ => QueueSt.none') s.queues q f }

/-- The bytes of a ring queue message that its check values cover: 0 to 15 + LEN (R345). -/
def QMsg.body (m : QMsg) : List Byte :=
  beBytes 1 m.queue ++ beBytes 1 m.rsvd ++ beBytes 2 m.data.length ++ beBytes 4 m.seq ++ beBytes 8 m.stamp ++ m.data

/-- Is a node of one of the rings admitted (spec/13 R299, R303)? -/
def State.nodeAdmitted (s : State) (addr : Nat) : Bool := s.isAdmitted false addr || (s.betaIndep && s.isAdmitted true addr)

/-- R345: does a spire accept a ring queue message? -/
def State.ringMsgOk (s : State) (d : QueueDef) (q : QueueSt) (m : QMsg) : Bool :=
  let ds := match q.lastSeq with | some l => (m.seq + 2 ^ 32 - l % 2 ^ 32) % 2 ^ 32 | none => 1
  let c := m.stamp / 65536
  Nat.ble 2 (s.triN m.cv (triSig s.content.ring.poly m.dst m.seq m.body)) && m.rsvd == 0
    && m.src == d.src && s.nodeAdmitted m.src && Nat.ble 1 ds && Nat.ble ds 1048575
    && Nat.ble c (s.time.count + 2) && Nat.ble s.time.count (c + 2)

/-- One descriptor at the consumer's freeze: accepted with its source number and payload, or not. -/
def State.checkDesc (s : State) (d : QueueDef) : Desc → State × Option (Nat × List Byte)
  | .sess n f =>
    match s.sessDef n with
    | none => (s, none)
    | some sd =>
      match s.checkFrame sd (s.sessAt n) f with
      | .accept =>
        let s := s.updSess n (fun x => { x with rxSeq := f.seq, lastTs := f.ts, lastTsEcho := f.tsEcho, dataSeen := true })
        ((s.frameCounted sd f).frameDone sd f, some (n, f.payload))
      | .reject c => ((s.bump c n).frameDone sd f, none)
      | .duplicate => (s.frameDone sd f, none)
  | .ring m =>
    let ok := s.ringMsgOk d (s.queueAt d.q) m
    let s := s.triDone m.cv (triSig s.content.ring.poly m.dst m.seq m.body)
    if ok then (s.updQueue d.q (fun q => { q with lastSeq := some m.seq }), some (m.src % 256, m.data)) else (s, none)

/-- The descriptors of a freeze in arrival order: the accepted ones, and how many were rejected. -/
def State.checkDescs (s : State) (d : QueueDef) : List Desc → State × List (Nat × List Byte) × Nat
  | [] => (s, [], 0)
  | x :: l =>
    let r := s.checkDesc d x
    let t := r.1.checkDescs d l
    match r.2 with
    | some a => (t.1, a :: t.2.1, t.2.2)
    | none => (t.1, t.2.1, t.2.2 + 1)

/-- R343: the window of a queue: word 0, then per slot a header and DESC_MAX bytes, 32 + 8 DESC_MAX bits each; the rest 0. -/
def queueWindow (d : QueueDef) (acc : List (Nat × List Byte)) (dropped rejected : Nat) : List (Nat × Bool) :=
  fieldBits d.iBase 32 (acc.length + min dropped 255 * 256 + rejected * 65536)
    ++ acc.zipIdx.flatMap (fun a =>
        let at' := d.iBase + 32 + a.2 * (32 + 8 * d.descMax)
        fieldBits at' 32 (a.1.2.length + a.1.1 * 65536) ++ payloadBits (at' + 32) (a.1.2.take d.descMax))

/-- R344, spec/09 R197: an atomic add to HELD; none on range status. -/
def addHeld (held n : Nat) : Option Nat := if held + n < 2 ^ 32 then some (held + n) else none

/-- spec/09 R197: an atomic swap of a word: what the word holds after it, and the old content, which it returns. -/
def bankSwap (old new : Nat) : Nat × Nat := (new, old)

/-- spec/09 R197: the read of an atomic on spire x's credit words; an error that an armed injection brings is corrected, or is
uncorrectable and aborts the atomic with the word unchanged, which it answers (R180). -/
def State.creditRead (s : State) (x : Nat) : State × Bool :=
  match s.content.creditBank with
  | none => (s, false)
  | some b =>
    let r := s.engineRead x b
    if r.2 then (r.1.raise (24 * x + 5) true b 4, true) else r

/-- The atomics on the credit words of the compared spires: those whose word they change. -/
def State.creditReads (s : State) : State × List Nat :=
  s.compared.foldl (fun (a : State × List Nat) x =>
    let r := a.1.creditRead x
    (r.1, if r.2 then a.2 else a.2 ++ [x])) (s, [])

/-- R343, R344: a queue at a freeze of its consumer. -/
def State.freezeQueue (s : State) (d : QueueDef) : State :=
  let q := s.queueAt d.q
  let r := s.checkDescs d (q.descs.take d.depth)
  let n := r.2.1.length
  let a := r.1.creditReads
  let cmp := a.2
  a.1.updQueue d.q (fun q => { q with
    descs := q.descs.drop d.depth
    held := q.held.mapI (fun i h => if cmp.contains i then (addHeld h n).getD h else h)
    range := q.range || cmp.any (fun i => (addHeld (q.held.get i) n).isNone)
    free := q.free + r.2.2
    dropped := 0
    taken := n
    window := queueWindow d r.2.1 q.dropped r.2.2 })

/-- R344: the last finial of the consumer: HELD gives back what the freeze took, FREE gains it. -/
def State.releaseQueue (s : State) (d : QueueDef) : State :=
  let a := s.creditReads
  let cmp := a.2
  a.1.updQueue d.q (fun q =>
    let n := q.taken
    { q with
      held := q.held.mapI (fun i h => if cmp.contains i && Nat.ble n h then h - n else h)
      range := q.range || cmp.any (fun i => Nat.blt (q.held.get i) n)
      free := q.free + n })

/-- The queues that a task consumes. -/
def State.queuesOf (s : State) (task : Nat) : List QueueDef := s.content.queues.filter (fun d => d.consumer == task)

/-- R344: the check of the credits at a seal. -/
def State.creditsOk (s : State) (d : QueueDef) : Bool :=
  let q := s.queueAt d.q
  !q.range && s.compared.all (fun i => q.held.get i == 0) && q.free + q.descs.length == d.credits

/-- R344: on a failure the queue is emptied and its credits restored. -/
def State.auditQueue (s : State) (d : QueueDef) : State :=
  if s.creditsOk d then s
  else
    let q := s.queueAt d.q
    let n := q.descs.length
    let sw := q.held.mapI (fun _ h => bankSwap h 0)
    let held := s.compared.foldl (fun m i => max m (sw.get i).2) 0
    let s := s.wr R.QU_AUDIT (d.q + 64 + min q.free 255 * 256 + min n 255 * 65536 + min held 255 * 16777216)
    let s := (s.bump F.QU_CRED_FAILS d.q).bumpBy F.QU_CNT_DROPPED n d.q
    let s := s.updQueue d.q (fun q => { q with
      descs := [], held := sw.mapI (fun _ w => w.1), free := d.credits, range := false, dropped := q.dropped + n })
    (s.record .queueCredit srcComms (d.q + q.free * 256 + n * 65536) held).raise 100 false 0 d.q

/-- The bits of every queue window. -/
def State.queueBits (s : State) : List (Nat × Bool) :=
  s.content.queues.flatMap (fun d => (s.queueAt d.q).window)

end Sys2Proof.Machine
end

