-- ==== Sys2Proof/Machine/KeepIn.lean ====
section
/-! DEFINITION. The intake of keep events (spec/06 R133, R140; spec/07 R160 to R174), the audit (spec/06 R144, R145),
the inspection latches (spec/06 R152), the entry of the boundary state at takeover (spec/07 R166), and the
transmission of boundary records (spec/07 R159). -/

namespace Sys2Proof.Machine

/-- Change the keep of spire x. -/
def State.updKeep (s : State) (x : Nat) (f : KeepSt → KeepSt) : State := s.updSpire x (fun p => { p with keep := f p.keep })

/-! ### Intake events -/

/-- R140: the records of an intake event on token k: the intake record with mask 0, then its token records. -/
def intakeRecs (k code : Nat) (old new : Token) : List WRec :=
  wrec 6 (0x1A * 65536 + k) 0 (new.tseq * 65536 + code) :: (if old = new then [] else tokenRecs k old new 0)

/-- R133: an event takes 6 clocks of the task whose intake this is: the first one released in the cycle. -/
def State.intakeClocks (s : State) (x : Nat) : State :=
  s.updEng x (fun e => { e with
    clkCycle := e.clkCycle + 6
    clkTask := match s.sched.firstRel with | some t => Sparse.upd (fun _ => 0) e.clkTask t.1 (fun c => c + 6) | none => e.clkTask })

/-- An intake event on token k with event code `code` in every compared spire: `f` changes the keep. A spire whose copy of the
token is not readable stops instead (R127). -/
def State.intakeEvent (s : State) (k code : Nat) (f : KeepSt → KeepSt) : State :=
  s.each s.compared fun s x =>
    let p := (s.spire x).keep
    if (p.token k).bad then s.keepStop x 0x07 0 true
    else
      let q := f p
      ((s.updKeep x (fun _ => q)).push x (intakeRecs k code (p.token k) (q.token k))).intakeClocks x

/-- The keep copy that the module's other planes see: that of the lowest compared spire. -/
def State.theKeep (s : State) : KeepSt := (s.spire s.bodySpire).keep

/-- The keep that stands for the module where token k is concerned: of the lowest compared spire that can read it. -/
def State.keepOf (s : State) (k : Nat) : KeepSt :=
  match s.compared.find? (fun x => !((s.spire x).keep.token k).bad) with
  | some x => (s.spire x).keep
  | none => s.theKeep

/-- The element of a token. -/
def State.elementOf (s : State) (k : Nat) : Nat := ((s.content.tokens[k]?).map TokenDef.element).getD 0

/-- The outcome of an authorised command (R167 to R169): BT_AUTH_RES and BT_RECON_AUTH. -/
def State.authResult (s : State) (number result k role : Nat) (fence : Bool) : State :=
  let s := s.wr3 R.BT_AUTH_RES (result + b2n fence * 8 + number % 65536 * 65536)
  s.record .btReconAuth srcKeep (s.elementOf k) (role * 256 + result)

/-- The role that gave the pending SETTLE of token k. -/
def KeepSt.settleRole (p : KeepSt) (k : Nat) : Nat := ((p.settleOf k).map SettlePend.role).getD 0

/-- R127: taking the record in would read a token that is not readable. -/
def KCtx.meetsBad (x : KCtx) (p : KeepSt) (r : BRec) (o : Option Nat × IOut) : Bool :=
  match o.1 with
  | some k => o.2.rejected.isNone && (p.token k).bad
  | none => (x.tokenOf r.element).any (fun k => o.2.rejected == some F.BT_REJ2_KIND && (p.token k).bad)

/-- A received boundary record meets the keep of every compared spire (R158, R160); a spire whose copy of the token is not
readable stops (R127). What it records or raises outside the keep is taken from the lowest compared spire that can read it. -/
def State.takeBrec (s : State) (r : BRec) : State :=
  let ctx := s.kctx
  let want := triSig s.content.ring.poly r.dst r.rseq r.body
  let valid := s.triN r.cv want
  let s := s.triDone r.cv want
  let whole := s.keepOf ((ctx.tokenOf r.element).getD 0)
  let first := ctx.takeRecord whole r valid
  let role := match first.1 with | some k => whole.settleRole k | none => 0
  let s := s.each s.compared fun s x =>
    let p := (s.spire x).keep
    let o := ctx.takeRecord p r valid
    if ctx.meetsBad p r o then s.keepStop x 0x07 0 true else
    let s := s.updKeep x (fun _ => o.2.keep)
    match o.2.rejected with
    | some f => s.bump f x
    | none =>
      let s := s.bumpReg R.BT_RXCNT x
      let s := if o.2.withdrawn then s.bump F.BT_TOCNT_WITHDRAWN x else s
      match o.1 with
      | some k => ((s.push x (intakeRecs k o.2.code (p.token k) (o.2.keep.token k))).intakeClocks x)
      | none => s
  match first.2.rejected with
  | some _ => s
  | none =>
    let k := first.1.getD 0
    let s := { s with peers := s.peers.map (fun p => if p.addr == r.src then { p with seenEpoch := r.epoch } else p) }
    let s := if first.2.withdrawn then s.event .keepOfferWithdrawn srcKeep k else s
    let s := if first.2.stalled then s.raise 123 false 0 k else s
    let s := match first.2.conflict with
      | some c => (s.record .btConflict srcKeep (s.elementOf k) (c.1 * 256 + c.2)).raise 124 false 0 k
      | none => s
    match first.2.auth with
    | some a => s.authResult a.1 a.2.1 a.2.2 role false
    | none => s

/-- R162: the expiry of one timer is taken in. -/
def State.takeExpiry (s : State) (t : BtTimer) : State :=
  let ctx := s.kctx
  let s := s.intakeEvent t.token 7 (fun p => ctx.expire p t)
  let s := s.each s.compared fun s x => s.bump F.BT_TOCNT_EXPIRED x
  if t.kind = .long then (s.record .btLongPartition srcKeep (s.elementOf t.token) 0).raise 123 false 0 t.token else s

/-- The timers of the keep that have reached their limit. -/
def State.expiredTimers (s : State) : List BtTimer := s.theKeep.bt.timers.filter (fun t => s.kctx.expired s.theKeep t)

/-- R162: the expiry of token k's timer of one kind, when its limit is reached. -/
def State.expireOne (s : State) (kind : BtTimerKind) (k : Nat) : State :=
  match s.expiredTimers.find? (fun t => decide (t.kind = kind) && t.token == k) with
  | some t => s.takeExpiry t
  | none => s

/-- A KP_CMD command is taken in (R133, R141, R152). -/
def State.takeKpCmd (s : State) (k cmd : Nat) : State :=
  let res := ((s.keepOf k).kpCmd k cmd).2
  let s := s.intakeEvent k (0xF0 + cmd) (fun p => (p.kpCmd k cmd).1)
  let s := s.each [0, 1, 2] fun s c => (s.setFlag F.KP_CMD_BUSY false c).wr R.KP_CMD_RES (res + 256) c
  if res = 0 then s.record (if cmd = 1 then .keepBlock else .keepUnblock) srcKeep k 0 else s

/-- The intake (R133) of the events received up to the input angle of the first task released in the cycle, or the sweep's start
angle: the received records in arrival order, then the expiries, then the QUERY records of R163, then the commands of KP_CMD.
It ends where an event takes the module out of the modes in which tasks run. -/
def State.intake (s : State) : State :=
  let upTo := match s.sched.firstRel with | some e => e.2 | none => s.absAngle
  let ev := (s.kevents.filter (fun e => Nat.ble e.1 upTo)).map (fun e => e.2)
  let s := { s with kevents := s.kevents.filter (fun e => Nat.blt upTo e.1), sched := { s.sched with intake := true } }
  let s := s.each ev fun s e => match e with | .brec r => if s.mode.cur.runs then s.takeBrec r else s | .cmd _ _ => s
  let s := s.each s.expiredTimers fun s t => if s.mode.cur.runs then s.takeExpiry t else s
  let ctx := s.kctx
  let s := s.each s.compared fun s x => s.updKeep x (fun p => ctx.sendQueries p)
  s.each ev fun s e => match e with | .brec _ => s | .cmd k c => if s.mode.cur.runs then s.takeKpCmd k c else s

/-! ### Audit (R144, R145) -/

/-- Clocks of an audit. -/
def KCtx.auditClocks (x : KCtx) : Nat := 70 * x.nslots + 2 * x.img.tokens.length

/-- The audit of spire x: its result, the registers that show it (R152), its digest record, and its clocks, which count in the base
cycle that LE_CLK_LAST shows (DESIGN CHOICE, log entry 113). An injection
into the HCHK check makes slot 0 fail, one into the token CRC check the first token read (spec/17 R388). -/
def State.auditSpire (s : State) (x : Nat) : State × Bool :=
  let ctx := s.kctx
  let p := (s.spire x).keep
  let hchk := s.takeInject 3 0 x
  let crc := hchk.2.takeInject 2 0 x
  let s := crc.2
  let own := ctx.audit p hchk.1.isSome
  let r := if crc.1.isSome && !p.tokens.isEmpty && own.all (fun e => e.1 != 0) then some (1, 0) else own
  let v := match r with | none => 1 | some e => 3 + e.1 * 4 + e.2 * 65536
  let s := ((s.wr R.KP_AUDIT v x).wr R.KP_AUDIT_CLK ctx.auditClocks x).wr R.KP_AUDIT_AT s.time.count x
  let s := s.each (List.range 8) fun s k => s.wr R.KP_STATE (p.tokens.filter (fun t => t.st == k)).length k x
  let s := s.updEng x (fun e => { e with clkCycle := e.clkCycle + ctx.auditClocks })
  (s.push x [wrec 6 0x1B0000 0 (ctx.digest p)], r.isSome)

/-- The audit in every compared spire: a mismatch raises the spire's keep-audit source, and in two or more spires takes
the module to SAFE-HALT. The cycle then produces no delta. -/
def State.audit (s : State) : State :=
  let r := s.compared.foldl (fun (a : State × List Nat) x =>
    let q := a.1.auditSpire x
    (q.1, if q.2 then a.2 ++ [x] else a.2)) (s, [])
  let s := r.1
  if r.2.isEmpty then s
  else
    let s := { s with sched := { s.sched with noDelta := true, auditOk := false } }
    let s := s.each r.2 fun s x => s.raise (24 * x + 4)
    if 2 ≤ r.2.length then s.safeHalt 5 else s

/-! ### Inspection latches (R152) -/

/-- Word w of a transaction slot: bytes 4 w to 4 w + 3. -/
def TSlot.word (t : TSlot) (w : Nat) : Nat :=
  if t.tstate = 0 then 0 else beNat ((t.bytes.drop (4 * w)).take 4)

/-- Carry out the latches that writes to KP_TSEL and KP_XSEL ask for. An index at or above TOKENS or TRANSACTIONS, for which no
rule says what is latched, latches zeros: there is no token and no slot there (DESIGN CHOICE, log entry 114; `KeepSt.token`,
`KeepSt.slot`). -/
def State.keepLatches (s : State) : State :=
  let ts := s.sched.tsel
  let xs := s.sched.xsel
  let s := { s with sched := { s.sched with tsel := [], xsel := [] } }
  s.each [0, 1, 2] fun s x =>
    let p := (s.spire x).keep
    let s := if ts.contains x then
        let t := p.token (s.fld F.KP_TSEL_TOKEN x)
        (s.each [0, 1, 2, 3] fun s q => s.wr R.KP_TQ (t.quarter q) q x).setFlag F.KP_TSEL_READY true x
      else s
    if xs.contains x then
      let t := p.slot (s.fld F.KP_XSEL_SLOT x)
      (s.each (List.range 64) fun s w => s.wr R.KP_XWIN (t.word w) w x).setFlag F.KP_XSEL_READY true x
    else s

/-! ### Takeover and transmission -/

/-- R166: at takeover, RECON and a query for every token in transfer, each recorded, with event code 0x0A. -/
def State.takeoverTokens (s : State) : State :=
  let ctx := s.kctx
  let ks := (ctx.takeover s.theKeep).2
  s.each ks fun s k =>
    (s.intakeEvent k 10 (fun p => ctx.query (ctx.setRecon p k) k false)).event .btReconAuth srcKeep k 10

/-- R162: the timer that a transmitted record starts. -/
def startsTimer (kind : Nat) : Option BtTimerKind :=
  match kind with | 1 => some .offer | 2 => some .confirm | 3 => some .completion | 5 => some .retry | _ => none

/-- A record leaves: the timer that waits for it starts at this COUNT. -/
def KCtx.transmitted (x : KCtx) (p : KeepSt) (r : BRec) : KeepSt :=
  match startsTimer r.kind, x.tokenOf r.element with
  | some k, some t => { p with bt := { p.bt with timers := p.bt.timers.map (fun m =>
      if decide (m.kind = k) && m.token == t && m.start.isNone then { m with start := some x.count } else m) } }
  | _, _ => p

/-- R159: transmit records in order with their check values; only to admitted peers (R172). Answers those sent. -/
def State.transmitRecs (s : State) (rs : List BRec) : State :=
  let ctx := s.kctx
  s.each rs fun s r =>
    if ctx.admitted.contains r.dst then
      let r : BRec := { r with cv := s.maskCv (triSig s.content.ring.poly r.dst r.rseq r.body) }
      let s := (s.emit (.boundary r)).triSent
      s.each s.compared fun s x => (s.updKeep x (fun p => ctx.transmitted p r)).bumpReg R.BT_TXCNT x
    else s

end Sys2Proof.Machine
end

