-- ==== Sys2Proof/Machine/OlOps.lean ====
section
/-! DEFINITION. The activation of a staged image (spec/06 R150, R151; spec/21 R449 to R453): what refuses it, the
conversion of the state, and the quotes that are then asked for. Symbols of F, V and of edge detectors in F are named by
instance (log entry 6): space codes 0 F, 1 G, 2 I, 3 Q, 4 T, 5 H, 6 V, 7 an instance, 8 and 9 an edge detector in F and G. -/

namespace Sys2Proof.Machine

/-! ### Symbols -/

/-- The old symbol that a new one keeps: same identity and type hash (R451). -/
def ImageContent.keptAs (old : ImageContent) (y : SymDef) : Option SymDef :=
  old.syms.find? (fun x => x.space == y.space && x.id == y.id && x.thash == y.thash)

/-- New and old address of every kept symbol of a space, and the new symbols that are not kept. -/
def keptAddrs (old new : ImageContent) (space : Nat) : List (Nat × Nat) :=
  (new.syms.filter (fun y => y.space == space)).filterMap (fun y => (old.keptAs y).map (fun x => (y.addr, x.addr)))

/-- The kept symbols' values at their new addresses, over what LOAD gives. -/
def convSpace [DecidableEq α] (d : α) (pairs : List (Nat × Nat)) (loaded cur : Sparse α) : Sparse α :=
  pairs.foldl (fun m e => Sparse.set (fun _ => d) m e.1 (Sparse.get (fun _ => d) cur e.2)) loaded

/-- The frame of a lane: its place in the old image where its instance is kept. -/
def keptLane (old new : ImageContent) (inst : Nat) : Option (Nat × Nat) :=
  let named := new.syms.find? (fun y => y.space == 7 && y.addr == inst)
  let ok := match named with | some y => (old.keptAs y).isSome | none => true
  if ok then (old.lanes.find? (fun l => l.2.2.inst == inst)).map (fun l => (l.1, l.2.1)) else none

/-- The F bits of kept instances at their new places, of the others as at LOAD. -/
def convF (old new : ImageContent) (loaded cur : Sparse Bool) : Sparse Bool :=
  new.lanes.foldl (fun m l =>
    match keptLane old new l.2.2.inst with
    | none => m
    | some p => (List.range 512).foldl (fun m b =>
        Sparse.set (fun _ => false) m (fKey l.1 l.2.1 b) (Sparse.get (fun _ => false) cur (fKey p.1 p.2 b))) m) loaded

/-- The V words likewise. -/
def convV (old new : ImageContent) (loaded cur : Sparse Word) : Sparse Word :=
  new.lanes.foldl (fun m l =>
    match keptLane old new l.2.2.inst with
    | none => m
    | some p => (List.range 64).foldl (fun m b =>
        Sparse.set (fun _ => (0 : Word)) m (vKey l.1 l.2.1 b) (Sparse.get (fun _ => (0 : Word)) cur (vKey p.1 p.2 b))) m) loaded

/-- R451: a kept timer word: a non-vital timer with a constant preset that runs has EXP moved by the change. -/
def convTimer (x y : SymDef) (w : Word) : Word :=
  match x.preset, y.preset with
  | some a, some b =>
    if y.vital || !w.getLsbD 31 then w
    else BitVec.ofNat 32 (w.toNat / 2 ^ 30 * 2 ^ 30 + (w.toNat % 2 ^ 30 + b + 2 ^ 30 - a % 2 ^ 30) % 2 ^ 30)
  | _, _ => w

/-- The timers. -/
def convT (old new : ImageContent) (cur : Sparse Word) : Sparse Word :=
  (new.syms.filter (fun y => y.space == 4)).foldl (fun m y =>
    match old.keptAs y with
    | some x => Sparse.set (fun _ => (0 : Word)) m y.addr (convTimer x y (Sparse.get (fun _ => (0 : Word)) cur x.addr))
    | none => m) []

/-- R451: bits, words, frames and timers. -/
def convMem (old new : ImageContent) (p : SMem) : SMem :=
  let l := new.mem
  { f := convF old new l.f p.f
    v := convV old new l.v p.v
    g := convSpace false (keptAddrs old new 1) l.g p.g
    h := convSpace (0 : Word) (keptAddrs old new 5) l.h p.h
    q := convSpace false (keptAddrs old new 3) l.q p.q
    t := convT old new p.t }

/-- The new edge detectors (R451): those that are not kept. -/
def newEdges (old new : ImageContent) : List (Nat × Nat) :=
  (new.syms.filter (fun y => (y.space == 8 || y.space == 9) && (old.keptAs y).isNone)).map (fun y => (y.space - 8, y.addr))

/-! ### Tokens (R150, R151) -/

/-- The new index of an old token. -/
def tokenMoves (old new : ImageContent) (k : Nat) : Option Nat :=
  match old.tokens[k]? with
  | none => none
  | some d => (new.tokens.zipIdx.find? (fun e => e.1.sym == d.sym)).map (fun e => e.2)

/-- Token k is removed, or retyped: another class, home or boundary marking. -/
def tokenLost (old new : ImageContent) (k : Nat) : Bool :=
  match old.tokens[k]?, tokenMoves old new k with
  | some d, some j => match new.tokens[j]? with
    | some e => d.cls != e.cls || d.home != e.home || d.boundary != e.boundary
    | none => true
  | _, _ => true

/-- R150: activation would be refused. -/
def olTokensBad (old new : ImageContent) (p : KeepSt) : Bool :=
  p.tokens.zipIdx.any (fun e => tokenLost old new e.2
      && !(e.1.st == 0 && e.1.holder == 0xFFFF && !e.1.resident && !e.1.recon))
    || p.slots.any (fun (e : Nat × TSlot) => e.2.tstate == 1 && Nat.ble new.transactions e.1)
    || old.tokens.zipIdx.any (fun e => e.1.boundary && (match tokenMoves old new e.2 with
        | some j => !((new.tokens[j]?).map TokenDef.boundary).getD false
        | none => false))

/-- R449 case 2: the delta removes a peer that has a transfer entry. -/
def olPeersBad (old new : ImageContent) (p : KeepSt) : Bool :=
  old.peers.any (fun d => !new.peers.any (fun e => e.addr == d.addr)
    && (p.bt.timers.any (fun t => ((p.tokens[t.token]?).map Token.peer).getD 0 == d.addr) || p.bt.offers.any (fun o => o.src == d.addr)))

/-- The new index of an old token that goes on as it is: neither removed nor retyped. -/
def tokenGoesOn (old new : ImageContent) (k : Nat) : Option Nat := if tokenLost old new k then none else tokenMoves old new k

/-- R150, R151: the keep under the new image: kept tokens with new indices and what the boundary rules hold of them; added
ones as under R128 and R162, as if loaded in cycle `count`. -/
def convKeep (old new : ImageContent) (count : Nat) (p : KeepSt) : KeepSt :=
  let mv (k : Nat) : Nat := (tokenGoesOn old new k).getD 0xFFFF
  let on (k : Nat) : Bool := (tokenGoesOn old new k).isSome
  let back (j : Nat) : Option Token := (p.tokens.zipIdx.find? (fun e => tokenGoesOn old new e.2 == some j)).map (fun e => e.1)
  let fresh := new.keep p.bt.epoch count
  let added (j : Nat) : Bool := (back j).isNone
  { tokens := new.tokens.zipIdx.map (fun e => (back e.2).getD e.1.initial)
    slots := p.slots.map (fun (e : Nat × TSlot) =>
      let x : TSlot := { e.2 with entries := e.2.entries.map (fun t => { t with token := mv t.token }) }
      (e.1, if e.2.tstate = 1 then x.seal else e.2))
    bt := { p.bt with
      offers := (p.bt.offers.filter (fun o => on o.token)).map (fun o => { o with token := mv o.token })
      authReq := (p.bt.authReq.filter (fun e => on e.1)).map (fun e => (mv e.1, e.2))
      noOwner := (p.bt.noOwner.filter (fun e => on e.1)).map (fun e => (mv e.1, e.2))
      timers := (p.bt.timers.filter (fun t => on t.token)).map (fun t => { t with token := mv t.token })
        ++ fresh.bt.timers.filter (fun t => added t.token)
      settles := (p.bt.settles.filter (fun t => on t.token)).map (fun t => { t with token := mv t.token })
      queries := (p.bt.queries.filter (fun e => on e.1)).map (fun e => (mv e.1, e.2.1, e.2.2))
        ++ fresh.bt.queries.filter (fun e => added e.1) } }

/-! ### Forces, sessions, queues, inputs (R451) -/

/-- Forces: kept at the new address, else lifted and recorded. -/
def State.convForces (s : State) (old new : ImageContent) : State :=
  (s.each (List.range 32) fun s k =>
    if s.flag F.FORCE_ENABLE k s.lead then
      let sp := s.fld F.FORCE_SPACE k s.lead
      match (keptAddrs old new sp).find? (fun e => e.2 == s.fld F.FORCE_INDEX k s.lead) with
      | some e => s.each s.compared fun s c => s.setFld F.FORCE_INDEX e.1 k c
      | none => s.liftForce k
    else s).countForces

/-- Sessions: an unchanged entry continues, a changed one closes into HOLDOFF, a removed one ends, a new one is IDLE. -/
def State.convSessions (s : State) (old new : ImageContent) : State :=
  let s := s.each old.sessions fun s d =>
    if new.sessions.contains d then s
    else if (s.sessAt d.n).st == .opened || (s.sessAt d.n).st == .connecting then s.leaveOpen d.n 0 true
    else s
  let s := s.each (old.sessions.filter (fun d => !new.sessions.any (fun e => e.n == d.n))) fun s d => s.updSess d.n (fun _ => SessSt.none')
  s.each (new.sessions.filter (fun d => !old.sessions.any (fun e => e.n == d.n))) fun s d =>
    s.updSess d.n (fun _ => { SessSt.none' with st := .idle })

/-- Queues: a changed entry loses its descriptors and has all its credits; a removed one ends. -/
def State.convQueues (s : State) (old new : ImageContent) : State :=
  let s := s.each (old.queues.filter (fun d => !new.queues.any (fun e => e.q == d.q))) fun s d => s.updQueue d.q (fun _ => QueueSt.none')
  s.each (new.queues.filter (fun d => !old.queues.contains d)) fun s d =>
    s.updQueue d.q (fun _ => { QueueSt.none' with free := d.credits })

/-- Local inputs: an unchanged entry goes on, a changed one starts at 0. -/
def State.convInputs (s : State) (old new : ImageContent) : State :=
  let entry (m : ImageContent) (i : Nat) : Option InDef := m.io.bind (fun x => x.inputs[i]?)
  { s with io := { s.io with inputs := s.io.inputs.zipIdx.map (fun e =>
      if entry old e.2 = entry new e.2 then e.1 else ⟨0, false, 0, 0, false⟩) } }

/-- A snapshot under the new image. -/
def convSnapshot (old new : ImageContent) (count : Nat) (n : Snapshot) : Snapshot :=
  { n with img := new.id, mem := convMem old new n.mem, keep := convKeep old new count n.keep }

/-- R453: a fresh quote is asked of a module against a new nonce of this one (its value is free). -/
def State.askQuote (s : State) (addr : Nat) : State :=
  let nonce := s.draw.1 % 2 ^ 128
  let s := s.draw.2.emit (.quoteRequest addr nonce)
  let s := if s.content.pair.isSome && addr == s.fld F.PAIR_CONF_PARTNER then { s with pair := { s.pair with nonce := some nonce } } else s
  { s with peers := s.peers.map (fun p => if p.addr = addr then { p with nonce := some nonce } else p) }

/-- The registers that show the active identity (spec/03 R75). -/
def State.showIdentity (s : State) (m : ImageContent) : State :=
  ((s.wr R.IMG_ID_LO m.id.hash).wr R.IMG_ID_HI (m.id.hash / 2 ^ 32)).wr R.IMG_VERSION m.id.version

/-- R450, R451: the staged image takes the place of the active one, and the state is converted, with the snapshot of the
last seal. -/
def State.activateStaged (s : State) (new : ImageContent) : State :=
  let old := s.content
  let s := (s.convForces old new).convSessions old new
  let s := (s.convQueues old new).convInputs old new
  let fresh := newEdges old new
  let s := { s with
    sp := s.sp.mapI (fun _ p => { p with
      mem := convMem old new p.mem
      keep := convKeep old new s.time.count p.keep
      eng := { p.eng with freshEdges := fresh }
      pg := { p.pg with
        snaps := match p.pg.snaps with | n :: t => convSnapshot old new s.time.count n :: t | [] => []
        qcopy := p.pg.qcopy.map (fun (e : Nat × Sparse Bool) => (e.1, convSpace false (keptAddrs old new 3) [] e.2)) } })
    peers := new.peers.map (fun (d : PeerDef) => (s.peers.find? (fun (p : PeerSt) => p.addr == d.addr)).getD ⟨d.addr, false, none, none, 0, false, false, 0, 0⟩)
    img := some new
    upd := { s.upd with staged := none, olHeader := none, target := none, olNext := Three.all 0, olFlash := Three.all [] } }
  let s := (s.loadRegs new).showIdentity new
  let s := ((s.wr R.STG_ID_LO 0).wr R.STG_ID_HI 0).wr R.STG_STATUS 0
  let s := ((s.setFld F.OL_STATUS_STATE 0).bump F.OL_STATUS_ACTIVATIONS).wr R.OL_TARGET 0
  let s := s.record .onlineActivated srcModule new.id.hash new.id.version
  let s := match new.pair with | some p => s.askQuote p.partner | none => s
  s.each new.peers fun s p => s.askQuote p.addr

end Sys2Proof.Machine
end

