-- ==== Sys2Proof/Machine/Power.lean ====
section
/-! DEFINITION. The meanings of power states and supply events (spec/19 R414 to R423, spec/01 R26) and of the lamp
phase (spec/22 R467). -/

namespace Sys2Proof.Machine

/-! ### Power states -/

/-- R414, R419: the deepest state that the mode and POWER_LIMITS allow. -/
def State.deepest (s : State) : Nat :=
  let act := if s.img.isSome then s.fld F.PWR_CFG_ACT_MAX else 3
  let stby := if s.img.isSome then s.fld F.PWR_CFG_STBY_MAX else 4
  match s.mode.cur with
  | .active | .active2oo2 | .safeHalt | .isolated => min act 3
  | .standby => min stby 4
  | _ => 1

/-- R415: 1.1 × latency(l) ≤ d, with the CAU length of the base cycle in progress. -/
def State.fits (s : State) (l dist : Nat) : Bool := Nat.ble (wakeNs l * 11 * 65536) (10 * dist * s.time.tbNs)

/-- R415: the state chosen at an idle entry, for the distance to the next scheduled event; the deepest allowed one where no event
is scheduled. -/
def State.chooseState (s : State) (dist : Option Nat) : Nat :=
  [1, 2, 3, 4].foldl (fun m l => if l ≤ s.deepest && dist.all (s.fits l) then l else m) 0

/-- CAU from the present angle to the next occurrence of an angle. -/
def State.ahead (s : State) (a : Nat) : Nat := (a + 65535 - s.time.angle) % 65536 + 1

/-- CAU to the next occurrence of an angle in a base cycle in which a periodic task is due (spec/05 R108). -/
def State.dueAhead (s : State) (d : TaskDef) (a : Nat) : Nat :=
  let p := 2 ^ d.periodExp
  let k := (d.phase + p - s.time.count % p) % p
  (if k = 0 ∧ a ≤ s.time.angle then p else k) * 65536 + a - s.time.angle

/-- CAU to the start of the first round whose vital part has not been computed (R418). -/
def State.vitalAhead (s : State) : Nat :=
  match s.pair.pre with
  | some p => (p.upTo + 1 - s.time.count) * 65536 - s.time.angle
  | none => (((List.range s.rounds).map s.roundAngle).filter (fun a => Nat.blt s.time.angle a)).foldl (fun m a => min m (a - s.time.angle))
      (65536 - s.time.angle)

/-- R415: the distances to the scheduled events of the mode; `march` is that of the next due automatic march step, whose angle the
spec leaves to the module (spec/09 R203). In a mode that the rule does not name, those of ACTIVE (log entry 129). -/
def State.eventsAhead (s : State) (march : Option Nat) : List Nat :=
  let k := s.content.sched
  if s.img.isNone then march.toList
  else if s.mode.cur = .standby then
    (if k.sweep then k.outs.map s.ahead else [65536 - s.time.angle + k.sealAng]) ++ [s.vitalAhead]
  else
    (if k.sweep then (k.starts ++ k.outs).map s.ahead
     else s.ahead k.sealAng :: k.tasks.flatMap (fun d =>
       s.ahead d.outAng :: (if d.code < 8 then [s.dueAhead d d.inAng, s.dueAhead d d.relAng] else []))) ++ march.toList

/-- R415: the distance to the next scheduled event. -/
def State.nextEvent (s : State) (march : Option Nat) : Option Nat :=
  match s.eventsAhead march with
  | [] => none
  | a :: l => some (l.foldl min a)

/-- SPIRE_IDLE (R415): the state is chosen, and the angle at which the spire begins to wake set. -/
def execSpireIdle (spire : Nat) (march : Option Nat) (s : State) : Host.Outcome State Fault Refusal :=
  act s fun s =>
    if (s.sp.get spire).eng.run then s
    else
      let d := s.nextEvent march
      let l := s.chooseState d
      let a := if l = 0 then none else d.map (fun n => s.absAngle + n - s.wakeCau l)
      let s := (s.setFld (pwrField spire) l).setFld F.PWR_STATE_LAST l
      { s with pwr := { s.pwr with wakeAt := s.pwr.wakeAt.set spire a } }

/-- SCHEDULED_WAKE (R415, R423): the wake angle is reached; `late` when the event came before L0. -/
def execScheduledWake (spire : Nat) (late : Bool) (s : State) : Host.Outcome State Fault Refusal :=
  act s fun s =>
    let s := match s.pwr.wakeAt.get spire with
      | some a => if a / 65536 = s.time.count then s.advanceTo (a % 65536) else s
      | none => s
    let s := s.setAwake spire
    if late then s.bump F.PWR_WAKES_LATE else s

/-- The register that PWR_CTRL.CLR_CNT clears (R423). -/
def State.pwrClear (s : State) : State := s.wr R.PWR_WAKES 0

/-- PWR_CTRL_CLR_CNT (R423). -/
def execPwrCtrlClrCnt (c : Svc) (s : State) : Host.Outcome State Fault Refusal := act s fun s => s.svcWrite c State.pwrClear

/-! ### Supplies -/

/-- A feed measurement within R470's absolute maximum, else the stop. -/
def feedOp (mv : Nat) (s : State) (f : State → State) : Host.Outcome State Fault Refusal :=
  if 60000 < mv then .fault (.beyondRatings "PWR_A, PWR_B") else act s f

/-- Change feed 0 A or 1 B. -/
def State.updFeed (s : State) (feed : Nat) (f : FeedSt → FeedSt) : State :=
  if feed = 0 then { s with pwr := { s.pwr with feedA := f s.pwr.feedA } } else { s with pwr := { s.pwr with feedB := f s.pwr.feedB } }

/-- The source of a feed. -/
def feedSource (feed : Nat) : Nat := if feed = 0 then 104 else 105

/-- FEED_FAULT (R420): a feed has been out of its range for 1 ms. -/
def execFeedFault (feed mv : Nat) (s : State) : Host.Outcome State Fault Refusal :=
  feedOp mv s fun s =>
    let s := s.updFeed feed (fun x => { x with mv := mv })
    if mv < 16800 ∨ 36000 < mv then s.raise (feedSource feed) else s

/-- The measured voltages. -/
def State.setSupplies (s : State) (aMv bMv busMv : Nat) : State :=
  { s with pwr := { s.pwr with feedA := { s.pwr.feedA with mv := aMv }, feedB := { s.pwr.feedB with mv := bMv }, busMv := busMv } }

/-- SUPPLY_WARNING (R420, R421). -/
def execSupplyWarning (aMv bMv busMv : Nat) (s : State) : Host.Outcome State Fault Refusal :=
  feedOp (max aMv bMv) s fun s =>
    let s := s.setSupplies aMv bMv busMv
    if s.pwr.feedA.level < 16000 && s.pwr.feedB.level < 16000 && !s.pwr.warn then
      ({ s with pwr := { s.pwr with warn := true, warnSince := s.time.clockNs, busMin := busMv } }).raise 106
    else s

/-- R34, R421: a mark write that the warning deferred is made. -/
def State.deferredMark (s : State) : State :=
  match s.time.markDeferred with
  | none => s
  | some m => { s with time := { s.time with mark := m, markDeferred := none } }

/-- SUPPLY_DIP (R420): the warning ends with the bus never below 12.0 V; `us` its duration, `minMv` the lowest bus
voltage. The recorder stores again (log entry 9). -/
def execSupplyDip (aMv bMv busMv minMv us : Nat) (s : State) : Host.Outcome State Fault Refusal :=
  feedOp (max aMv bMv) s fun s =>
    let s := s.setSupplies aMv bMv busMv
    if s.pwr.warn && Nat.ble 12000 minMv && (Nat.ble 16800 s.pwr.feedA.level || Nat.ble 16800 s.pwr.feedB.level) then
      let s := { s with pwr := { s.pwr with warn := false, warnSince := 0, busMin := busMv }, rcd := { s.rcd with stopped := false } }
      let s := s.record .supplyDip srcModule (min us 0xFFFFFFFF) minMv
      let s := (s.bump F.SUP_DIP_COUNT).setFld F.SUP_DIP_LAST_MS (min (us / 1000) 65535)
      let s := (((if (s.src 106).cond then s.endCond 106 else s).raise 107).endCond 107)
      { s.deferredMark with pwr := { s.deferredMark.pwr with deferRows := [] } }
    else s

/-- HOLDUP_TEST (R420): every 24 h. -/
def execHoldupTest (ms : Nat) (s : State) : Host.Outcome State Fault Refusal := act s fun s => s.holdupResult ms

/-- FEED_OVERVOLTAGE (R26): the switch disconnects the feed. -/
def execFeedOvervoltage (feed mv : Nat) (s : State) : Host.Outcome State Fault Refusal :=
  feedOp mv s fun s => s.updFeed feed (fun x => { x with mv := mv, connected := x.connected && decide (mv ≤ 36000) })

/-- FEED_RECONNECT (R26): 10 ms at or below 35 V. -/
def execFeedReconnect (feed mv : Nat) (s : State) : Host.Outcome State Fault Refusal :=
  feedOp mv s fun s => s.updFeed feed (fun x => { x with mv := mv, connected := x.connected || decide (mv ≤ 35000) })

/-- LAMP_AMBER_END (R467). -/
def execLampAmberEnd (s : State) : Host.Outcome State Fault Refusal :=
  act s fun s => { s with pwr := { s.pwr with lampTest := false } }

end Sys2Proof.Machine
end

