-- ==== Sys2Proof/Machine/SchedOps.lean ====
section
/-! DEFINITION. The scheduler's operations (spec/05 R106 to R122): the input image and its freeze, a spire that joins, the
choice of the next group, finials, the audit and the seal. The three spires' schedulers decide alike. -/

namespace Sys2Proof.Machine

/-! ### The input image (spec/12 R280, spec/14 R321, spec/15 R339, R343, spec/16 R357) -/

/-- The bits of the local inputs: debounced values, pair values, wire-break bits. -/
def State.localBits (s : State) : List (Nat × Bool) :=
  match s.content.io with
  | none => []
  | some m =>
    s.io.inputs.zipIdx.filterMap (fun e => if e.1.val then some (m.iVal + e.2, true) else none)
      ++ s.io.pairs.zipIdx.filterMap (fun e => if e.1.value then some (m.iPair + e.2, true) else none)
      ++ s.io.inputs.zipIdx.filterMap (fun e => if e.1.wb then some (m.iWb + e.2, true) else none)

/-- An object controller. -/
def State.ctlAt (s : State) (ch addr : Nat) : CtlSt := Sparse.get (fun _ => CtlSt.idle) s.ctls (ch * 32 + addr)

/-- Change an object controller. -/
def State.updCtl (s : State) (ch addr : Nat) (f : CtlSt → CtlSt) : State :=
  { s with ctls := Sparse.upd (fun _ => CtlSt.idle) s.ctls (ch * 32 + addr) f }

/-- Every controller of the image with its channel. -/
def ImageContent.controllers (m : ImageContent) : List (Nat × CtlDef) := m.can.flatMap (fun c => c.ctls.map (fun d => (c.ch, d)))

/-- R321: absence is judged at the freeze. -/
def State.judgeAbsent (s : State) : State :=
  s.each s.content.controllers fun s e =>
    let c := s.ctlAt e.1 e.2.addr
    if !c.absent && Nat.ble (c.lastAt + e.2.stTo * 65536) s.atNow then
      (s.updCtl e.1 e.2.addr (fun c => { c with absent := true })).wr R.CAN_ABSENT (s.rd R.CAN_ABSENT e.1 ||| 2 ^ e.2.addr) e.1
    else s

/-- The bits of DATA placed from I base `base` up: bit i is bit (i mod 8) of byte i div 8. -/
def dataBits (base : Nat) (l : List Byte) : List (Nat × Bool) :=
  l.zipIdx.flatMap (fun b => (List.range 8).filterMap (fun i => if b.1.getLsbD i then some (base + 8 * b.2 + i, true) else none))

/-- The bits of the object controllers; vital bits of an absent one read 0. -/
def State.ctlBits (s : State) : List (Nat × Bool) :=
  s.content.controllers.flatMap (fun e =>
    let c := s.ctlAt e.1 e.2.addr
    let l := dataBits e.2.iBase c.data
    if c.absent then l.filter (fun b => !s.vitalBit 2 b.1) else l)

/-- The bits that non-vital messages of the channels feed. -/
def State.plainBits (s : State) : List (Nat × Bool) :=
  s.content.can.flatMap (fun c => c.rx.zipIdx.flatMap (fun e =>
    dataBits e.1.2.2 ((Sparse.get (fun _ => []) (Sparse.get (fun _ => CanCh.idle) s.can c.ch).plain e.2).take e.1.2.1)))

/-- The bits of the imports: 0 once no frame has brought them in 2 rounds. -/
def State.importBits (s : State) : List (Nat × Bool) :=
  (s.content.ring.imports.zipIdx).flatMap (fun e =>
    let x := s.ring.imports.getD e.2 ([], 3)
    if 3 ≤ x.2 then [] else bitsAt e.1.2.2 (x.1.map (BitVec.ofNat 32)))

/-- The input image as it stands. -/
def State.inputNow (s : State) : Sparse Bool :=
  sparseOf (fun _ => false) (s.localBits ++ s.ctlBits ++ s.plainBits ++ s.importBits
    ++ s.content.sessions.flatMap (fun d => s.sessBits d) ++ s.queueBits)

/-- R90: the tick number at the present angle. -/
def State.tickNow (s : State) : Nat := (s.time.count * s.tbMs + (ticksAt s.tbMs s.time.angle - 1)) % 2 ^ 30

/-- Freeze the input image of a task (R108, R111, R118): sessions and the queues it consumes are checked; NOW follows;
pages of its input image that an earlier freeze left resident are dropped, unless pinned. -/
def State.freeze (s : State) (t : Nat) : State :=
  let s := s.freezeSessions
  let s := s.each (s.queuesOf t) fun s d => s.freezeQueue d
  let s := s.judgeAbsent
  let img := s.inputNow
  let now := s.tickNow
  let s := s.updTask t (fun k => { k with input := img, now := now })
  s.each [0, 1, 2] fun s x => s.updPg x (fun g => { g with slots := g.slots.filter (fun q =>
    match q.page with | .input u _ => q.pinned || u != t | _ => true) })

/-! ### A spire that joins (R12, R226, R227) -/

/-- The bits of a per-spire register that a rejoining spire takes from its donors. -/
def donorMask (k : Nat) : Nat := match regAt k with | some r => r.rw ||| r.rwl ||| r.rwm ||| r.rwa | none => 0

/-- Copy c of a per-spire register key. -/
def copyKey (k c : Nat) : Nat :=
  let a := k % 16777216
  if 0x30000 ≤ a ∧ a < 0x3C000 then 0x30000 + (a - 0x30000) % 0x4000 + 0x4000 * c else a + 16777216 * c

/-- R12, R226: spire x takes the writable per-spire registers of donor d. -/
def State.takeRegs (s : State) (x d : Nat) : State :=
  let ks := (s.regs.filter (fun e => perSpire e.1 && (copyOf e.1 == x || copyOf e.1 == d))).map (fun e => copyKey e.1 0)
  s.each ks fun s k =>
    let m := BitVec.ofNat 32 (donorMask k)
    s.setWord (copyKey k x) ((s.word (copyKey k x) &&& ~~~m) ||| (s.word (copyKey k d) &&& m))

/-- R227: a spire that has joined takes part in the comparison from the first release after the hold: it stands then as its
donors do, but for the repair map of its own banks. -/
def State.enterSpire (s : State) (x : Nat) : State :=
  match s.compared with
  | d :: _ =>
    let s := s.takeRegs x d
    let s := s.updSpire x (fun p => { s.spire d with pg := { (s.spire d).pg with repair := p.pg.repair } })
    { s with bf := { s.bf with
      entering := s.bf.entering.set x false
      streams := s.bf.streams.set x (s.bf.streams.get d)
      spst := s.bf.spst.set x .compared } }
  | [] => s

/-- The spires that wait for their first release take part from here on. -/
def State.enterJoined (s : State) : State := s.each (threeIdx s.bf.entering.get) fun s x => s.enterSpire x

/-! ### Tasks -/

/-- The image uses sweep mode (R106). -/
def State.sweepMode (s : State) : Bool := s.content.sched.sweep

/-- The definition of task t. -/
def State.taskDef (s : State) (t : Nat) : Option TaskDef :=
  if s.sweepMode then none else s.content.sched.tasks.find? (fun d => d.code == t)

/-- R108, R116: a periodic task is due in the present base cycle. -/
def State.isDue (s : State) (d : TaskDef) : Bool := Nat.blt d.code 8 && s.time.count % 2 ^ d.periodExp == d.phase

/-- The task was released in the present base cycle. -/
def State.releasedNow (s : State) (t : Nat) : Bool :=
  match (s.task t).rel with | some r => Nat.ble (s.time.count * 65536) r | none => false

/-- R116: every periodic task due in this base cycle has passed its last finial. -/
def State.allDueDone (s : State) : Bool :=
  s.content.sched.tasks.all (fun d => !s.isDue d || (s.releasedNow d.code && !(s.task d.code).ready))

/-- The counters of releases and the second count of a task. -/
def relField (t : Nat) : Field := if t < 8 then F.PT_CNT_RELEASES else F.ET_CNT_RELEASES

/-- The index of a task within its register family. -/
def taskIdx (t : Nat) : Nat := if t < 8 then t else t - 8

/-! ### Requested march tests (spec/09 R201, R203) -/

/-- R203: a destructive test runs only on an unused bank, or on any bank in MAINTENANCE. -/
def State.mayMarch (s : State) (q : MarchReq) : Bool := q.preserve || s.content.banks.getD q.bank 0 == 0 || s.mode.cur == .maintenance

/-- The requested step that waits in spire x starts: its 4 KiB is fenced, and with the first one the test is busy. -/
def State.marchGo (s : State) (x : Nat) : State :=
  match (s.spire x).pg.march with
  | none => s
  | some q =>
    if q.go then s
    else
      let s := if q.block = 0 then s.wr R.MT_STATUS (1 + q.bank * 8) x else s
      (s.setFlag F.BANK_STAT_FENCED true q.bank x).updPg x (fun g => { g with march := some { q with go := true } })

/-! ### Groups -/

/-- The base mask of a group: a bit for each lane that holds an instance (R76). -/
def GroupDef.mask (g : GroupDef) : BitVec 8 := BitVec.ofNat 8 (2 ^ g.lanes.length - 1)

/-- Start group g in every compared spire (R76). -/
def State.startGroup (s : State) (g now : Nat) : State :=
  let m := s.content
  let base := (m.groups.getD g ⟨0, 0, []⟩).mask
  let s := { s with bf := { s.bf with pos := 0, barrierReady := false } }
  s.each s.compared fun s x =>
    ((s.wr R.LE_NOW now x).updEng x (fun e => if e.stopped then e else { e with
      run := true, barrier := false, group := g, pc := (m.codeOf g).1, skip := 0, stack := [base], acc := 0
      wacc := List.replicate 8 0 })).startFill x

/-- Ready tasks that no hold keeps back. -/
def State.readyTasks (s : State) : List TaskDef :=
  s.content.sched.tasks.filter (fun d => (s.task d.code).ready && !(s.task d.code).held)

/-- The one with the lowest PRIO. -/
def State.pick (s : State) : Option TaskDef :=
  s.readyTasks.foldl (fun (b : Option TaskDef) d => match b with | some c => if d.prio < c.prio then some d else b | none => some d) none

/-- R133: task t is the first one released in this cycle (or the sweep): its intake takes events up to `upTo`. -/
def State.firstRelease (s : State) (t upTo : Nat) : State :=
  { s with sched := { s.sched with firstRel := s.sched.firstRel <|> some (t, upTo) } }

/-- The intake, before the first group of the first task released in the cycle, or of the sweep (R133). -/
def State.intakeOnce (s : State) : State := if s.sched.intake || s.sched.firstRel.isNone then s else s.intake

/-- Run the next group of task t, after the intake of the cycle (R133). -/
def State.runTask (s : State) (t : Nat) : State :=
  let s := { s with sched := { s.sched with cur := t } }
  let s := s.intakeOnce
  if s.sched.cur = t then s.startGroup ((s.content.run t).1 + (s.task t).next) (s.task t).now else s

/-! ### The seal (R117, R119, spec/09 R192) -/

/-- R23: the cycle may be sealed: no spire isolated and no failed audit in it, and its audit has run. -/
def State.mayS (s : State) : Bool := !s.sched.noDelta && s.sched.audited && s.sched.auditOk

/-- R112: start work when no task runs: a waiting seal first, then the ready task with the lowest PRIO. -/
def State.dispatch (s : State) : State :=
  if s.sched.cur ≠ 31 || s.sched.sealRuns || !s.mode.cur.runs then s
  else match s.pick with
    | some d => s.runTask d.code
    | none => s

/-- The seal starts: the engines start no group until it is complete. A cycle that may not be sealed has no seal: the hold
lasts to its end (R117, `State.sealEnd`), and the ready tasks go on. -/
def State.beginSeal (s : State) : State :=
  if s.mayS then { s with sched := { s.sched with sealWaits := false, sealRuns := true } }
  else { s with sched := { s.sched with sealWaits := false } }.dispatch

/-! ### Finials (R113 to R116) -/

/-- R115: the Q copy of a task begins at its last finial: every Q page is to be copied. -/
def State.startQCopy (s : State) (t : Nat) : State :=
  s.each s.compared fun s x => s.updPg x (fun g => { g with
    qpend := g.qpend.filter (fun e => e.2 != t) ++ (List.range 8).map (fun p => (p, t)) })

/-- Complete a Q copy: every page still to be copied. -/
def State.endQCopy (s : State) (t : Nat) : State :=
  s.each s.compared fun s x =>
    s.each ((s.spire x).pg.qpend.filter (fun e => e.2 == t)) fun s e => s.qCopyPage x t e.1

/-- The registers that show an execution (R125): clocks, stalls, last finial and slack. -/
def State.showExecution (s : State) (t : Nat) : State :=
  let k := s.task t
  let a := s.time.angle
  let slack := ((k.deadline.getD 0) + 2 ^ 48 - s.absAngle) % 65536
  s.each [0, 1, 2] fun s x =>
    let clk := min (Sparse.get (fun _ => 0) (s.eng x).clkTask t) 0xFFFFFFFF
    let stl := min (Sparse.get (fun _ => 0) (s.eng x).stallTask t) 0xFFFFFFFF
    if t = 24 then (s.wr R.SWP_CLK clk x).wr R.SWP_STALL stl x
    else if t < 8 then ((s.wr R.PT_CLK clk t x).wr R.PT_STALL stl t x).wr R.PT_LAST (a + slack * 65536) t x
    else ((s.wr R.ET_CLK clk (t - 8) x).wr R.ET_STALL stl (t - 8) x).wr R.ET_LAST (a + slack * 65536) (t - 8) x

/-- The messages that the execution in progress has marked, as the spire that stands for the module marked them. -/
def State.marked (s : State) (t : Nat) : List Nat :=
  ((s.task t).marks.filter (fun e => e.1 == s.bodySpire)).map (fun e => e.2)

/-- The execution of task t is complete at the present angle: its marks and its Q copy are those of its latest completed
execution. Messages of an event task's earlier execution that have not gone out yet go out with them (R111). -/
def State.completed (s : State) (t : Nat) : State :=
  let a := s.absAngle
  let l := s.marked t
  let s := s.updTask t (fun k => { k with
    marks := [], fin := some a, sent := false
    outMarks := if 8 ≤ t && t != 24 && !k.sent then (k.outMarks ++ l).eraseDups else l })
  s.startQCopy t

/-- Task t passes its last finial: disarmed; its queues give back their credits. A sweep is complete only after its audit
(R119), and until then its outputs are those of the sweep before. -/
def State.lastFinial (s : State) (t : Nat) : State :=
  let s := s.showExecution t
  let s := s.updTask t (fun k => { k with ready := false, next := 0, lead := false, deadline := if t = 24 then k.deadline else none })
  let s := if t = 24 then s else s.completed t
  s.each (s.queuesOf t) fun s d => s.releaseQueue d

/-- The audit has written its digest record, at which every compared spire waits (spec/10 R212, R213). -/
def State.waitAtDigest (s : State) : State := s.each s.compared fun s x => s.updEng x (fun e => { e with barrier := true })

/-- The keep audit starts (R116, R119, spec/06 R144); it ends with its digest barrier (spec/10 R213). -/
def State.startAudit (s : State) : State :=
  let s := { s with
    sched := { s.sched with cur := 25, audited := true, auditOk := true }
    bf := { s.bf with pos := 0, barrierReady := false } }
  s.audit.waitAtDigest

/-- What the schedulers do after a barrier in task mode (R113, R116, R117). `last` when a task passed its last finial. -/
def State.afterBarrier (s : State) (last : Bool) : State :=
  if s.sweepMode then s.dispatch
  else if !s.sched.audited && s.allDueDone && s.mode.cur.runs then s.startAudit
  else if last && s.sched.sealWaits then ({ s with sched := { s.sched with cur := 31 } }).beginSeal
  else
    let t := s.sched.cur
    let s := { s with sched := { s.sched with cur := 31 } }
    match s.pick with
    | none => s
    | some d =>
      let s := if t < 8 && d.code ≠ t && (s.task t).ready then s.each [0, 1, 2] fun s c => s.bump F.PT_CNT_PREEMPT t c else s
      s.dispatch

end Sys2Proof.Machine
end

