-- ==== Sys2Proof/Machine/KeepCmds.lean ====
section
/-! DEFINITION. The meanings of the token keep's and the boundary's commands (spec/06, spec/07). -/

namespace Sys2Proof.Machine

/-- KEEP_INTAKE (R133): the events received are taken in, once per base cycle or sweep, in the modes in which tasks
run. -/
def execKeepIntake (s : State) : Host.Outcome State Fault Refusal :=
  act s fun s => if s.mode.cur.runs && s.img.isSome && !s.sched.intake then s.intake else s

/-! ### KP_CMD (R152, R153) -/

/-- A KP_CMD value names a token of the image and the command `cmd`. -/
def State.kpCmdOk (s : State) (cmd a : Nat) : Bool := bits a 16 4 == cmd && Nat.blt (bits a 0 16) s.content.tokens.length

/-- The register shows the command, BUSY until it is taken in. -/
def State.kpBusy (s : State) (a : Nat) : State := s.each s.compared fun s x => s.wr R.KP_CMD (a % 2 ^ 20 + 2 ^ 31) x

/-- The command waits for the next intake. -/
def State.kpQueue (s : State) (a : Nat) : State :=
  { s.kpBusy a with kevents := s.kevents ++ [(s.absAngle, .cmd (bits a 0 16) (bits a 16 4))] }

/-- A write of access RWA to KP_CMD: accepted under R12 and R9, written to the change log, then `f`. -/
def State.kpWrite (s : State) (c : Svc) (v : SpireVals) (cmd : Nat) (f : Nat → State → State) : State :=
  s.service c fun x s =>
    match v.common s.compared with
    | some a =>
      if s.mayRwa x && s.kpCmdOk cmd a && roOk R.KP_CMD.addr (s.word (R.KP_CMD.key s.lead 0)) a then s.svcConfig x (spireMask s.compared) (R.KP_CMD.key 0 0) (s.rd R.KP_CMD s.lead) a (fun s => f a s.wakeSpires)
      else s.refuse x (R.KP_CMD.key 0 0)
    | none => s.refuse x (R.KP_CMD.key 0 0)

/-- KP_CMD_BLOCK (R153): takes effect at the next intake. -/
def execKpCmdBlock (c : Svc) (v : SpireVals) (s : State) : Host.Outcome State Fault Refusal :=
  act s fun s => s.kpWrite c v 1 fun a s => s.kpQueue a

/-- R153: an UNBLOCK in ACTIVE and ACTIVE-2OO2 has effect only at a second write of the same value within 60 s; until then
BUSY reads 1 and the token stays blocked. -/
def State.kpUnblock (s : State) (a : Nat) : State :=
  let waits := s.svc.confirms.any (fun p => p.code == cmdKpUnblock && p.opnds == [a] && decide (s.time.clockNs ≤ p.untilNs))
  let rest := s.svc.confirms.filter (fun p => p.code != cmdKpUnblock)
  if waits || !s.mode.cur.track then { s with svc := { s.svc with confirms := rest } }.kpQueue a
  else { s with svc := { s.svc with confirms := ⟨cmdKpUnblock, [a], s.time.clockNs + 60000000000⟩ :: rest } }.kpBusy a

/-- KP_CMD_UNBLOCK (R153). -/
def execKpCmdUnblock (c : Svc) (v : SpireVals) (s : State) : Host.Outcome State Fault Refusal :=
  act s fun s => s.kpWrite c v 2 fun a s => s.kpUnblock a

/-- The effect of a value written to KP_CMD. -/
def State.kpSet (s : State) (a : Nat) : State := if bits a 16 4 = 1 then s.kpQueue a else s.kpUnblock a

/-! ### Inspection (R152) -/

/-- R152: the token is latched at the next finial barrier, or at once while no task runs. -/
def State.selectToken (s : State) (a : Nat) : State :=
  let s := s.each s.compared fun s x => s.wr R.KP_TSEL (a % 65536) x
  let s := { s with sched := { s.sched with tsel := s.compared } }
  if s.sched.cur = 31 then s.keepLatches else s

/-- KP_TSEL_WRITE (R152). -/
def execKpTselWrite (c : Svc) (v : SpireVals) (s : State) : Host.Outcome State Fault Refusal :=
  act s fun s => s.svcWriteSpires c (R.KP_TSEL.key 0 0) v (fun a s => s.selectToken a)
    fun a s => roOk R.KP_TSEL.addr (s.word (R.KP_TSEL.key s.lead 0)) a

/-- The same for a transaction slot. -/
def State.selectSlot (s : State) (a : Nat) : State :=
  let s := s.each s.compared fun s x => s.wr R.KP_XSEL (a % 4096) x
  let s := { s with sched := { s.sched with xsel := s.compared } }
  if s.sched.cur = 31 then s.keepLatches else s

/-- KP_XSEL_WRITE (R152). -/
def execKpXselWrite (c : Svc) (v : SpireVals) (s : State) : Host.Outcome State Fault Refusal :=
  act s fun s => s.svcWriteSpires c (R.KP_XSEL.key 0 0) v (fun a s => s.selectSlot a)
    fun a s => roOk R.KP_XSEL.addr (s.word (R.KP_XSEL.key s.lead 0)) a

/-- The effect of a value written to KP_CTRL: bit 0 clears KP_RESk and KP_PEAK. -/
def State.kpCtrl (s : State) (a : Nat) : State :=
  if bitOf a 0 then
    s.each s.compared fun s x => (s.each (List.range 8) fun s k => s.wr R.KP_RES 0 k x).wr R.KP_PEAK 0 x
  else s

/-- KP_CTRL_CLR_CNT. -/
def execKpCtrlClrCnt (c : Svc) (v : SpireVals) (s : State) : Host.Outcome State Fault Refusal :=
  act s fun s => s.svcWriteSpires c (R.KP_CTRL.key 0 0) v fun a s => s.kpCtrl a

/-! ### Boundary timeouts (R162) -/

/-- A boundary timer of a token has reached its limit at an intake: its expiry, in a module that takes records in. -/
def State.timeoutOf (s : State) (kind : BtTimerKind) (token : Nat) : State :=
  if s.mode.cur.runs && s.img.isSome then s.expireOne kind token else s

/-- OFFER_TIMEOUT: QUERY with WITHDRAW. -/
def execOfferTimeout (token : Nat) (s : State) : Host.Outcome State Fault Refusal := act s fun s => s.timeoutOf .offer token

/-- CONFIRM_TIMEOUT: RECON set, QUERY. -/
def execConfirmTimeout (token : Nat) (s : State) : Host.Outcome State Fault Refusal := act s fun s => s.timeoutOf .confirm token

/-- COMPLETION_TIMEOUT: RECON set, QUERY. -/
def execCompletionTimeout (token : Nat) (s : State) : Host.Outcome State Fault Refusal := act s fun s => s.timeoutOf .completion token

/-- RETRY_TIMEOUT: QUERY again. -/
def execRetryTimeout (token : Nat) (s : State) : Host.Outcome State Fault Refusal := act s fun s => s.timeoutOf .retry token

/-- LONG_PARTITION_TIMEOUT: AUTH_REQ, BT_LONG_PARTITION. -/
def execLongPartitionTimeout (token : Nat) (s : State) : Host.Outcome State Fault Refusal := act s fun s => s.timeoutOf .long token

/-! ### Transmission (R159, spec/12 R263, R275) -/

/-- R263, R275: how many records a static (or reference) frame of this module holds in a schedule. -/
def State.brecRoomIn (s : State) (sched : Nat) (reference : Bool) : Nat :=
  match s.content.scheds[sched]? with
  | none => 0
  | some g => (125 * (g.slotHalf - 2) / 2 - 20 - 48 - (if reference then 32 else 0) - 4 * s.content.ring.exw) / 44

/-- The same for a static frame of ring α. -/
def State.brecRoom (s : State) : Nat := s.brecRoomIn s.ring.sched false

/-- The partner counts as being in STANDBY: its frames have come in the last 2 rounds (spec/11 R237). -/
def State.partnerStandby (s : State) : Bool := s.content.pair.isSome && Nat.blt s.pair.missRounds 2 && s.pair.partner.mode == 6

/-- R159: the last COUNT whose records may leave: that of the last seal, and where the partner is in STANDBY of the last
seal that it has reported applied. -/
def State.lastSealed (s : State) : Option Nat :=
  let l := (s.spire s.bodySpire).pg.snaps
  (l.find? (fun n => !s.partnerStandby || Nat.ble n.seq s.pair.partner.seq)).map (fun n => n.count)

/-- R159, R172: the records that may leave now, in order: those of sealed cycles to admitted peers. -/
def State.mayLeave (s : State) (e : Nat × BRec) : Bool :=
  match s.lastSealed with
  | some c => Nat.ble e.1 c && s.peers.any (fun (p : PeerSt) => p.addr == e.2.dst && p.admitted)
  | none => false

/-- Up to `room` boundary records for receivers that satisfy `to` leave; answers them. Only a member that controls track
sends (R155). -/
def State.sendBoundaryIn (s : State) (room : Nat) (dest : Nat → Bool) : State × List BRec :=
  if s.mode.cur.track then
    let out := ((s.theKeep.bt.outbox.filter (fun e => s.mayLeave e && dest e.2.dst)).take room).map (fun e => e.2)
    let cv := fun (r : BRec) => s.maskCv (triSig s.content.ring.poly r.dst r.rseq r.body)
    let t := s.transmitRecs out
    let t := t.each t.compared fun t x => t.updKeep x (fun p => { p with bt := { p.bt with
      outbox := p.bt.outbox.filter (fun e => !out.contains e.2) } })
    (t, out.map (fun (r : BRec) => { r with cv := cv r }))
  else (s, [])

/-- Up to one static frame's room leaves. -/
def State.sendBoundary (s : State) : State × List BRec := s.sendBoundaryIn s.brecRoom (fun _ => true)

/-- BOUNDARY_TRANSMIT (R159). -/
def execBoundaryTransmit (s : State) : Host.Outcome State Fault Refusal := act s fun s => s.sendBoundary.1

/-! ### Authorised reconciliation (R167 to R169) -/

/-- Modes in which SETTLE and FENCE are accepted. -/
def Mode.settles (m : Mode) : Bool := m.track || m == .maintenance

/-- The boundary tokens that a SETTLE names and that reconciliation may settle here (R141: non-owning, or RECON). -/
def State.settleTokens (s : State) (o : SettleOp) : List Nat :=
  let ctx := s.kctx
  let l := match o.element with
    | some e => (match ctx.tokenOf e with | some k => [k] | none => [])
    | none => ((s.content.peers.find? (fun (p : PeerDef) => p.addr == o.peer)).map PeerDef.tokens).getD []
  l.filter (fun k => !(s.theKeep.token k).owning || (s.theKeep.token k).recon)

/-- SETTLE (R167): a SETTLE record to every listing module; the command ends with their answers or at T_CONF. -/
def execSettle (c : Svc) (o : SettleOp) (s : State) : Host.Outcome State Fault Refusal :=
  act s fun s => s.authorised c cmdSettle (o.element.getD o.peer) o.number [.maintainer]
    (fun s => s.mode.cur.settles && !(s.settleTokens o).isEmpty) fun x s =>
      let ctx := s.kctx
      let ks := s.settleTokens o
      s.each s.compared fun s y => s.updKeep y (fun p => ks.foldl (fun p k =>
        let l := ctx.listing k
        let p := l.foldl (fun p a => ctx.send p 7 k a (o.number % 65536)) p
        { p with bt := { p.bt with settles := ⟨o.number % 65536, x.role.code, k, l, ctx.count⟩ :: p.bt.settles.filter (fun e => e.token != k) } }) p)

/-- T_CONF of a pending SETTLE: the longest of the listing modules'. -/
def State.settleLimit (s : State) (k : Nat) : Nat :=
  s.content.peers.foldl (fun m p => if p.tokens.contains k then max m p.tConf else m) 0

/-- SETTLE_TIMEOUT (R167): a SETTLE that not every listing module has answered within T_CONF ends with result 3. -/
def execSettleTimeout (s : State) : Host.Outcome State Fault Refusal :=
  act s fun s =>
    let late := s.theKeep.bt.settles.filter (fun e => Nat.ble (e.start + s.settleLimit e.token) s.time.count)
    let s := s.each s.compared fun s x => s.updKeep x (fun p => late.foldl (fun p e => p.dropSettle e.token) p)
    s.each late fun s e => s.authResult e.number 3 e.token e.role false

/-- R169: AUTH_REQ of the element stands by the long-partition timeout against that peer, and the peer has been unreachable for
T_LONG. -/
def State.fenceOk (s : State) (o : SettleOp) (k : Nat) : Bool :=
  let long := s.theKeep.bt.authReq.contains (k, o.peer)
  let d := s.content.peers.find? (fun p => p.addr == o.peer && p.tokens.contains k)
  match d, s.peers.find? (fun p => p.addr == o.peer) with
  | some d, some p => long && !p.reachable && Nat.ble (p.lostNs + d.tLong * 1000000000) s.time.clockNs
  | _, _ => false

/-- FENCE as confirmed (R169): the element is settled here, and the boundary to the peer fenced against its last EPOCH. -/
def State.fence (s : State) (o : SettleOp) (k : Nat) : State :=
  let ctx := s.kctx
  let epoch := ((s.peers.find? (fun p => p.addr == o.peer)).map PeerSt.seenEpoch).getD 0
  let s := s.intakeEvent k 9 (fun p => ctx.freeHere p k)
  let s := s.each s.compared fun s x => s.updKeep x (fun p => { p with bt := { p.bt with
    fences := (o.peer, epoch) :: p.bt.fences.filter (fun (f : Nat × Nat) => f.1 != o.peer) } })
  (s.record .btFence srcKeep (s.elementOf k) (o.peer * 65536 + epoch)).authResult o.number 1 k (Role.maintainer.code * 16 + Role.auditor.code) true

/-- FENCE (R169): a maintainer gives it, an auditor repeats it within 60 s. A use that R169 refuses ends with result 5. -/
def execFence (c : Svc) (o : SettleOp) (s : State) : Host.Outcome State Fault Refusal :=
  act s fun s =>
    match o.element.bind s.kctx.tokenOf with
    | none => s.service c fun x s => s.refuse x (svcCode cmdFence)
    | some k =>
      let ok := s.fenceOk o k
      let s := if ok || (s.svcFind c).isNone then s else s.authResult o.number 5 k Role.maintainer.code true
      s.confirmed c cmdFence [o.element.getD 0, o.peer, o.number] [.maintainer] .auditor
        (fun s => s.mode.cur.settles && s.fenceOk o k) fun _ s => s.fence o k

/-! ### Admission (R172) -/

/-- R172: the admission of a boundary peer lapses; the record's parameter holds the cause: 1 the system master no longer reports
it admitted, 2 no sound quote within 600 s, 3 a quote that names another image or mode, 4 to 255 others that the
surroundings give (DESIGN CHOICE, log entry 115: the spec numbers no causes). -/
def State.lapsePeer (s : State) (peer cause : Nat) : State :=
  if s.peers.any (fun p => p.addr == peer && p.admitted) then
    let s := { s with peers := s.peers.map (fun (p : PeerSt) => if p.addr == peer then { p with admitted := false } else p) }
    (s.event .btAdmitLost srcKeep peer cause).raise 125 false 0 peer
  else s

/-- R171: a boundary peer is admitted while the system master reports it admitted and a quote of the last 600 s meets the
conditions. -/
def State.admitPeer (s : State) (peer : Nat) : State :=
  let may (p : PeerSt) : Bool := p.addr == peer && p.ringAdmitted
    && (match p.quoteNs with | some t => Nat.ble s.time.clockNs (t + 600000000000) | none => false)
  if s.peers.any (fun p => may p && !p.admitted) then
    let s := { s with peers := s.peers.map (fun (p : PeerSt) => if may p then { p with admitted := true } else p) }
    if (s.src 125).cond && s.peers.all PeerSt.admitted then s.endCond 125 else s
  else s

/-- ADMISSION_LAPSE (R171, R172): a condition of admission no longer holds. -/
def execAdmissionLapse (peer cause : Nat) (s : State) : Host.Outcome State Fault Refusal := act s fun s => s.lapsePeer peer cause

/-- The effect of a value written to BT_CTRL. -/
def State.btCtrl (s : State) (a : Nat) : State :=
  if bitOf a 0 then
    s.each s.compared fun s x =>
      ((((s.wr R.BT_RXCNT 0 x).wr R.BT_TXCNT 0 x).wr R.BT_REJ 0 x).wr R.BT_REJ2 0 x).wr R.BT_TOCNT 0 x
  else s

/-- BT_CTRL_CLR_CNT (R175). -/
def execBtCtrlClrCnt (c : Svc) (v : SpireVals) (s : State) : Host.Outcome State Fault Refusal :=
  act s fun s => s.svcWriteSpires c (R.BT_CTRL.key 0 0) v fun a s => s.btCtrl a

end Sys2Proof.Machine
end

