-- ==== Sys2Proof/Machine/Layout.lean ====
section
/-! DEFINITION. The byte layout of a snapshot slot below its header (spec/09 R193, spec/11 Other sealed state, R238):
the bytes of a sealed state, and the sealed state that bytes spell. Bytes that are not listed are 0. The layouts inside
the session and boundary areas, which the spec names without a layout, are the model's (log entry 30). -/

namespace Sys2Proof.Machine

/-- The bytes of a slot, by offset. -/
abbrev SlotBytes := Sparse Byte

/-- A byte of a slot. -/
def SlotBytes.byte (m : SlotBytes) (o : Nat) : Byte := Sparse.get (fun _ => (0 : Byte)) m o

/-- Set bit `b` of a byte. -/
def SlotBytes.bit (m : SlotBytes) (o b : Nat) : SlotBytes := Sparse.upd (fun _ => (0 : Byte)) m o (fun v => v ||| BitVec.ofNat 8 (2 ^ b))

/-- Write bytes from an offset on. -/
def SlotBytes.put (m : SlotBytes) (o : Nat) (l : List Byte) : SlotBytes :=
  l.zipIdx.foldl (fun m e => Sparse.set (fun _ => (0 : Byte)) m (o + e.2) e.1) m

/-- Read `n` bytes. -/
def SlotBytes.take (m : SlotBytes) (o n : Nat) : List Byte := (List.range n).map (fun i => m.byte (o + i))

/-- Read a big-endian number of `n` bytes. -/
def SlotBytes.num (m : SlotBytes) (o n : Nat) : Nat := beNat (m.take o n)

/-! ### Offsets -/

def offTokens : Nat := 0x01400000
def offTrans : Nat := 0x01500000
def offTimers : Nat := 0x01600000
def offG : Nat := 0x01680000
def offH : Nat := 0x016A0000
def offQ : Nat := 0x016E0000
def offTxSeq : Nat := 0x016E8000
def offSess : Nat := 0x016F8000
def offBt : Nat := 0x01708000
def offReserved : Nat := 0x01710000
/-- The slot header (R193). -/
def offHeader : Nat := 0x01FFF000

/-! ### Memories -/

/-- R183, R193: where F bit `k` (by instance and number) stands. -/
def fPlace (k : Nat) : Nat × Nat := (k / 4096 * 2560 + k / 512 % 8 * 320 + k % 512 / 8, k % 8)

/-- Where V word `k` stands. -/
def vPlace (k : Nat) : Nat := k / 512 * 2560 + k / 64 % 8 * 320 + 64 + 4 * (k % 64)

/-- Bits of a bit space at an offset: bit b of byte b div 8. -/
def SlotBytes.bits (m : SlotBytes) (o : Nat) (l : Sparse Bool) : SlotBytes :=
  l.foldl (fun m (e : Nat × Bool) => if e.2 then m.bit (o + e.1 / 8) (e.1 % 8) else m) m

/-- Words of a word space at an offset. -/
def SlotBytes.words (m : SlotBytes) (o : Nat) (l : Sparse Word) : SlotBytes :=
  l.foldl (fun m (e : Nat × Word) => m.put (o + 4 * e.1) (beBytes 4 e.2.toNat)) m

/-- The bytes of the memories. -/
def SMem.slot (p : SMem) : SlotBytes :=
  let m : SlotBytes := p.f.foldl (fun m (e : Nat × Bool) => if e.2 then SlotBytes.bit m (fPlace e.1).1 (fPlace e.1).2 else m) []
  let m := p.v.foldl (fun (m : SlotBytes) (e : Nat × Word) => m.put (vPlace e.1) (beBytes 4 e.2.toNat)) m
  (((m.words offTimers p.t).bits offG p.g).words offH p.h).bits offQ p.q

/-- The bits set in a byte, as keys from `k` up. -/
def bitKeys (k : Nat) (v : Byte) : List (Nat × Bool) := (List.range 8).filterMap (fun b => if v.getLsbD b then some (k + b, true) else none)

/-- A bit space read back from [o, o + n). -/
def SlotBytes.toBits (m : SlotBytes) (o n : Nat) : Sparse Bool :=
  m.flatMap (fun (e : Nat × Byte) => if o ≤ e.1 ∧ e.1 < o + n then bitKeys ((e.1 - o) * 8) e.2 else [])

/-- A word space read back: the words of which some byte in [o, o + n) is listed. -/
def SlotBytes.toWords (m : SlotBytes) (o n : Nat) : Sparse Word :=
  sparseOf (fun _ => (0 : Word)) (m.filterMap (fun (e : Nat × Byte) =>
    if o ≤ e.1 ∧ e.1 < o + n then some ((e.1 - o) / 4, BitVec.ofNat 32 (m.num (e.1 - (e.1 - o) % 4) 4)) else none))

/-- The F bits of the frame parts. -/
def SlotBytes.toF (m : SlotBytes) : Sparse Bool :=
  m.flatMap (fun (e : Nat × Byte) =>
    let r := e.1 % 2560
    if e.1 < offTokens ∧ r % 320 < 64 then bitKeys ((e.1 / 2560 * 8 + r / 320) * 512 + r % 320 * 8) e.2 else [])

/-- The V words of the frame parts. -/
def SlotBytes.toV (m : SlotBytes) : Sparse Word :=
  sparseOf (fun _ => (0 : Word)) (m.filterMap (fun (e : Nat × Byte) =>
    let r := e.1 % 2560
    let q := r % 320
    if e.1 < offTokens ∧ 64 ≤ q then some ((e.1 / 2560 * 8 + r / 320) * 64 + (q - 64) / 4, BitVec.ofNat 32 (m.num (e.1 - q % 4) 4)) else none))

/-- The memories that bytes spell. -/
def SlotBytes.toMem (m : SlotBytes) : SMem where
  f := m.toF
  v := m.toV
  g := m.toBits offG 0x20000
  h := m.toWords offH 0x40000
  q := m.toBits offQ 0x8000
  t := m.toWords offTimers 0x80000

/-! ### Tokens and transactions -/

/-- The token that 16 bytes spell (spec/06 R126). -/
def tokenOf (l : List Byte) : Token :=
  let q (i : Nat) : Nat := beNat ((l.drop (4 * i)).take 4)
  let fl := q 1 % 65536
  { holder := q 0 / 65536, shareCnt := q 0 / 256 % 256, st := q 0 / 16 % 16, cls := q 0 % 16
    gen := q 1 / 65536, boundary := bitOf fl 0, resident := bitOf fl 1, recon := bitOf fl 2
    shareSet := fl / 256, rsvd := fl % 256 / 8 * 8, home := q 2 / 65536, peer := q 2 % 65536
    tseq := q 3 / 65536, crc := q 3 % 65536 }

/-- The transaction slot that 256 bytes spell (spec/06); a closed one is all 0, so bytes with TSTATE 0 that are not are none. -/
def tslotOf (l : List Byte) : TSlot :=
  let n (o k : Nat) : Nat := beNat ((l.drop o).take k)
  if l.all (fun b => b == 0) then TSlot.closed
  else
    { tstate := n 0 1, route := n 2 2, nEntries := n 4 1, nLive := n 5 1, domain := n 6 2, openAt := n 8 8, inst := n 16 2
      hchk := n 60 4
      entries := (List.range (if n 0 1 = 0 then 64 else min (n 4 1) 64)).map (fun i =>
        let w := n (64 + 3 * i) 3
        ⟨w / 256, w / 16 % 16, bitOf w 3, bitOf w 2⟩) }

/-! ### Boundary state (log entry 30): counted lists of fixed entries -/

/-- The code of a boundary timer's kind. -/
def BtTimerKind.code : BtTimerKind → Nat
  | .offer => 0 | .confirm => 1 | .completion => 2 | .retry => 3 | .long => 4

/-- The kind of a code. -/
def btTimerKind (n : Nat) : BtTimerKind :=
  match n with | 0 => .offer | 1 => .confirm | 2 => .completion | 3 => .retry | _ => .long

/-- A counted list at an offset. -/
def SlotBytes.putList (m : SlotBytes) (o w : Nat) (l : List (List Byte)) : SlotBytes :=
  l.zipIdx.foldl (fun m e => m.put (o + 2 + w * e.2) e.1) (m.put o (beBytes 2 l.length))

/-- A counted list read back: its entries' bytes. -/
def SlotBytes.getList (m : SlotBytes) (o w cap : Nat) : List (List Byte) :=
  (List.range (min (m.num o 2) cap)).map (fun i => m.take (o + 2 + w * i) w)

/-- The bytes of the boundary area: EPOCH, RSEQ per peer, fence marks, stored offers, transfer entries. -/
def SlotBytes.putBt (m : SlotBytes) (b : BtSt) : SlotBytes :=
  let m := m.put offBt (beBytes 2 b.epoch)
  let m := m.putList (offBt + 0x0010) 6 (b.rseqTx.map (fun (e : Nat × Nat) => beBytes 2 e.1 ++ beBytes 4 e.2))
  let m := m.putList (offBt + 0x0100) 6 (b.rseqRx.map (fun (e : Nat × Nat) => beBytes 2 e.1 ++ beBytes 4 e.2))
  let m := m.putList (offBt + 0x0200) 4 (b.fences.map (fun e => beBytes 2 e.1 ++ beBytes 2 e.2))
  let m := m.putList (offBt + 0x0300) 6 (b.offers.map (fun e => beBytes 2 e.src ++ beBytes 2 e.token ++ beBytes 2 e.tseq))
  let m := m.putList (offBt + 0x2000) 12 (b.timers.map (fun e => beBytes 1 e.kind.code ++ beBytes 2 e.token
    ++ beBytes 1 (if e.start.isSome then 1 else 0) ++ beBytes 8 (e.start.getD 0)))
  let m := m.putList (offBt + 0x5000) 4 (b.authReq.map (fun e => beBytes 2 e.1 ++ beBytes 2 e.2))
  m.putList (offBt + 0x6000) 4 (b.noOwner.map (fun e => beBytes 2 e.1 ++ beBytes 2 e.2))

/-- The boundary state that the area spells, over what is not sealed in `b`. -/
def SlotBytes.getBt (m : SlotBytes) (b : BtSt) : BtSt :=
  let n (l : List Byte) (o k : Nat) : Nat := beNat ((l.drop o).take k)
  { b with
    epoch := m.num offBt 2
    rseqTx := (m.getList (offBt + 0x0010) 6 39).map (fun l => (n l 0 2, n l 2 4))
    rseqRx := (m.getList (offBt + 0x0100) 6 42).map (fun l => (n l 0 2, n l 2 4))
    fences := (m.getList (offBt + 0x0200) 4 63).map (fun l => (n l 0 2, n l 2 2))
    offers := (m.getList (offBt + 0x0300) 6 1200).map (fun l => ⟨n l 0 2, n l 2 2, n l 4 2⟩)
    timers := (m.getList (offBt + 0x2000) 12 1023).map (fun l => ⟨btTimerKind (n l 0 1), n l 1 2, if n l 3 1 = 1 then some (n l 4 8) else none⟩)
    authReq := (m.getList (offBt + 0x5000) 4 1023).map (fun l => (n l 0 2, n l 2 2))
    noOwner := (m.getList (offBt + 0x6000) 4 2047).map (fun l => (n l 0 2, n l 2 2)) }

/-! ### Sessions (log entry 30) -/

/-- The code of a session state (spec/15 R338). -/
def SessState.code : SessState → Nat
  | .disabled => 0 | .idle => 1 | .connecting => 2 | .opened => 3 | .holdoff => 4

/-- The state of a code. -/
def sessState (n : Nat) : SessState :=
  match n with | 0 => .disabled | 1 => .idle | 2 => .connecting | 3 => .opened | _ => .holdoff

/-- The sealed session state of R339: state, N_I, N_R, SEQ sent, last accepted SEQ, TS and TS_ECHO; and when it opened. -/
def SessSt.bytes (x : SessSt) : List Byte :=
  beBytes 1 x.st.code ++ beBytes 1 x.cause ++ beBytes 1 (if x.dataSeen then 1 else 0) ++ beBytes 1 0 ++ beBytes 8 x.nI ++ beBytes 8 x.nR
    ++ beBytes 4 x.txSeq ++ beBytes 4 x.rxSeq ++ beBytes 8 x.lastTs ++ beBytes 8 x.lastTsEcho ++ beBytes 8 x.openAt

/-- The session that bytes spell; held frames and payloads are not sealed. -/
def sessOf (l : List Byte) : SessSt :=
  let n (o k : Nat) : Nat := beNat ((l.drop o).take k)
  { SessSt.none' with
    st := sessState (n 0 1), cause := n 1 1, dataSeen := n 2 1 == 1, nI := n 4 8, nR := n 12 8
    txSeq := n 20 4, rxSeq := n 24 4, lastTs := n 28 8, lastTsEcho := n 36 8, openAt := n 44 8 }

/-! ### The slot -/

/-- The bytes of a sealed state below the header. -/
def Snapshot.slot (x : Snapshot) : SlotBytes :=
  let m := x.mem.slot
  let m := x.keep.tokens.zipIdx.foldl (fun m e => m.put (offTokens + 16 * e.2) e.1.bytes) m
  let m := x.keep.slots.foldl (fun m (e : Nat × TSlot) => if e.2.tstate = 0 then m else m.put (offTrans + 256 * e.1) e.2.bytes) m
  let m := x.txSeq.foldl (fun m (e : Nat × Nat) => m.put (offTxSeq + 4 * e.1) (beBytes 4 e.2)) m
  let m := x.sess.foldl (fun m (e : Nat × SessSt) => m.put (offSess + 1024 * e.1) e.2.bytes) m
  m.putBt x.keep.bt

/-- R193: the slot with its header, as the DRAM holds it: SNAP_SEQ, COUNT, the image identity and the CRC-32C of the slot below
the header and of those fields (their places and the CRC's range: DESIGN CHOICE, log entry 120). -/
def Snapshot.wholeSlot (x : Snapshot) : SlotBytes :=
  let h := beBytes 4 x.seq ++ beBytes 6 x.count ++ beBytes 8 x.img.hash ++ beBytes 4 x.img.version
  let m := x.slot
  m.put offHeader (h ++ beBytes 4 (crc32c.value (m.take 0 offHeader ++ h)))

/-- The 64-byte lines of which a byte is listed, rising. -/
def SlotBytes.lines (m : SlotBytes) : List Nat := (sparseOf (fun _ => false) (m.map (fun (e : Nat × Byte) => (e.1 / 64, true)))).map (fun e => e.1)

/-- The lines that differ between two slots (R238), rising. -/
def changedLines (a b : SlotBytes) : List Nat :=
  let l := (sparseOf (fun _ => false) ((a ++ b).map (fun (e : Nat × Byte) => (e.1 / 64, true)))).map (fun e => e.1)
  l.filter (fun n => decide (a.take (64 * n) 64 ≠ b.take (64 * n) 64))

/-- R239: lines as entries: adjoining ones join, up to 4,032 bytes. -/
def entriesOf (m : SlotBytes) (l : List Nat) : List (Nat × List Byte) :=
  let r := l.foldl (fun (acc : List (Nat × Nat)) n =>
    match acc with
    | (o, k) :: t => if n = o + k ∧ k < 63 then (o, k + 1) :: t else (n, 1) :: (o, k) :: t
    | [] => [(n, 1)]) []
  r.reverse.map (fun e => (64 * e.1, m.take (64 * e.1) (64 * e.2)))

/-- An entry's bytes. -/
def entryBytes (e : Nat × List Byte) : List Byte := beBytes 4 e.1 ++ beBytes 2 e.2.length ++ beBytes 2 0 ++ e.2

/-- R239: entries packed into chunk bodies of at most 4,096 bytes; an entry never spans two. -/
def bodiesOf (l : List (Nat × List Byte)) : List (List Byte) :=
  let r := l.foldl (fun (acc : List (List Byte)) e =>
    let b := entryBytes e
    match acc with
    | c :: t => if c.length + b.length ≤ 4096 then (c ++ b) :: t else b :: c :: t
    | [] => [b]) []
  r.reverse

/-- R239, R242 check 4: the entries that a body spells; none when one of them does not fit the slot layout. -/
def parseEntries (fuel : Nat) (l : List Byte) : Option (List (Nat × List Byte)) :=
  match fuel, l with
  | _, [] => some []
  | 0, _ => none
  | n + 1, l =>
    let o := beNat (l.take 4)
    let k := beNat ((l.drop 4).take 2)
    let d := (l.drop 8).take k
    if o % 64 = 0 ∧ k % 64 = 0 ∧ 64 ≤ k ∧ k ≤ 4032 ∧ d.length = k ∧ o + k ≤ offHeader then
      (parseEntries n (l.drop (8 + k))).map (fun t => (o, d) :: t)
    else none

/-- Apply entries. -/
def SlotBytes.applyAll (m : SlotBytes) (l : List (Nat × List Byte)) : SlotBytes := l.foldl (fun m e => m.put e.1 e.2) m

/-- The sealed state that a slot's bytes spell, for an image with so many tokens and transaction slots; what is not
sealed stays as in `old`. -/
def SlotBytes.toSnapshot (m : SlotBytes) (old : Snapshot) (tokens trans : Nat) : Snapshot :=
  { old with
    mem := m.toMem
    keep := {
      tokens := (List.range tokens).map (fun k => tokenOf (m.take (offTokens + 16 * k) 16))
      slots := sparseOf (fun _ => TSlot.closed) ((List.range trans).map (fun n => (n, tslotOf (m.take (offTrans + 256 * n) 256))))
      bt := m.getBt old.keep.bt }
    sess := sparseOf (fun _ => SessSt.none') ((List.range 64).map (fun n => (n, sessOf (m.take (offSess + 1024 * n) 64))))
    txSeq := sparseOf (fun _ => 0) (m.filterMap (fun (e : Nat × Byte) =>
      if offTxSeq ≤ e.1 ∧ e.1 < offSess then some ((e.1 - offTxSeq) / 4, m.num (e.1 - (e.1 - offTxSeq) % 4) 4) else none)) }

end Sys2Proof.Machine
end

