-- ==== Sys2Proof/Machine/PairOps.lean ====
section
/-! DEFINITION. What the active member of a pair sends (spec/11 R238 to R247): the chunks of deltas and of the initial
copy, retransmissions; and the checks of chunks that the partner makes. -/

namespace Sys2Proof.Machine

/-- The compared spires as 3 bits. -/
def State.comparedBits (s : State) : Nat := s.compared.foldl (fun n x => n + 2 ^ x) 0

/-- R237: the pair status of a member as it stands; in SAFE-HALT and ISOLATED HANDOVER is set (spec/19 R404). -/
def State.pairStatusNow (s : State) : PairStatus :=
  ⟨s.mode.cur.code, s.pair.handover || s.mode.cur == .safeHalt || s.mode.cur == .isolated, s.pair.takeover, s.pair.copyReq, s.comparedBits, s.fld F.PAIR_STATUS_NAK,
    if s.mode.cur = .shadow then 0 else s.pair.snapSeq⟩

/-- Bytes 0 to 15 + BODY_LEN of a chunk (R239). -/
def Chunk.bytes (k : Chunk) : List Byte :=
  beBytes 1 k.kind ++ beBytes 1 (k.rsvd / 65536) ++ beBytes 2 k.src ++ beBytes 4 k.snapSeq ++ beBytes 2 k.chunk ++ beBytes 2 k.chunks
    ++ beBytes 2 k.body.length ++ beBytes 2 k.rsvd ++ k.body

/-- The size of a chunk, header and check values included. -/
def Chunk.size (k : Chunk) : Nat := 28 + k.body.length

/-- R240: its check values, for the receiver's system address. -/
def Chunk.cvOf (k : Chunk) (poly : Three Nat) (dst : Nat) : Three Nat :=
  triSig poly dst (k.snapSeq % 65536 * 65536 + k.chunk) k.bytes

/-- R239: the trailer body. -/
def trailerBody (id : ImageId) (base stamp digest dataBytes : Nat) : List Byte :=
  beBytes 8 id.hash ++ beBytes 4 id.version ++ beBytes 4 base ++ beBytes 8 stamp ++ beBytes 4 digest ++ beBytes 4 dataBytes

/-- The chunks of a delta (kind 1) or a copy (kind 3) of snapshot `n`: data bodies in order, then the trailer. -/
def State.chunksOf (s : State) (kind base : Nat) (n : Snapshot) (bodies : List (List Byte)) : List Chunk :=
  let own := s.content.ring.addrA
  let partner := s.fld F.PAIR_CONF_PARTNER
  let size := bodies.foldl (fun m b => m + b.length) 0
  let mk (kd i : Nat) (b : List Byte) : Chunk :=
    let k : Chunk := ⟨kd, own, n.seq, i, bodies.length, 0, b, Three.all 0⟩
    { k with cv := s.maskCv (k.cvOf s.content.ring.poly partner) }
  (bodies.zipIdx.map (fun e => mk kind e.2 e.1))
    ++ [mk (kind + 1) bodies.length (trailerBody n.img base n.stamp (s.kctx.digest n.keep) size)]

/-- The partner's frames have come within the last 2 rounds. -/
def State.partnerSeen (s : State) : Bool := s.content.pair.isSome && Nat.blt s.pair.missRounds 2

/-- Total size of chunks (R239). -/
def chunksSize (l : List Chunk) : Nat := l.foldl (fun m k => m + k.size) 0

/-- PAIR_DELTA and PAIR_DMAX after a delta. -/
def State.showDelta (s : State) (l : List Chunk) : State :=
  let z := chunksSize l
  let n := l.length - 1
  let s := (s.setFld F.PAIR_DELTA_BYTES (min z F.PAIR_DELTA_BYTES.max)).setFld F.PAIR_DELTA_CHUNKS (min n F.PAIR_DELTA_CHUNKS.max)
  if s.fld F.PAIR_DMAX_BYTES < z then
    (s.setFld F.PAIR_DMAX_BYTES (min z F.PAIR_DMAX_BYTES.max)).setFld F.PAIR_DMAX_CHUNKS (min n F.PAIR_DMAX_CHUNKS.max)
  else s

/-- R245: the copy of the latest seal begins, or begins again: the used lines of its slot, in ascending offset. -/
def State.startCopy (s : State) : State :=
  match (s.spire s.bodySpire).pg.snaps with
  | n :: _ =>
    let m := n.slot
    let l := s.chunksOf 3 0 n (bodiesOf (entriesOf m m.lines))
    { s with pair := { s.pair with copyq := l, copySeq := some n.seq, copyEnd := none, sent := s.pair.sent.filter (fun k => Nat.ble k.kind 2) } }
  | [] => s

/-- R246: the copy begins again. -/
def State.restartCopy (s : State) : State :=
  (s.startCopy.bump F.PAIR_COPY_RESTARTS).record .shadowRestart srcModule (s.pair.copySeq.getD 0) s.pair.snapSeq

/-- R241: the delta of the latest seal is sent once its copy has ended: to a partner in STANDBY, or in SHADOW while a
copy to it runs. One that exceeds DELTA_MAX is not sent. -/
def State.startDelta (s : State) : State :=
  let due := s.pair.partner.mode == 6 || (s.pair.partner.mode == 5 && s.pair.copySeq.isSome)
  if s.mode.cur.track && s.partnerSeen && due then
    match (s.spire s.bodySpire).pg.snaps with
    | n :: rest =>
      let base : SlotBytes := match rest.find? (fun o => o.seq + 1 == n.seq) with | some o => o.slot | none => []
      let m := n.slot
      let l := s.chunksOf 1 (n.seq - 1) n (bodiesOf (entriesOf m (changedLines base m)))
      let s := s.showDelta l
      if s.fld F.PAIR_LIMITS_DELTA_MAX * 1024 < chunksSize l then
        let s := s.record .deltaOversize srcModule (chunksSize l) n.seq
        { s with pair := { s.pair with outq := [], copySeq := none, copyq := [] } }
      else { s with pair := { s.pair with outq := s.pair.outq ++ l, sent := l ++ s.pair.sent.filter (fun k => Nat.ble 3 k.kind) } }
    | [] => s
  else s

/-- R241, R245: what the partner's status asks of an active member: a chunk named in NAK goes again, ahead of new ones;
a copy is begun for a SHADOW member that requests one, and begun again when every chunk of it left 2 rounds ago and the
request still stands; a partner in STANDBY has taken its copy. -/
def State.servePartner (s : State) (p : PairStatus) : State :=
  if !s.mode.cur.track then s
  else
    let s := match s.pair.sent.find? (fun k => k.chunk == p.nak) with
      | some k =>
        if p.nak = 0xFFFF then s
        else if Nat.ble k.kind 2 then (if s.pair.outq.contains k then s else { s with pair := { s.pair with outq := k :: s.pair.outq } })
        else (if s.pair.copyq.contains k then s else { s with pair := { s.pair with copyq := k :: s.pair.copyq } })
      | none => s
    if p.mode = 5 && p.copyReq then
      match s.pair.copySeq, s.pair.copyEnd with
      | none, _ => s.startCopy
      | some _, some e =>
        if p.nak = 0xFFFF && s.pair.copyq.isEmpty && decide (e + 2 * s.trMs * 1000000 < s.time.clockNs) then s.restartCopy else s
      | some _, none => s
    else if p.mode = 6 then { s with pair := { s.pair with copySeq := none, copyq := [], copyEnd := none } }
    else s

/-- R245: the next chunk to leave that fits `room` bytes: deltas first, then the copy in what they leave. -/
def State.nextChunk (s : State) (room : Nat) : Option Chunk :=
  match s.pair.outq, s.pair.copyq with
  | k :: _, _ => if k.size ≤ room then some k else none
  | [], k :: _ => if k.size ≤ room then some k else none
  | [], [] => none

/-- A chunk leaves. -/
def State.sendChunk (s : State) (k : Chunk) : State :=
  let s := (s.emit (.chunk k)).triSent
  if s.pair.outq.head? = some k then { s with pair := { s.pair with outq := s.pair.outq.drop 1 } }
  else
    let s := if k.kind = 3 then s.bump F.PAIR_COPY_DONE else s
    let q := s.pair.copyq.drop 1
    { s with pair := { s.pair with
      copyq := q, sent := if s.pair.sent.contains k then s.pair.sent else s.pair.sent ++ [k]
      copyEnd := if q.isEmpty then some s.time.clockNs else none } }

/-! ### Chunks at the receiver (R242) -/

/-- The data chunks of a set, by number; none while one is missing or the trailer is. -/
def wholeOf (l : List Chunk) : Option (List Chunk × Chunk) :=
  match l.find? (fun k => k.kind == 2 || k.kind == 4) with
  | none => none
  | some t =>
    let d := (List.range t.chunks).map (fun i => l.find? (fun k => k.chunk == i && (k.kind == 1 || k.kind == 3)))
    if d.all Option.isSome then some (d.filterMap id, t) else none

/-- The lowest chunk missing below the highest taken. -/
def firstGap (l : List Chunk) : Option Nat :=
  let top := l.foldl (fun m k => max m k.chunk) 0
  (List.range top).find? (fun i => l.all (fun k => k.chunk != i))

/-- The trailer's fields: identity, BASE_SEQ, AT, DIGEST, DATA_BYTES. -/
structure Trailer where
  id : ImageId
  base : Nat
  stamp : Nat
  digest : Nat
  dataBytes : Nat
deriving DecidableEq, Repr

/-- The trailer that a trailer chunk carries. -/
def Chunk.trailer (k : Chunk) : Trailer :=
  let n (o w : Nat) : Nat := beNat ((k.body.drop o).take w)
  ⟨⟨n 0 8, n 8 4⟩, n 12 4, n 16 8, n 24 4, n 28 4⟩

/-- R242 check 4: the entries of all data chunks, when DATA_BYTES and every entry fit. -/
def allEntries (d : List Chunk) (t : Trailer) : Option (List (Nat × List Byte)) :=
  if d.foldl (fun m k => m + k.body.length) 0 = t.dataBytes then
    d.foldl (fun (a : Option (List (Nat × List Byte))) k =>
      match a, parseEntries 4096 k.body with
      | some x, some y => some (x ++ y)
      | _, _ => none) (some [])
  else none

end Sys2Proof.Machine
end

