-- ==== Sys2Proof/Machine/BfOps.lean ====
section
/-! DEFINITION. The belfry's operations (spec/10): the verdict of a slice, the vote over slices, what the voted verdicts of
one slice clock do, MISR signatures, the voted output word, reintegration. -/

namespace Sys2Proof.Machine

/-! ### Verdicts (R217, R218); codes as in the table Verdict codes -/

/-- Streams i and j delivered equal values. -/
def agree (val : Nat → Option Nat) (i j : Nat) : Bool := (val i).isSome && val i == val j

/-- R217: the verdict of a slice over the compared spires `xs`; `val` is what each delivered, none when missing. -/
def sliceVerdict (xs : List Nat) (val : Nat → Option Nat) : Nat :=
  match xs with
  | [a, b, c] =>
    if agree val a b && agree val b c then 0
    else if agree val b c then 1 + a
    else if agree val a c then 1 + b
    else if agree val a b then 1 + c
    else 4
  | [a, b] => if agree val a b then 0 else 4
  | _ => 4

/-- Two slices deliver one same verdict; a slice that delivers a reserved code (5 to 7) differs from every other. -/
def sameVerdict (a b : Nat) : Bool := a == b && Nat.ble a 4

/-- R218: the vote over the verdicts of the non-isolated slices: the outcome, and the slice that was outvoted. -/
def voteSlices (l : List (Nat × Nat)) : Nat × Option Nat :=
  match l with
  | [(i, a), (j, b), (k, c)] =>
    if sameVerdict a b && sameVerdict b c then (a, none) else if sameVerdict a b then (a, some k)
    else if sameVerdict a c then (a, some j) else if sameVerdict b c then (b, some i) else (4, none)
  | [(_, a), (_, b)] => if sameVerdict a b then (a, none) else (4, none)
  | _ => (4, none)

/-- The verdicts that the live slices deliver: `v`, or the wrong code of a faulty slice. -/
def State.sliceVerdicts (s : State) (v : Nat) (faulty : List (Nat × Nat)) : List (Nat × Nat) :=
  s.liveSlices.map (fun i => (i, match faulty.find? (fun e => e.1 == i) with | some e => e.2 % 8 | none => v))

/-- R218, R221: a slice is outvoted and isolated. -/
def State.isolateSlice (s : State) (i v : Nat) : State :=
  let s := { s with bf := { s.bf with sliceIso := s.bf.sliceIso.set i true } }
  (s.record .bfSliceIsolated srcBelfry i v).raise (72 + i)

/-- What the slices judge in one comparison: class, group and position as BF_MM shows them, what each spire delivered (none
when missing), what BF_MMk shows of it, and the faulty slices. -/
structure Triple where
  cls : Nat
  group : Nat
  pos : Nat
  val : Three (Option Nat)
  shown : Three Nat
  faulty : List (Nat × Nat)
deriving DecidableEq, Repr

/-- A triple whose delivered values are shown as they are, 0 when missing or not compared. -/
def State.plainTriple (s : State) (cls group pos : Nat) (val : Three (Option Nat)) (faulty : List (Nat × Nat)) : Triple :=
  ⟨cls, group, pos, val, val.mapI (fun x v => if s.isCompared x then v.getD 0 else 0), faulty⟩

/-- The last non-PASS verdict in the slices' registers (R234). -/
def State.showVerdict (s : State) (t : Triple) (v : Nat) (diff : Bool) : State :=
  let s := s.bfWr R.BF_MM (v + t.cls * 8 + (if diff then 64 else 0) + t.group % 8192 * 65536)
  let s := s.bfWr R.BF_MM_POS t.pos
  let s := s.each [0, 1, 2] fun s k => (s.wr3k R.BF_MM_HI k (t.shown.get k / 2 ^ 32)).wr3k R.BF_MM_LO k (t.shown.get k)
  (s.bfWr R.BF_MM_AT_LO s.atNow).bfWr R.BF_MM_AT_HI (s.atNow / 2 ^ 32)

/-- R220: NO_MAJORITY on a triple: the vote is zero, comparison stops, the barrier is withheld, SAFE-HALT. The record is
followed by one for each spire with what it delivered, high word and low word (log entry 101). -/
def State.noMajority (s : State) (t : Triple) : State :=
  let s := { s with
    bf := { s.bf with stopped := true, vote := 0, barrierReady := false }
    sched := { s.sched with noDelta := true } }
  let s := s.record .bfNoMajority srcBelfry (t.group % 65536 * 65536 + t.cls) t.pos
  let s := s.each [0, 1, 2] fun s x => s.record .bfNoMajority (srcSpire x) (t.shown.get x / 2 ^ 32) (t.shown.get x)
  s.raise 75

/-- The voted outcome of a triple, and the slice outvoted on it (R217, R218). -/
def State.outcome (s : State) (t : Triple) : Nat × Option Nat :=
  voteSlices (s.sliceVerdicts (sliceVerdict s.compared t.val.get) t.faulty)

/-- What the outcome of one triple does (R219 to R222); a verdict that names a spire already isolated changes nothing. -/
def State.takeOutcome (s : State) (t : Triple) (r : Nat × Option Nat) : State :=
  let s := match r.2 with | some i => s.isolateSlice i r.1 | none => s
  if r.1 = 0 || (Nat.blt r.1 4 && !s.isCompared (r.1 - 1)) then s
  else
    let s := s.showVerdict t r.1 r.2.isSome
    if r.1 = 4 then s.noMajority t else s.isolateSpire (r.1 - 1) t.cls false (some (t.group, t.pos))

/-- R219: the outcomes of one slice clock name two different spires. -/
def outcomesClash (l : List Nat) : Bool :=
  let named := l.filter (fun v => v == 1 || v == 2 || v == 3)
  named.any (fun v => v != named.headD 0)

/-- The triples of one slice clock are judged (R217 to R222). Answers whether comparison goes on: no outcome was
NO_MAJORITY. -/
def State.judge (s : State) (ts : List Triple) : State × Bool :=
  let os := ts.map (fun t => (t, s.outcome t))
  if outcomesClash (os.map (fun e => e.2.1)) then
    let s := s.each os fun s e => match e.2.2 with | some i => s.isolateSlice i e.2.1 | none => s
    match ts.getLast? with
    | some t => ((s.showVerdict t 4 false).noMajority t, false)
    | none => (s, false)
  else (s.each os fun s e => s.takeOutcome e.1 e.2, os.all (fun e => e.2.1 != 4))

/-! ### Records (R207 to R212) -/

/-- Destination code of a finial record, and the index of a digest record (spec/04 R102, spec/06 R144). -/
def isBarrier (r : Nat) : Bool := r / 2 ^ 61 == 7 || (r / 2 ^ 61 == 6 && r / 2 ^ 40 % 2 ^ 21 == 0x1B0000)

/-- The group in execution, from the first compared spire. -/
def State.groupNow (s : State) : Nat := (s.eng s.bodySpire).group

/-- The n-th uncompared record of spire x. -/
def State.recAt (s : State) (n x : Nat) : Option Nat := (s.bf.streams.get x)[n]?.map (fun r => r.toNat)

/-- The first uncompared record of spire x. -/
def State.headRec (s : State) (x : Nat) : Option Nat := s.recAt 0 x

/-- R207: an ECC event in the delay register of spire x: counted, its source raised. -/
def State.fifoEcc (s : State) (double : Bool) : State :=
  if double then (s.each s.liveSlices fun s c => s.bump F.BF_ECC_UNCORR c).raise 79
  else (s.each s.liveSlices fun s c => s.bump F.BF_ECC_CORR c).raise 78

/-- The uncorrectable reads among the compared spires; injections of checker 4 act as real errors. -/
def State.readEcc (s : State) (ecc : List (Nat × Bool)) : State × List Nat :=
  s.compared.foldl (fun (a : State × List Nat) x =>
    let i := a.1.takeInject 4 0 x
    match i.1, ecc.find? (fun e => e.1 == x) with
    | some j, _ => (i.2.fifoEcc j.double, if j.double then a.2 ++ [x] else a.2)
    | none, some e => (i.2.fifoEcc e.2, if e.2 then a.2 ++ [x] else a.2)
    | none, none => (i.2, a.2)) (s, [])

/-- The compared triple leaves the delay registers, and the position counts on. -/
def State.popTriple (s : State) : State :=
  let s := { s with bf := { s.bf with
    streams := s.bf.streams.mapI (fun x l => if s.isCompared x then l.tail else l)
    pos := s.bf.pos + 1 } }
  s.each s.liveSlices fun s c => s.bumpReg R.BF_RECS c 0

/-- The slices read the n-th uncompared records (R207): a record that could not be corrected differs from the other two
streams, and what BF_MMk shows of it is a free value. -/
def State.readTriple (s : State) (n : Nat) (o : CompareOp) : State × Triple :=
  let e := s.readEcc o.ecc
  let bad := e.2
  let junk := e.1.draw.1 % 2 ^ 64
  let s := if bad.isEmpty then e.1 else e.1.draw.2
  let t := s.plainTriple (if bad.isEmpty then 0 else 4) s.groupNow (s.bf.pos + n) ((Three.all ()).mapI (fun x _ => s.recAt n x)) o.faulty
  (s, { t with
    val := t.val.mapI (fun x v => if bad.contains x then none else v)
    shown := t.shown.mapI (fun x v => if bad.contains x then junk else v) })

/-- Every compared stream has delivered its n-th uncompared record. -/
def State.recsDue (s : State) (n : Nat) : Bool := s.compared.all (fun x => (s.recAt n x).isSome)

/-- The record triple that is compared in the same slice clock, if it is due. -/
def State.readMate (s : State) (n : Nat) (o : Option CompareOp) : State × List Triple :=
  match o with
  | some o => if s.recsDue n && !s.compared.isEmpty then (let r := s.readTriple n o; (r.1, [r.2])) else (s, [])
  | none => (s, [])

/-- A record triple has been judged and comparison goes on: it leaves the delay registers. A finial or digest record that
passes, or whose minority has been isolated, lets its barrier complete (R212, R213). -/
def State.tripleDone (s : State) : State :=
  let fin := match s.compared with | x :: _ => (match s.headRec x with | some w => isBarrier w | none => false) | [] => false
  let s := s.popTriple
  if fin then { s with bf := { s.bf with barrierReady := true } } else s

/-- The triples of a slice clock: `recs` from the heads of the delay registers, and others. -/
def State.judgeClock (s : State) (recs others : List Triple) : State × Bool :=
  let r := s.judge (others ++ recs)
  if r.2 then (r.1.each recs fun s _ => s.tripleDone, true) else r

/-- The record triple at the heads of the delay registers, where some compared stream may be missing. -/
def State.judgeHeads (s : State) (o : CompareOp) : State := let r := s.readTriple 0 o; (r.1.judgeClock [r.2] []).1

/-! ### Signatures (R214 to R216) -/

/-- R215: one write into the MISR. -/
def misrStep (sg : Nat) (a d : Nat) : Nat :=
  let x := (sg * 2 % 2 ^ 64) ^^^ ((a * 2 ^ 32 + d) % 2 ^ 64)
  if sg / 2 ^ 63 % 2 = 1 then x ^^^ 0x1B else x

/-- R214: a write as it enters the MISR: its aligned word address, and its bytes in their lanes of the big-endian word
(spec/00 R7), the other bytes 0. -/
def CmpWrite.word (w : CmpWrite) : Nat × Nat :=
  let at' := w.addr % 4
  (w.addr - at', w.data % 2 ^ (8 * w.width) * 2 ^ (8 * (4 - at' - w.width)))

/-- R215: the signature of a window. -/
def misr (l : WinWrites) : Nat := l.foldl (fun g w => misrStep g w.word.1 w.word.2) 0

/-- R216: the signatures of a window are compared; an injection of checker 9 inverts one. -/
def State.judgeWindow (s : State) (cls group pos : Nat) (w : WindowOp) (tick : Bool) : State :=
  let inj := if tick then s.compared.foldl (fun (a : State × List (Nat × Bool)) x =>
      let i := a.1.takeInject 9 0 x
      (i.2, match i.1 with | some j => a.2 ++ [(x, j.double)] | none => a.2)) (s, []) else (s, [])
  let s := inj.1
  let val : Three (Option Nat) := w.writes.mapI (fun x l => l.map (fun l => match inj.2.find? (fun e => e.1 == x) with
      | some e => misr l ^^^ (if e.2 then 3 else 1)
      | none => misr l))
  let s := s.each s.liveSlices fun s c => s.bumpReg R.BF_SIGWIN c 0
  let m := s.readMate 0 w.mate
  (m.1.judgeClock m.2 [m.1.plainTriple cls group pos val w.faulty]).1

/-- Comparison runs: not stopped, at least one spire compared, and past SELFTEST. -/
def State.comparing (s : State) : Bool :=
  !s.bf.stopped && !s.compared.isEmpty && s.mode.cur != .boot && s.mode.cur != .selftest

/-! ### The voted output word (R211, R230) -/

/-- R230, implementation M: the bitwise majority of three words, the AND of two. -/
def voteM (xs : List Nat) (w : Nat → BitVec 16) : BitVec 16 :=
  match xs with
  | [a, b, c] => (w a &&& w b) ||| (w b &&& w c) ||| (w a &&& w c)
  | [a, b] => w a &&& w b
  | _ => 0

/-- R230, implementation D: each bit is 1 when at least two of the input bits are. -/
def voteD (xs : List Nat) (w : Nat → BitVec 16) : BitVec 16 :=
  BitVec.ofNat 16 ((List.range 16).foldl (fun m i =>
    m + if Nat.ble 2 (xs.filter (fun x => (w x).getLsbD i)).length then 2 ^ i else 0) 0)

/-- Nothing departs from the rules. -/
def VoteOp.plain : VoteOp := ⟨[], [], [], none⟩

/-- R231: the bits in which D differs from M in a slice. -/
def VoteOp.mask (v : VoteOp) (i : Nat) : BitVec 16 :=
  match v.diverge.find? (fun e => e.1 == i) with | some e => BitVec.ofNat 16 e.2 | none => 0

/-- R230: what slice i delivers to the I/O plane: M AND D. -/
def sliceWord (xs : List Nat) (w : Nat → BitVec 16) (v : VoteOp) (i : Nat) : BitVec 16 := voteM xs w &&& (voteD xs w ^^^ v.mask i)

/-- R230: the I/O plane: a bit counts when two of the non-isolated slices' words have it, or both of two. -/
def planeWord (l : List (BitVec 16)) : BitVec 16 :=
  match l with
  | [a, b, c] => (a &&& b) ||| (b &&& c) ||| (a &&& c)
  | [a, b] => a &&& b
  | _ => 0

/-- The non-isolated slices in which M and D differ. -/
def State.diverging (s : State) (v : VoteOp) : List Nat := s.liveSlices.filter (fun i => v.mask i != 0)

/-- R231: the bits concerned are recorded in BF_VOTE of each slice, and the source is raised. -/
def State.diverged (s : State) (v : VoteOp) : State :=
  match s.diverging v with
  | [] => s
  | i :: t =>
    let s := s.each (i :: t) fun s c => s.setFld F.BF_VOTE_DIVERGE (v.mask c).toNat c
    s.raise 76 false i ((v.mask i).toNat % 256)

/-- R211: the local output words are compared as one further triple; answers the state and the voted word (R230): zero where
no majority stands or M and D differ. The I/O plane raises BF_SLICE_WORDS where two slices' words differ (spec/17 R380). -/
def State.judgeOutput (s : State) (w : Three (BitVec 16)) (v : VoteOp) : State × BitVec 16 :=
  let val : Three (Option Nat) := w.mapI (fun x b => if v.missing.contains x then none else some b.toNat)
  let s := s.each s.liveSlices fun s c => s.bumpReg R.BF_RECS c 0
  let m := s.readMate 0 v.mate
  let r := m.1.judgeClock m.2 [m.1.plainTriple 1 m.1.groupNow m.1.bf.pos val v.faulty]
  if r.2 then
    let l := r.1.liveSlices.map (sliceWord r.1.compared w.get v)
    let s := r.1.diverged v
    let s := if l.all (fun x => x == l.headD 0) then s.gone 82 else s.raise 82
    (s, if s.mode.cur.track then planeWord l else 0)
  else (r.1, 0)

/-! ### Reintegration (R226, R227, R12) -/

/-- R12, R226: the two donors' copies of the registers that a rejoining spire takes agree. -/
def State.donorRegsAgree (s : State) (d e : Nat) : Bool :=
  ((s.regs.filter (fun r => perSpire r.1 && (copyOf r.1 == d || copyOf r.1 == e))).map (fun r => copyKey r.1 0)).all (fun k =>
    let m := BitVec.ofNat 32 (donorMask k)
    s.word (copyKey k d) &&& m == s.word (copyKey k e) &&& m)

/-- BF_REINT in the three slices. -/
def State.showReint (s : State) (x result us : Nat) : State :=
  s.bfWr R.BF_REINT (x % 4 + result * 4 + min (s.bf.retries.get x) 7 * 32 + min us 65535 * 65536)

/-- R226: a retry is counted; the third since the last join latches reintegration off. -/
def State.countRetry (s : State) (x result : Nat) : State :=
  let s := { s with bf := { s.bf with retries := s.bf.retries.upd x (fun n => n + 1) } }
  if 3 ≤ s.bf.retries.get x then
    let s := { s with bf := { s.bf with spst := s.bf.spst.set x .latched } }
    ((s.latchSrc (24 * x + 10)).record .spireReintLatched srcBelfry x (s.bf.retries.get x)).showReint x 3 0
  else s.showReint x result 0

end Sys2Proof.Machine
end

