-- ==== Sys2Proof/Machine/IoOps.lean ====
section
/-! DEFINITION. The I/O plane's operations (spec/16): windows, debounce, pairs, the output latches, presentation of the
voted word, the edge reset. -/

namespace Sys2Proof.Machine

/-- The I/O map, once an image with one is in use. -/
def State.ioMap (s : State) : Option IoMap := match s.img with | some m => m.io | none => none

/-- Input i as IO_MAP configures it. -/
def State.inDef (s : State) (i : Nat) : InDef :=
  match s.ioMap with | some m => m.inputs.getD i ⟨0, false, false⟩ | none => ⟨0, false, false⟩

/-! ### Windows and debounce (R352, R355, R356) -/

/-- Classes of a read. -/
inductive ReadClass where
  | on | indet | off | broken
deriving DecidableEq, Repr

/-- R352: the class of a current in uA. -/
def readClass (wbEn : Bool) (ua : Nat) : ReadClass :=
  if 5000 ≤ ua then .on else if 2700 < ua then .indet else if 500 ≤ ua then .off else if wbEn then .broken else .off

/-- R355: the last k reads are all ON. -/
def lastOn (k : Nat) (l : List ReadClass) : Bool := l.length == 8 && (l.drop (8 - k)).all (fun r => r == .on)

/-- R355: the window value: ON, BREAK or OFF. -/
def windowValue (d : InDef) (reads : List Nat) : ReadClass :=
  let l := reads.map (readClass d.wbEn)
  if lastOn (if d.deb = 0 then 4 else 8) l then .on
  else if l.length == 8 && l.all (fun r => r == .broken) then .broken
  else .off

/-- R355: windows n of a debounce code. -/
def debWindows (deb : Nat) : Nat := if deb ≤ 1 then 1 else deb - 1

/-- R355, R356: one window of an input. -/
def InSt.window (x : InSt) (d : InDef) (v : ReadClass) : InSt :=
  let n := debWindows d.deb
  let brk := if v = .broken then x.brk + 1 else 0
  let noBrk := if v = .broken then 0 else x.noBrk + 1
  let wb := d.wbEn && (if x.wb then Nat.blt noBrk 16 else Nat.ble 3 brk)
  let isOn := v == .on
  if d.vital then
    let cnt := if isOn then x.cnt + 1 else 0
    ⟨cnt, !wb && Nat.ble n cnt, brk, noBrk, wb⟩
  else if wb then ⟨if isOn then x.cnt + 1 else 0, false, brk, noBrk, wb⟩
  else if isOn == x.val then ⟨0, x.val, brk, noBrk, wb⟩
  else if n ≤ x.cnt + 1 then ⟨0, isOn, brk, noBrk, wb⟩
  else ⟨x.cnt + 1, x.val, brk, noBrk, wb⟩

/-- R356, R373: the wire-break source is suppressed for input i. -/
def State.wbSuppressed (s : State) (i : Nat) : Bool := s.flag F.IO_OVR_IN_EN && s.fld F.IO_OVR_IN == i

/-- R356: what an entry into or a stay in wire break does: record, count, raise. -/
def State.wbFaults (s : State) (old : List InSt) : State :=
  let s := s.each s.io.inputs.zipIdx fun s e =>
    if e.1.wb && !(old.getD e.2 InSt.idle).wb then
      let s := (s.record .ioWireBreak srcIo e.2 0).bump F.IO_CNT_WB
      if s.wbSuppressed e.2 then s else s.raise 112 false e.2 0
    else s
  let bad := s.io.inputs.zipIdx.filter (fun e => e.1.wb && !s.wbSuppressed e.2)
  match bad with
  | e :: _ => if (s.src 112).cond then s else s.raise 112 false e.2 0
  | [] => if (s.src 112).cond && !(s.src 112).force then s.endCond 112 else s

/-! ### Pairs (R358 to R360) -/

/-- What a window does to a pair: nothing, a discrepancy fault, a latch freed. -/
inductive PairEvent where
  | none | fault | freed
deriving DecidableEq, Repr

/-- R359, R360: one window of a pair with the debounced values a and b, at time `now`; `dt` in ns. -/
def PairInSt.window (p : PairInSt) (dt now : Nat) (a b : Bool) : PairInSt × PairEvent :=
  if p.latch then
    if a && b && p.bothZero then (⟨none, false, false, none, true⟩, .freed)
    else if !a && !b then ({ p with since := none, bothZero := true, firstOne := none, value := false }, .none)
    else if a != b && p.bothZero then
      let f := p.firstOne.getD now
      if f + dt < now then (⟨none, true, false, none, false⟩, .fault)
      else ({ p with firstOne := some f, value := false }, .none)
    else ({ p with value := false }, .none)
  else if a == b then (⟨none, false, false, none, a⟩, .none)
  else
    let f := p.since.getD now
    if f + dt < now then (⟨none, true, false, none, false⟩, .fault)
    else ({ p with since := some f, value := false }, .none)

/-- One pair of the map in this window. -/
def State.pairWindow (s : State) (e : Nat × Nat) : State :=
  let v := fun i => (s.io.inputs.getD i InSt.idle).val
  let a := v (2 * e.1)
  let b := v (2 * e.1 + 1)
  let r := (s.io.pairs.getD e.1 PairInSt.idle).window (e.2 * 10000000) s.time.clockNs a b
  let s := { s with io := { s.io with pairs := s.io.pairs.set e.1 r.1 } }
  match r.2 with
  | .none => s
  | .fault => ((s.record .ioDisc srcIo e.1 (b2n a + 2 * b2n b)).bump F.IO_CNT_DISC).raise 113 false e.1 0
  | .freed =>
    let s := s.record .ioDiscClear srcIo e.1 0
    if s.io.pairs.any (fun p => p.latch) || (s.src 113).force then s else s.endCond 113

/-- The value whose edges trigger, for input i: the pair value where it is paired (spec/05 R109). -/
def State.edgeValue (s : State) (i : Nat) : Bool :=
  match s.ioMap with
  | some m => if m.pairs.any (fun e => e.1 == i / 2) then (s.io.pairs.getD (i / 2) PairInSt.idle).value
      else (s.io.inputs.getD i InSt.idle).val
  | none => (s.io.inputs.getD i InSt.idle).val

/-! ### Output latches (R367) -/

/-- End the test pulse of output n. -/
def State.endPulse (s : State) (n : Nat) : State :=
  match (s.io.outs.getD n OutSt.idle).pulse with
  | none => s
  | some high =>
    let s := { s with io := { s.io with outs := s.io.outs.modify n (fun o => { o with pulse := none }) } }
    s.emit (.pulse n high (s.outCommand s.io.word n))

/-- The fault source of a latch cause. -/
def latchSource (cause : Nat) : Nat :=
  if cause ≤ 2 then 115 else if cause = 3 then 116 else if cause ≤ 5 then 117 else 118

/-- Latch output n with a cause, unless it is latched already. -/
def State.latchOne (s : State) (n cause partner : Nat) : State :=
  if s.rd R.IO_OLAT / 2 ^ n % 2 = 1 then s
  else
    let s := s.wr R.IO_OST (cause + partner % 16 * 16 + s.time.count % 65536 * 65536) n
    (s.wr R.IO_OLAT (s.rd R.IO_OLAT + 2 ^ n)).endPulse n

/-- R367: latch outputs with a cause: recorded with the cause and the outputs, the source raised. -/
def State.latchOutputs (s : State) (l : List (Nat × Nat)) (cause unit : Nat) : State :=
  let s := s.each l fun s e => s.latchOne e.1 cause e.2
  let mask := l.foldl (fun m e => m + 2 ^ e.1) 0
  (s.record .ioOutLatch srcIo cause mask).raise (latchSource cause) false unit cause

/-- Readings below 16.8 V at the field supply give no bypass or cross-connection latch (R368). -/
def State.fsCounts (s : State) : Bool := Nat.ble 16800 (s.fld F.IO_FS_MV)

/-- A bypass of output n: cause 1 high side, 2 low side. -/
def State.bypass (s : State) (n cause : Nat) : State :=
  if s.fsCounts && !(s.rd R.IO_OLAT / 2 ^ n % 2 == 1) then s.latchOutputs [(n, 0)] cause n else s

/-! ### Tests done and not done (R366) -/

/-- A test of output n has not been done; 20 in a row, the two slots of 10 test seconds, raise IO_TEST. -/
def State.testNotDone (s : State) (n : Nat) : State :=
  let c := (s.io.outs.getD n OutSt.idle).notDone + 1
  let s := ({ s with io := { s.io with outs := s.io.outs.modify n (fun o => { o with notDone := c }) } }).bump F.IO_TCNT_NOT_DONE
  if c = 20 then s.raise 114 false n 0 else s

/-- A test of output n has been done. -/
def State.testDone (s : State) (n : Nat) : State :=
  let s := { s with io := { s.io with outs := s.io.outs.modify n (fun o => { o with notDone := 0 }) } }
  if (s.src 114).cond && !(s.src 114).force && s.io.outs.all (fun o => Nat.blt o.notDone 20) then s.endCond 114 else s

/-- One check of R372 passed on a freed output. -/
def State.recheckPassed (s : State) (n : Nat) : State :=
  { s with io := { s.io with outs := s.io.outs.modify n (fun o => { o with recheck := o.recheck - 1 }) } }

/-! ### Presentation (R369) -/

/-- R366: bits of the voted word change: a pulse of that output ends at once and its test is not done. -/
def State.wordChange (s : State) (w : BitVec 16) : State :=
  s.each (List.range 16) fun s n =>
    if s.io.word.getLsbD n == w.getLsbD n then s
    else
      let was := (s.io.outs.getD n OutSt.idle).pulse.isSome
      let s := { s with io := { s.io with outs := s.io.outs.modify n (fun o => { o with changeNs := s.time.clockNs }) } }
      if was then (s.endPulse n).testNotDone n else s

/-- R369: the belfry presents a word; the silence timer restarts and logic silence ends. -/
def State.presentWord (s : State) (w : BitVec 16) (hold : Bool) : State :=
  let s := s.wordChange w
  let was := s.io.silence
  let s := { s with io := { s.io with word := w, hold := hold, present := some s.time.clockNs, silence := false } }
  let s := s.emit (.present w hold)
  if was && !(s.src 119).force then s.endCond 119 else s

/-! ### Edge reset (R371, R372) -/

/-- RESTART_IN rises. -/
def State.restartRise (s : State) : State :=
  match s.io.edge with
  | .idle | .armed => { s with io := { s.io with edge := .high, riseNs := s.time.clockNs } }
  | _ => s

/-- RESTART_IN has been high for longer than 2 s. -/
def State.restartStuck (s : State) : State :=
  ({ s with io := { s.io with edge := .stuck } }).record .ioRestartStuck srcIo 0 0

/-- RESTART_IN falls. -/
def State.restartFall (s : State) : State :=
  match s.io.edge with
  | .high =>
    let dt := s.time.clockNs - s.io.riseNs
    if dt < 100000000 then { s with io := { s.io with edge := .idle } }
    else if dt ≤ 2000000000 then { s with io := { s.io with edge := .armed, armedNs := s.time.clockNs } }
    else { s.restartStuck with io := { s.restartStuck.io with edge := .idle } }
  | .stuck => { s with io := { s.io with edge := .idle } }
  | _ => s

/-- R371: one window of RESTART_IN, debounced over 5 windows in both directions. -/
def State.restartWindow (s : State) (reads : List Nat) : State :=
  let v := lastOn 8 (reads.map (readClass false))
  if v == s.io.restart then { s with io := { s.io with restartCnt := 0 } }
  else if s.io.restartCnt + 1 < 5 then { s with io := { s.io with restartCnt := s.io.restartCnt + 1 } }
  else
    let s := { s with io := { s.io with restart := v, restartCnt := 0 } }
    if v then s.restartRise else s.restartFall

/-- R372: the condition of output n's latch is absent: a bypass no longer read, no overload, the field supply NORMAL. -/
def State.latchGone (s : State) (n : Nat) : Bool :=
  let c := s.fld F.IO_OST_CAUSE n
  if c = 1 ∨ c = 2 then (s.io.outs.getD n OutSt.idle).rest.1 != c else if c = 6 then s.io.fs == .normal else true

/-- Free the latch of output n; it is checked before it follows the word. -/
def State.freeOutput (s : State) (n : Nat) : State :=
  let s := (s.wr R.IO_OLAT (s.rd R.IO_OLAT - 2 ^ n)).wr R.IO_OST 0 n
  { s with io := { s.io with outs := s.io.outs.modify n (fun o => { o with recheck := 5, rest := (0, 0), ambHigh := false, ambLow := false }) } }

/-- The outputs latched under one of the causes. -/
def State.latchedBy (s : State) (causes : List Nat) : Bool :=
  (List.range 16).any (fun n => bitOf (s.rd R.IO_OLAT) n && causes.contains (s.fld F.IO_OST_CAUSE n))

/-- R372: the I/O plane's part: latches whose condition is absent are freed, group and field-supply bits with them. -/
def State.freeOutputs (s : State) : State :=
  let s := s.each ((List.range 16).filter (fun n => bitOf (s.rd R.IO_OLAT) n && s.latchGone n)) State.freeOutput
  let s := s.setFld F.IO_OLAT_GROUP 0
  let s := if s.io.fs = .normal then s.setFlag F.IO_OLAT_FS false else s
  s.each [([1, 2], 115), ([3], 116), ([4, 5], 117), ([6], 118)] fun s (e : List Nat × Nat) =>
    if (s.src e.2).cond && !(s.src e.2).force && !s.latchedBy e.1 then s.endCond e.2 else s

/-- R382, R478: the edge reset's part in the belfry: a spire freed from its latch runs its self-test; one that waits in
QUIET for the edge reset enters COPY. -/
def State.edgeResetSpire (s : State) (x : Nat) : State :=
  let k := 24 * x + 10
  let was := (s.src k).st
  let s := s.edgeResetSrc k
  if (s.src k).st = .clear && was ≠ .clear then
    if s.bf.spst.get x = .latched then
      let s := (s.crst x).bfWr R.BF_ST_RES 0
      { s with bf := { s.bf with
          spst := s.bf.spst.set x .selftest
          uncounted := s.bf.uncounted.set x true
          freed := s.bf.freed.set x true
          retries := s.bf.retries.set x 0 } }
    else s.quietSpire k
  else s

/-- The edge reset (R372): output latches, the collector's latches, spire latches, and the exit from ISOLATED (spec/19
R409). -/
def State.edgeReset (s : State) : State :=
  let s := (s.record .edgeReset srcIo 0 0).freeOutputs
  let s := s.each [0, 1, 2] State.edgeResetSpire
  let s := s.each ((List.range 128).filter (fun k => !(k < 72 && k % 24 == 10))) State.edgeResetSrc
  if s.mode.cur = .isolated && !(List.range 128).any (fun k => s.latchedSev4 k) then s.safeHalt 13 else s

end Sys2Proof.Machine
end

