-- ==== Sys2Proof/Machine/CanOps.lean ====
section
/-! DEFINITION. The channels' operations (spec/14): the transmit queue, sleep, commands and status messages; and the
emission of output messages (spec/04 R98, spec/15 R345). -/

namespace Sys2Proof.Machine

/-- Channel n. -/
def State.chan (s : State) (ch : Nat) : CanCh := Sparse.get (fun _ => CanCh.idle) s.can ch

/-- R323: the counter TS of a channel, at 10 MHz since its last reset. -/
def State.canTs (s : State) (ch : Nat) : Nat := (s.time.clockNs - max (s.chan ch).ts0 s.time.resetNs) / 100 % 2 ^ 32

/-- Change channel n. -/
def State.updChan (s : State) (ch : Nat) (f : CanCh → CanCh) : State :=
  { s with can := Sparse.upd (fun _ => CanCh.idle) s.can ch f }

/-- A channel of CAN_SETUP. -/
def State.chDef (s : State) (ch : Nat) : Option CanChDef := s.content.can.find? (fun c => c.ch == ch)

/-- The transceiver is in standby (R327). -/
def State.asleep (s : State) (ch : Nat) : Bool := s.flag F.CAN_STATUS_ASLEEP ch

/-- The channel transmits and receives: awake, its group supply stands, not bus-off (R314, R325, R327). -/
def State.canUp (s : State) (ch : Nat) : Bool :=
  !s.asleep ch && !s.flag F.CAN_STATUS_GROUP_FAIL ch && s.fld F.CAN_STATUS_BUS ch != 2 && Nat.blt ch 40

/-- `n` frames not queued, flushed or refused. -/
def State.canDrop (s : State) (ch n : Nat) : State := s.bumpBy F.CAN_TXQ_DROP n ch

/-- R324: an entry enters the tail; a full queue drops the frame, recorded once per base cycle. -/
def State.canAppend (s : State) (ch : Nat) (e : CanEntry) : State :=
  let c := s.chan ch
  if c.blocked.contains e.id then s.canDrop ch 1
  else if 32 ≤ c.queue.length then
    let s := s.canDrop ch 1
    if c.fullRec then s else (s.updChan ch (fun c => { c with fullRec := true })).record .canTxqFull srcComms ch e.id
  else
    let s := s.updChan ch (fun c => { c with queue := c.queue ++ [e] })
    (s.peak F.CAN_TXQ_PEAK (c.queue.length + 1) ch).emit (.canQueued ch e.id e.data)

/-- R324: the entry of message `msg` takes the new emission's data in place. -/
def CanCh.replace (c : CanCh) (msg : Nat) (data : List Byte) : CanCh :=
  { c with queue := c.queue.map (fun e => if e.msg = msg then { e with data := data, again := none } else e) }

/-- R324: a message of a channel is due. Where its last emission is still queued the new one replaces it in place; where
that frame is the head and on the bus at this moment (free: the bus decides), the new emission waits for the outcome. -/
def State.canQueue (s : State) (ch id msg : Nat) (data : List Byte) : State :=
  if s.asleep ch then s
  else
    let c := s.chan ch
    if c.queue.any (fun e => e.msg == msg) then
      let head := match c.queue.head? with | some e => e.msg == msg | none => false
      if head && s.canUp ch then
        let onBus := s.draw.1 % 2 == 1
        let s := s.draw.2
        if onBus then
          s.updChan ch (fun c => { c with queue := c.queue.map (fun e => if e.msg = msg then { e with again := some data } else e) })
        else s.updChan ch (fun c => c.replace msg data)
      else s.updChan ch (fun c => c.replace msg data)
    else s.canAppend ch ⟨id, msg, data, 0, none⟩

/-- R328: a channel wakes with a cause. -/
def State.canAwake (s : State) (ch cause : Nat) : State :=
  ((s.setFlag F.CAN_STATUS_ASLEEP false ch).setFld F.CAN_STATUS_WAKE_CAUSE cause ch).record .canWake srcComms ch cause

/-- R327, R328: at an output angle SLEEP_Q in the task's Q copy puts a channel with an empty queue to sleep, or wakes it. -/
def State.canSleep (s : State) (task : Nat) : State :=
  s.each s.content.can fun s c =>
    match c.sleepQ with
    | none => s
    | some q =>
      if s.sentBit task q then
        if (s.chan c.ch).queue.isEmpty && !s.asleep c.ch then s.setFlag F.CAN_STATUS_ASLEEP true c.ch else s
      else if s.asleep c.ch then s.canAwake c.ch 3
      else s

/-! ### Messages (R317 to R319) -/

/-- R318: LINK. -/
def State.link (s : State) (ch addrByte : Nat) : Nat := s.content.pairAddr * 65536 + ch * 256 + addrByte

/-- R317: bytes 0 to L - 13 of a vital message. -/
def canBody (kind addrByte seq echo : Nat) (data : List Byte) : List Byte :=
  beBytes 1 kind ++ beBytes 1 addrByte ++ beBytes 4 seq ++ beBytes 2 echo ++ data

/-- R329: the check values of a channel. -/
def CanChDef.want (c : CanChDef) (link seq : Nat) (body : List Byte) : Three Nat := triSig c.poly link seq body

/-- The next transmit sequence number of a message (R319). -/
def State.nextSeq (s : State) (msg : Nat) : Nat := (Sparse.get (fun _ => 0) s.txSeq msg + 1) % 2 ^ 32

/-- A bit of an object-controller command: on an HDT3-B every vital bit is 0 (spec/00 R2). -/
def State.commandBit (s : State) (task a : Nat) : Bool :=
  if s.flag F.HW_ID_BENCH && s.vitalBit 3 a then false else s.sentBit task a

/-- R319: a command of message `msg` to a controller; L = `len`. -/
def State.sendCommand (s : State) (task msg ch addr len qBase : Nat) : State :=
  match s.chDef ch with
  | none => s
  | some c =>
    match c.ctls.find? (fun d => d.addr == addr) with
    | none => s
    | some d =>
      let k := s.ctlAt ch addr
      let seq := s.nextSeq msg
      let body := canBody 1 addr seq ((k.lastSeq.getD 0) % 65536) (qBytes (s.commandBit task) qBase (len - 20))
      let cv := s.maskCv (c.want (s.link ch addr) seq body)
      let frame := body ++ beBytes 4 cv.a ++ beBytes 4 cv.b ++ beBytes 4 cv.c
      let s := { s with txSeq := Sparse.set (fun _ => 0) s.txSeq msg seq }.triSent
      let now := s.atNow
      let s := s.updCtl ch addr (fun k => { k with
        sent := (seq % 65536, now) :: k.sent.filter (fun e => Nat.ble now (e.2 + d.stTo * 65536)) })
      s.canQueue ch d.cmdId msg frame

/-- R345: a ring queue message; only a member that controls track sends it. -/
def State.sendRingQueue (s : State) (task msg peer queue len qBase : Nat) : State :=
  if s.mode.cur.track then
    let seq := s.nextSeq msg
    let m : QMsg := ⟨s.content.ring.addrA, peer, queue, 0, seq, s.atNow, qBytes (s.sentBit task) qBase len, Three.all 0⟩
    let m : QMsg := { m with cv := s.maskCv (triSig s.content.ring.poly peer seq m.body) }
    ({ s with txSeq := Sparse.set (fun _ => 0) s.txSeq msg seq }.triSent).emit (.queueMsg m)
  else s

/-- R98: emit output message `msg`, its payload read from the Q copy of `task`. -/
def State.emitMsg (s : State) (task msg : Nat) : State :=
  match s.content.msgs.find? (fun m => m.num == msg) with
  | none => s
  | some m =>
    match m.kind with
    | .command ch addr len qBase => s.sendCommand task msg ch addr len qBase
    | .plain ch id len qBase => s.canQueue ch id msg (qBytes (s.sentBit task) qBase len)
    | .ringQueue peer queue len qBase => s.sendRingQueue task msg peer queue len qBase

/-! ### Status messages (R316, R319, R323) -/

/-- Counters of CAN_REJ. -/
def State.canRej (s : State) (f : Field) (ch : Nat) : State := s.bump f ch

/-- R323: the AT of a stamp, or none. -/
def State.stampAt (s : State) (ch sof : Nat) (prev : Bool) : Option Nat :=
  let c := s.chan ch
  let l := if prev then c.prevLatch else c.latch
  let gap := (sof + 2 ^ 32 - c.prevLatch.1 % 2 ^ 32) % 2 ^ 32
  if 2 * s.trMs * 10000 < gap ∨ s.time.tbNs = 0 then none
  else
    let d := (sof + 2 ^ 32 - l.1 % 2 ^ 32) % 2 ^ 32
    some (l.2 + angleOf (d * 100) s.time.tbNs)

/-- Lengths of a vital message (R317). -/
def vitalLen (n : Nat) : Bool := n == 20 || n == 24 || n == 32 || n == 48 || n == 64

/-- R319: SEQ is acceptable: within the window, or the controller is absent and ECHO answers a recent command. -/
def State.seqOk (s : State) (k : CtlSt) (d : CtlDef) (seq echo : Nat) : Bool :=
  let window := match k.lastSeq with
    | some l => let ds := (seq + 2 ^ 32 - l) % 2 ^ 32; Nat.ble 1 ds && Nat.ble ds 1048575
    | none => false
  window || (k.absent && k.sent.any (fun e => e.1 == echo && Nat.ble s.atNow (e.2 + d.stTo * 65536)))

/-- R319, R316: a frame with the status identifier of controller d. -/
def State.takeStatus (s : State) (c : CanChDef) (d : CtlDef) (f : CanRx) : State :=
  let n := f.data.length
  let kind := beNat (f.data.take 1)
  let addr := beNat ((f.data.drop 1).take 1)
  let seq := beNat ((f.data.drop 2).take 4)
  let echo := beNat ((f.data.drop 6).take 2)
  let bad := !f.fd || (c.data != 0 && !f.brs) || !vitalLen n || n != d.len || kind != 2 || addr != 128 + d.addr
  if bad then s.canRej F.CAN_REJ_FORMAT c.ch
  else
    let tail := f.data.drop (n - 12)
    let cv : Three Nat := ⟨beNat (tail.take 4), beNat ((tail.drop 4).take 4), beNat ((tail.drop 8).take 4)⟩
    let want := c.want (s.link c.ch addr) seq (f.data.take (n - 12))
    let valid := s.triN cv want
    let s := s.triDone cv want
    if valid < 2 then s.canRej F.CAN_REJ_CHECK c.ch
    else if !s.seqOk (s.ctlAt c.ch d.addr) d seq echo then s.canRej F.CAN_REJ_SEQ c.ch
    else
      let now := s.atNow
      let st := s.stampAt c.ch f.sof f.prevRound
      let s := s.updCtl c.ch d.addr (fun k => { k with
        lastSeq := some seq, data := (f.data.drop 8).take (n - 20), absent := false, lastAt := now, stampAt := st })
      s.wr R.CAN_ABSENT (s.rd R.CAN_ABSENT c.ch - (if bitOf (s.rd R.CAN_ABSENT c.ch) d.addr then 2 ^ d.addr else 0)) c.ch

/-- The channel transmits frames with this identifier (R326). -/
def State.ownId (s : State) (c : CanChDef) (id : Nat) : Bool :=
  c.ctls.any (fun d => d.cmdId == id)
    || s.content.msgs.any (fun m => match m.kind with | .plain ch i _ _ => ch == c.ch && i == id | _ => false)

/-- R325: fault confinement: the bus state that the error counts give; 256 is bus-off. -/
def State.canConfine (s : State) (ch : Nat) : State :=
  s.setFld F.CAN_STATUS_BUS (if 128 ≤ s.fld F.CAN_ERR_TEC ch then 1 else 0) ch

/-- R325: bus-off: the queue is flushed, the group's source raised. -/
def State.busOff (s : State) (ch : Nat) : State :=
  let s := s.canDrop ch (s.chan ch).queue.length
  let s := (s.updChan ch (fun c => { c with queue := [] })).setFld F.CAN_STATUS_BUS 2 ch
  (s.record .canBusoff srcComms ch 0).raise (92 + ch / 8) false ch 0

/-- ISO 11898-1: an error while transmitting adds 8 to the transmit error count. -/
def State.txError (s : State) (ch : Nat) : State :=
  let t := s.fld F.CAN_ERR_TEC ch + 8
  let s := s.setFld F.CAN_ERR_TEC (min t 511) ch
  if 256 ≤ t then s.busOff ch else s.canConfine ch

end Sys2Proof.Machine
end

