-- ==== Sys2Proof/Machine/OutOps.lean ====
section
/-! DEFINITION. Output angles, and the releases and triggers that give way to them (spec/05 R109 to R119, spec/01 R22). -/

namespace Sys2Proof.Machine

/-! ### Output angles (R115, R119, spec/01 R22) -/

/-- The local output word of spire x: the Q bits of IO_MAP in its Q copy of task t (spec/10 R211). -/
def State.localWord (s : State) (x t : Nat) : BitVec 16 :=
  match s.ioMap with
  | none => 0
  | some m => BitVec.ofNat 16 (m.outputs.foldl (fun w d => if s.copyBit x t d.q && d.n < 16 then w ||| 2 ^ d.n else w) 0)

/-- R279: the export words from the Q copy; all zeros in a member that does not control track. -/
def State.takeExports (s : State) (t : Nat) : State :=
  let r := s.content.ring
  let ws := (List.range r.exw).map (fun i => (wordOf (s.sentBit t) (r.expQ + 32 * i)).toNat)
  { s with ring := { s.ring with exports := if s.mode.cur.track then ws else List.replicate r.exw 0 } }

/-- R115, R119, spec/10 R211, R230: the words are compared, voted and presented, and the exports taken. -/
def State.presentVote (s : State) (t : Nat) (v : VoteOp) : State :=
  if s.mode.cur.track then
    let local' : Three (BitVec 16) := ⟨s.localWord 0 t, s.localWord 1 t, s.localWord 2 t⟩
    let r := s.judgeOutput local' v
    if r.1.mode.cur.track then
      (({ r.1 with bf := { r.1.bf with vote := r.2 } }).presentWord r.2 false).takeExports t
    else r.1
  else s

/-- R341: DATA on every OPEN session of the task. -/
def State.sendData (s : State) (t : Nat) : State :=
  if s.mode.cur.sessions then
    s.each (s.content.sessions.filter (fun d => d.task == t)) fun s d =>
      if (s.sessAt d.n).st = .opened then
        (s.updSess d.n (fun x => { x with txSeq := (x.txSeq + 1) % 2 ^ 32 })).sendFrame d.n 3 0 (qBytes (s.sentBit t) d.txQ d.txLen)
      else s
  else s

/-- The messages that a task's latest completed execution marked go out, in the order of R98. Only modes in which tasks
run emit them; MAINTENANCE with every vital bit 0 (spec/19 R404). -/
def State.emitMarks (s : State) (t : Nat) : State :=
  if s.mode.cur.runs then (s.canSleep t).each (s.task t).outMarks fun s m => s.emitMsg t m else s

/-- What goes out at an output angle of task t: the messages of the completed execution that R111, R115 and R119 name (an
event task's and a sweep's from 1 CAU after it), the voted word of P0 or of the sweep, and DATA on the sessions. -/
def State.outputAngle (s : State) (t : Nat) (v : VoteOp) : State :=
  let s := s.endQCopy t
  let k := s.task t
  let after := match k.fin with | some f => if t < 8 then Nat.ble f s.absAngle else Nat.blt f s.absAngle | none => false
  let s := if after && (t < 8 || t == 24 || !k.sent) then (s.emitMarks t).updTask t (fun k => { k with sent := true }) else s
  let s := if (t = 0 ∨ t = 24) ∧ after then s.presentVote t v else s
  s.sendData t

/-- The output angle `angle` of task t has passed in this base cycle. -/
def State.outputDone (s : State) (t angle : Nat) : Bool := (s.task t).lastOut == some (s.time.count * 65536 + angle)

/-- The output angle `angle` of task t, once in a base cycle. -/
def State.outputOnce (s : State) (t angle : Nat) (v : VoteOp) : State :=
  if s.outputDone t angle then s
  else
    let occ := s.time.count * 65536 + angle
    (s.updTask t (fun k => { k with lastOut := some occ })).outputAngle t v

/-- R115: the tasks with a PRIO below `p` whose output angle is `angle`, in ascending PRIO; in sweep mode the sweep. -/
def State.outputsAt (s : State) (angle p : Nat) : List Nat :=
  if s.sweepMode then (if s.content.sched.outs.contains angle then [24] else [])
  else (List.range p).flatMap (fun i => (s.content.sched.tasks.filter (fun d => d.prio == i && d.outAng == angle)).map TaskDef.code)

/-- R22: before anything else happens at the present angle, the outputs that fall at it go out, in the modes in which
something leaves the module. -/
def State.outputsHere (s : State) : State :=
  if s.mode.cur.sessions then s.each (s.outputsAt s.time.angle 24) fun s t => s.outputOnce t s.time.angle VoteOp.plain else s

/-! ### Releases that take effect -/

/-- A release takes effect at the present angle (R111, R112): an event task's image is frozen and its deadline set. An output that falls at this angle goes out first (spec/01 R22). -/
def State.takeEffect (s : State) (t : Nat) : State :=
  match s.taskDef t with
  | none => s
  | some d =>
    let s := s.outputsHere
    let a := s.absAngle
    let s := if 8 ≤ t then s.freeze t else s
    if !s.mode.cur.runs then s else
    let s := s.enterJoined
    let s := s.firstRelease t (if t < 8 then s.time.count * 65536 + d.inAng else a)
    let dl := if t < 8 then s.time.count * 65536 + d.dlAng else a + d.dlRel
    let s := s.updTask t (fun k => { k with
      ready := true, held := false, lead := false, next := 0, rel := some a, deadline := some dl, marks := [] })
    let s := s.each [0, 1, 2] fun s x => s.updEng x (fun e => { e with
      clkTask := Sparse.set (fun _ => 0) e.clkTask t 0
      stallTask := Sparse.set (fun _ => 0) e.stallTask t 0 })
    let s := s.startFills
    s.each [0, 1, 2] fun s c => s.bump (relField t) (taskIdx t) c

/-! ### Releases and triggers (R109 to R112) -/

/-- A release of task t at the present angle: held during a seal (and an event release during a hold), latched for the
next barrier while a task runs, else effective at once. -/
def State.release (s : State) (t : Nat) : State :=
  let hold := s.sched.sealRuns || (Nat.ble 8 t && (s.sched.hold || s.bf.joinHold))
  if hold then
    let s := s.updTask t (fun k => { k with held := true })
    if 8 ≤ t then s.each [0, 1, 2] fun s c => s.bump F.SCH_EVENTS_HELD c else s
  else if s.sched.cur ≠ 31 then { s with sched := { s.sched with relq := s.sched.relq ++ [(t, s.absAngle)] } }
  else (s.takeEffect t).dispatch

/-- R110: the last release lies at least MIN_SEP back. -/
def State.sepOk (s : State) (d : TaskDef) : Bool :=
  match (s.task d.code).rel with | some r => Nat.ble (r + d.minSep) s.absAngle | none => true

/-- A release of t has occurred and has not taken effect. -/
def State.releaseWaits (s : State) (t : Nat) : Bool := (s.task t).held || s.sched.relq.any (fun (e : Nat × Nat) => e.1 == t)

/-- R417: a release of an event task at the present angle; it wakes spires that sleep, and where the engine is idle in state l it
takes effect 1.1 × latency(l) later. -/
def State.releaseAwake (s : State) (t : Nat) : State :=
  let l := s.depth
  let s := s.wakeSpires
  if l = 0 || s.sched.cur != 31 then s.release t
  else { s with sched := { s.sched with relq := s.sched.relq ++ [(t, s.absAngle + s.wakeCau l)] } }

/-- R110: a trigger of event task d. One that finds the release held or latched for a barrier, which the rule does not name,
counts as one within MIN_SEP: it sets the pending release (DESIGN CHOICE, log entry 103). -/
def State.trigger (s : State) (d : TaskDef) : State :=
  let k := s.task d.code
  if !s.mode.cur.runs then s
  else if !k.ready && !s.releaseWaits d.code && !k.pend && s.sepOk d then s.releaseAwake d.code
  else if k.pend then s.each [0, 1, 2] fun s c => s.bump F.ET_CNT_MERGED (d.code - 8) c
  else s.updTask d.code (fun k => { k with pend := true })

/-- R110: a pending release becomes ready once its execution has passed and MIN_SEP has elapsed. -/
def State.firePending (s : State) (d : TaskDef) : State :=
  let k := s.task d.code
  if k.pend && !k.ready && !s.releaseWaits d.code && s.sepOk d then
    (s.updTask d.code (fun k => { k with pend := false })).releaseAwake d.code
  else s

/-- The event tasks; sweep mode has none (R120). -/
def State.eventTasks (s : State) : List TaskDef :=
  if s.sweepMode then [] else s.content.sched.tasks.filter (fun d => Nat.ble 8 d.code)

/-- Triggers of every event task that a queue or a local input fires (R109). -/
def State.queueTrigger (s : State) (q : Nat) : State :=
  s.each (s.eventTasks.filter (fun d => d.kind == 0 && d.src == q)) fun s d => s.trigger d

/-- R109: an edge of local input i (of the pair value where it is paired): 1 rising, 2 falling; 3 takes both. -/
def State.inputTrigger (s : State) (i edge : Nat) : State :=
  s.each (s.eventTasks.filter (fun d => d.kind == 1 && d.src == i && (d.edge == edge || d.edge == 3))) fun s d => s.trigger d

/-- The latched releases whose angle has come, and the state without them. -/
def State.takeDue (s : State) : List (Nat × Nat) × State :=
  (s.sched.relq.filter (fun e => Nat.ble e.2 s.absAngle),
    { s with sched := { s.sched with relq := s.sched.relq.filter (fun e => Nat.blt s.absAngle e.2) } })

/-- The latched releases take effect at the present angle, in order. -/
def State.latchedReleases (s : State) : State :=
  let l := s.takeDue
  l.2.each l.1 fun s e => if (s.task e.1).ready then s else s.takeEffect e.1

/-- R417: the releases that waited for a wake occur once their angle has come, while no task runs. -/
def State.dueReleases (s : State) : State :=
  if s.sched.cur = 31 then (let l := s.takeDue; l.2.each l.1 fun s e => if (s.task e.1).ready then s else s.release e.1) else s

/-- One CAU passes (spec/02 R30), up to the last angle of the base cycle. -/
def State.tick (s : State) : State := settle ({ s with out := [] }.advanceTo (s.time.angle + 1)).dueReleases

/-! ### The latch of a quote (spec/20 R430) -/

/-- What a quote of now shows. -/
def State.quoteHead (s : State) : QuoteHead where
  mode := s.mode.cur.code
  stamp := s.atNow
  id := match s.img with | some m => m.id | none => ⟨0, 0⟩
  addr := match s.img with | some m => m.ring.addrA | none => 0xFFFF
  pair := match s.img with | some m => m.pairAddr | none => 0xFFFF

/-- R430: the latch of the request at the head of the queue, once. -/
def State.latchQuote (s : State) : State :=
  if s.att.queue.isEmpty || s.att.latch.isSome then s else { s with att := { s.att with latch := some s.quoteHead } }

/-- R430: while no task runs the latch is taken at once. -/
def State.latchIdle (s : State) : State := if s.sched.cur = 31 then s.latchQuote else s

/-- The held releases take effect (R117, R192), in ascending task code. -/
def State.heldReleases (s : State) : State :=
  let l := (s.sched.tasks.filter (fun (e : Nat × TaskSt) => e.2.held)).map (fun e => e.1)
  (s.each l fun s t => s.takeEffect t).dispatch

/-! ### Hold (spec/10 R227) -/

/-- R227: the join hold ends and the event releases it held take effect. -/
def State.endJoinHold (s : State) : State :=
  let s := { s with bf := { s.bf with joinHold := false } }
  if s.sched.hold || s.sched.sealRuns then s else s.heldReleases

end Sys2Proof.Machine
end

