-- ==== Sys2Proof/Machine/Sched.lean ====
section
/-! DEFINITION. The meanings of the schedule's commands (spec/05): freezes, releases, finial barriers, output angles, the
seal, the sweep and the cycle watchdog. -/

namespace Sys2Proof.Machine

/-- The comms plane freezes the input image of a periodic task at IN_ANG, once in a base cycle (R108); an output that falls at
that angle goes out first (spec/01 R22). -/
def State.freezeAt (s : State) (d : TaskDef) : State :=
  if (s.task d.code).frozen == some s.time.count then s
  else
    let s := ((s.advanceTo d.inAng).outputsHere).freeze d.code
    s.updTask d.code (fun k => { k with frozen := some s.time.count })

/-- INPUT_FREEZE (R108): the input image of a due periodic task at its IN_ANG. Sessions run on in SAFE-HALT, and their
checks take place at its freezes (spec/15 R339); in sweep mode this is there the freeze at a start angle. -/
def execInputFreeze (task : Nat) (s : State) : Host.Outcome State Fault Refusal :=
  act s fun s =>
    match s.taskDef task with
    | some d => if s.isDue d && s.mode.cur.sessions then s.freezeAt d else s
    | none => if s.sweepMode && task == 24 && s.mode.cur == .safeHalt then s.outputsHere.freeze task else s

/-- PERIODIC_RELEASE (R108, R112): the freeze comes first. -/
def execPeriodicRelease (task : Nat) (s : State) : Host.Outcome State Fault Refusal :=
  act s fun s =>
    match s.taskDef task with
    | some d =>
      if s.isDue d && s.mode.cur.runs && !s.releasedNow task && !(s.task task).ready && !s.releaseWaits task then
        ((s.freezeAt d).advanceTo d.relAng).release task
      else s
    | none => s

/-- MIN_SEP_ELAPSED (R110): the pending release of an event task whose execution has passed becomes ready. -/
def execMinSepElapsed (task : Nat) (s : State) : Host.Outcome State Fault Refusal :=
  act s fun s =>
    match s.taskDef task with
    | some d =>
      if 8 ≤ task && s.mode.cur.runs && (s.task task).pend then
        let due := match (s.task task).rel with | some r => r + d.minSep | none => s.absAngle
        let s := if due / 65536 = s.time.count then s.advanceTo (due % 65536) else s
        s.firePending d
      else s
    | none => s

/-- The barrier in progress may complete: its finial (or digest) triple has passed, and every compared engine that runs
waits at it (R112, spec/10 R212, R213). -/
def State.barrierDone (s : State) : Bool :=
  s.bf.barrierReady && !s.bf.stopped && !s.compared.isEmpty
    && (s.sched.cur == 25 || s.compared.all (fun x => (s.eng x).barrier || (s.eng x).stopped))

/-- What waits for a finial barrier: inspection latches (spec/06 R152), the latch of a quote (spec/20 R430), a march step (spec/09
R201), a BRST of the engine block (spec/19 R410). -/
def State.atBarrier (s : State) : State :=
  let s := s.keepLatches.latchQuote
  let s := s.each s.compared fun s x => s.marchGo x
  if s.flag F.RST_CMD_BUSY then ((s.brst 0x60).forceSource).setFlag F.RST_CMD_BUSY false else s

/-- The audit ends with its barrier (R113, R116); a sweep is complete then (R119). -/
def State.endAudit (s : State) : State :=
  let s := { s with sched := { s.sched with cur := 31 } }
  if s.sweepMode then
    let a := s.absAngle
    let len := min (a - s.sched.sweepStart.getD a) 0x3FFFF
    let s := s.each [0, 1, 2] fun s c => (s.wr R.SWP_LAST len c).wr R.SWP_MAX (max (s.rd R.SWP_MAX c) len) c
    let s := s.updTask 24 (fun k => { k with deadline := none })
    ({ s with sched := { s.sched with sweepStart := none } }.completed 24).beginSeal
  else
    let s := s.latchedReleases
    if s.sched.sealWaits then s.beginSeal else s.dispatch

/-- A group of task t has ended (R112, R113). -/
def State.endGroup (s : State) (t : Nat) : State :=
  let next := (s.task t).next + 1
  let last := Nat.ble (s.content.run t).2 next
  let s := if last then s.lastFinial t else s.updTask t (fun k => { k with next := next })
  if s.sweepMode then
    if last then s.startAudit else s.runTask t
  else
    let s := if last && 8 ≤ t then (match s.taskDef t with | some d => s.firePending d | none => s) else s
    (s.latchedReleases).afterBarrier last

/-- The barrier completes: counted by the slices, each spire's wait counted (R212), the engines no longer wait. -/
def State.passBarrier (s : State) : State :=
  let s := s.each s.compared fun s x => s.bfWait x
  let s := s.each s.liveSlices fun s c => s.bumpReg R.BF_BARRIERS c 0
  let s := s.each s.compared fun s x => s.updEng x (fun e => { e with barrier := false, run := false })
  { s with bf := { s.bf with barrierReady := false } }

/-- FINIAL_BARRIER_COMPLETE (R112, R113, R116, spec/10 R212): the barrier completes at `angle`. -/
def execFinialBarrierComplete (angle : Nat) (s : State) : Host.Outcome State Fault Refusal :=
  act s fun s =>
    if s.barrierDone && s.sched.cur != 31 then
      let s := (s.advanceTo angle).passBarrier.atBarrier
      if s.sched.cur = 25 then s.endAudit else if s.sched.cur = 31 then s else s.endGroup s.sched.cur
    else s

/-! ### Output angles (R115, R119) -/

/-- OUTPUT_ANGLE (R111, R115, spec/15 R341): in the modes in which something leaves the module; the outputs of tasks with a
lower PRIO at the same angle come first. -/
def execOutputAngle (task : Nat) (v : VoteOp) (s : State) : Host.Outcome State Fault Refusal :=
  act s fun s =>
    match s.taskDef task with
    | some d =>
      if s.mode.cur.sessions then
        let s := s.advanceTo d.outAng
        let s := s.each (s.outputsAt d.outAng d.prio) fun s t => s.outputOnce t d.outAng VoteOp.plain
        s.outputOnce task d.outAng v
      else s
    | none => s

/-! ### Seal (R117, R119, spec/09 R192) -/

/-- WATCHDOG actions (R122): task code, deadline angle. -/
def State.watchdogTrip (s : State) (t angle : Nat) : State :=
  let y := s.bodySpire
  let e := s.eng y
  let clk := min (Sparse.get (fun _ => 0) e.clkTask t) 0xFFFFFFFF
  let stl := min (Sparse.get (fun _ => 0) e.stallTask t) 0xFFFFFFFF
  let grp := e.group
  let s := { s with bf := { s.bf with vote := 0 }, sched := { s.sched with noDelta := true } }
  let s := s.each [0, 1, 2] fun s x =>
    let q := s.eng x
    let s := (s.wr R.LE_ERROR 9 x).wr R.LE_ERR_PC q.pc x
    let s := (s.wr R.LE_ERR_GROUP q.group x).updEng x (fun e => { e with run := false, stopped := true, barrier := false, skip := 0 })
    (s.wr R.WDOG_STATUS (t + 256 + angle % 65536 * 65536) x).wr R.WDOG_GROUP (grp % 8192) x
  let s := s.each (s.can.map (fun e => (e.1, e.2.queue.length))) fun s (e : Nat × Nat) =>
    (s.canDrop e.1 e.2).updChan e.1 (fun c => { c with queue := [] })
  let s := { s with sched := { s.sched with tasks := s.sched.tasks.map (fun (e : Nat × TaskSt) =>
    let k : TaskSt := { e.2 with marks := [], outMarks := [] }
    (e.1, k)) } }
  let s := s.recordFull (.num 0x0401) srcModule (Config.recClass 0x0401 % 4) false false false (t * 65536 + angle % 65536) (grp % 8192)
  let s := s.recordFull (.num 0x0402) srcModule (Config.recClass 0x0402 % 4) false false false clk stl
  let s := s.each s.compared fun s x => (s.collect (24 * x + 2) false 0 9 false false).1
  s.raise 126 false 0 t

/-- SEAL_ANGLE (R117, R121): an output that falls at it goes out first; event releases are held; the seal starts when no task runs. The watchdog of an audit that
still runs trips. -/
def execSealAngle (s : State) : Host.Outcome State Fault Refusal :=
  act s fun s =>
    if s.sweepMode || s.img.isNone || !s.mode.cur.runs || s.sched.hold || s.sched.sealDone || s.sched.sealRuns then s
    else
      let a := s.content.sched.sealAng
      let s := (s.advanceTo a).outputsHere
      if s.sched.cur = 25 then s.watchdogTrip 25 a
      else
        let s := { s with sched := { s.sched with hold := true } }
        if s.sched.cur = 31 then s.beginSeal else { s with sched := { s.sched with sealWaits := true } }

/-- R193: the snapshot of a spire at this seal. -/
def State.snapshotOf (s : State) (x : Nat) : Snapshot :=
  let p := s.spire x
  ⟨s.pair.snapSeq, s.time.count, s.atNow, s.content.id, p.mem, p.keep, s.sess, s.txSeq⟩

/-- Take the snapshots of the seal in every compared spire: every group page is clean, the frame parts remain to be
copied (R192, R193). -/
def State.takeSnapshots (s : State) : State :=
  s.each s.compared fun s x =>
    let n := s.snapshotOf x
    let dirty := ((s.spire x).pg.slots.filter (fun q => match q.page with | .group _ => q.dirty | _ => false)).length
    let s := (s.bumpReg R.PG_WBACK x 0 dirty).wr R.PG_SNAP (n.seq % 64 + n.seq % 2 ^ 24 * 256) x
    s.updPg x (fun g => { g with
      slots := g.slots.map (fun q => { q with dirty := false }), copying := true, snaps := (n :: g.snaps).take 64 })

/-- R226: spires that returned to QUIET after a failed copy try again from this seal. -/
def State.retryReint (s : State) : State :=
  s.each (threeIdx (fun x => s.bf.spst.get x == .quiet && Nat.blt 0 (s.bf.retries.get x) && (s.src (24 * x + 10)).st == .clear
      && !s.bf.freed.get x)) fun s x => s.quietSpire (24 * x + 10)

/-- spec/11 R246: an initial copy that has not ended before seal m + 63 begins again. -/
def State.copyTooOld (s : State) : State :=
  match s.pair.copySeq with
  | some m => if s.mode.cur.track && s.pair.partner.mode == 5 && Nat.ble (m + 63) s.pair.snapSeq then s.restartCopy else s
  | none => s

/-- SEAL_COMPLETE (R117, spec/09 R192, spec/10 R227, spec/15 R344): the write-back wait and the copy have ended; `meets` says
what the copy met in the banks that it read (spec/09 R180). A spire that this isolates takes no snapshot. -/
def execSealComplete (meets : List BankMeet) (s : State) : Host.Outcome State Fault Refusal :=
  act s fun s =>
    if s.sched.sealRuns then
      let s := s.each meets fun s m => if s.isCompared m.spire then s.portRead m.spire m.bank m.port else s
      let s := { s with pair := { s.pair with snapSeq := (s.pair.snapSeq + 1) % 2 ^ 32 } }
      let s := s.each s.content.queues fun s d => s.auditQueue d
      let s := ((s.takeSnapshots.retryReint).copyTooOld).gone 127
      let join := (threeIdx (fun x => s.bf.spst.get x == .join)).isEmpty
      let s := { s with sched := { s.sched with
        sealRuns := false, sealDone := true, hold := false
        sweepSeal := if s.sweepMode then some s.absAngle else s.sched.sweepSeal } }
      if join then s.heldReleases
      else
        let s := { s with bf := { s.bf with joinHold := true, joinSince := s.time.clockNs } }
        let l := (s.sched.tasks.filter (fun (e : Nat × TaskSt) => e.2.held && e.1 < 8)).map (fun e => e.1)
        (s.each l fun s t => s.takeEffect t).dispatch
    else s

/-! ### Sweep (R118, R119) -/

/-- SWEEP_START (R118): the first start angle at least 1 CAU after the last seal. A sweep that had no seal is followed at the
next start angle, judged by the last seal there was (DESIGN CHOICE, log entry 104). -/
def execSweepStart (k : Nat) (s : State) : Host.Outcome State Fault Refusal :=
  act s fun s =>
    match s.content.sched.starts[k]? with
    | none => s
    | some ang =>
      let a := s.time.count * 65536 + ang
      let free := match s.sched.sweepSeal with | some q => Nat.blt q a | none => true
      if s.sweepMode && s.mode.cur.runs && s.sched.cur == 31 && !s.sched.sealRuns && s.sched.sweepStart.isNone && free
          && Nat.ble s.absAngle a then
        let s := ((s.advanceTo ang).outputsHere).freeze 24
        if !s.mode.cur.runs then s else
        let s := s.enterJoined
        let s := { s with sched := { s.sched with
          sweepStart := some a, audited := false, auditOk := false, intake := false, firstRel := some (24, a), noDelta := false
          sealDone := false } }
        let s := s.updTask 24 (fun t => { t with
          ready := true, lead := false, next := 0, rel := some a, deadline := some (a + s.content.sched.bound * 65536), marks := [] })
        let s := s.each [0, 1, 2] fun s x => s.updEng x (fun e => { e with
          clkTask := Sparse.set (fun _ => 0) e.clkTask 24 0
          stallTask := Sparse.set (fun _ => 0) e.stallTask 24 0 })
        s.runTask 24
      else s

/-- SWEEP_OUTPUT (R119): the messages of the last completed sweep go out, and its word is presented. -/
def execSweepOutput (k : Nat) (v : VoteOp) (s : State) : Host.Outcome State Fault Refusal :=
  act s fun s =>
    match s.content.sched.outs[k]? with
    | none => s
    | some ang => if s.sweepMode && s.mode.cur.sessions then (s.advanceTo ang).outputOnce 24 ang v else s

/-! ### Watchdog (R121, R122) -/

/-- The last finial of task t has passed comparison. -/
def State.finialPassed (s : State) (t : Nat) : Bool :=
  s.bf.barrierReady && s.sched.cur == t && Nat.ble (s.content.run t).2 ((s.task t).next + 1)

/-- The deadline of a task code whose watchdog is armed: a task's until its last finial passes comparison; of the audit in
task mode, SEAL_ANG of this cycle. -/
def State.armed (s : State) (t : Nat) : Option Nat :=
  if t = 25 then
    (if s.sched.cur = 25 && !s.sweepMode then some (s.time.count * 65536 + s.content.sched.sealAng) else none)
  else if t ≠ 24 ∧ s.finialPassed t then none
  else (s.task t).deadline

/-- spec/10 R210: two compared spires have delivered equal finial records and the third has not delivered its own: a lagging
spire, which is no overrun (R121). -/
def State.lagging (s : State) : Bool :=
  s.comparing && s.compared.length == 3 &&
    match s.compared.filterMap s.headRec with
    | [a, b] => a == b && isBarrier a
    | _ => false

/-- WATCHDOG_TRIP (R121, R122): the deadline is reached while the watchdog is still armed. A lag measured on the finial ends
at the deadline instead, with the missing stream named. -/
def execWatchdogTrip (task : Nat) (s : State) : Host.Outcome State Fault Refusal :=
  act s fun s =>
    match s.armed task with
    | some dl =>
      if s.mode.cur.runs && Nat.ble (dl / 65536) s.time.count then
        let s := if dl / 65536 = s.time.count then s.advanceTo (dl % 65536) else s
        if s.lagging then s.judgeHeads ⟨[], []⟩ else s.watchdogTrip task (dl % 65536)
      else s
    | none => s

/-- The effect of a value written to SCH_CTRL (R125). -/
def State.schCtrl (s : State) (a : Nat) : State :=
  if bitOf a 0 then
    s.each s.compared fun s x =>
      let s := (s.wr R.SWP_MAX 0 x).wr R.SCH_EVENTS 0 x
      let s := (List.range 8).foldl (fun s n => s.wr R.PT_CNT 0 n x) s
      (List.range 16).foldl (fun s n => s.wr R.ET_CNT 0 n x) s
  else s

/-- SCH_CTRL_CLR_STATS (R125). -/
def execSchCtrlClrStats (c : Svc) (v : SpireVals) (s : State) : Host.Outcome State Fault Refusal :=
  act s fun s => s.svcWriteSpires c (R.SCH_CTRL.key 0 0) v fun a s => s.schCtrl a

/-! ### Wakes (spec/19 R417) -/

/-- UNSCHEDULED_WAKE (R417): an event wakes the spire. With a task whose release waits for the wake, the angle of that release is
reached and it takes effect. -/
def execUnscheduledWake (spire : Nat) (task : Option Nat) (s : State) : Host.Outcome State Fault Refusal :=
  act s fun s =>
    let s := s.wakeSpire spire
    match task with
    | none => s
    | some t =>
      match s.sched.relq.find? (fun (e : Nat × Nat) => e.1 == t) with
      | some e => (if e.2 / 65536 = s.time.count then s.advanceTo (e.2 % 65536) else s).dueReleases
      | none => s

end Sys2Proof.Machine
end

