-- ==== Sys2Proof/Machine/Pair.lean ====
section
/-! DEFINITION. Pair operation as the standby and the active meet it (spec/11 R242 to R257, spec/21 R452): chunks taken and
applied, takeover, step-down, switch-over. -/

namespace Sys2Proof.Machine

/-- Note a role change in PAIR_LAST (R257). -/
def State.pairLast (s : State) (cause : Nat) : State :=
  (s.setFld F.PAIR_LAST_CAUSE cause).setFld F.PAIR_LAST_SEQ (s.pair.snapSeq % 2 ^ 24)

/-- Forget what has been received of deltas and copies. -/
def PairSt.dropChunks (p : PairSt) : PairSt := { p with chunks := [], buffered := [], copy := [] }

/-- R247: the standby returns to SHADOW and asks for a new copy; the cause is the check of R242 that failed, 6 for R244. -/
def State.resync (s : State) (cause : Nat) : State :=
  let s := { s with pair := { s.pair.dropChunks with copyReq := true, snapSeq := 0 } }
  let s := (s.event .pairResync srcModule cause).bump F.PAIR_EVENTS_RESYNCS
  ((s.setFld F.PAIR_STATUS_NAK 0xFFFF).setMode .shadow 7).raise 121 false 0 cause

/-! ### Applying a delta or a copy (R242, R245) -/

/-- The state of spire `x` after the entries, over its own slot or for a copy over an empty one. -/
def State.appliedTo (s : State) (x : Nat) (copy : Bool) (seq : Nat) (t : Trailer) (e : List (Nat × List Byte)) : Snapshot :=
  let own := s.snapshotOf x
  let base : SlotBytes := if copy then [] else own.slot
  let n := (base.applyAll e).toSnapshot own s.content.tokens.length s.content.transactions
  { n with seq := seq, count := t.stamp / 65536, stamp := t.stamp, img := t.id }

/-- Spire `x` takes a snapshot as its state and keeps it. -/
def State.takeState (s : State) (x : Nat) (n : Snapshot) : State :=
  (s.updSpire x (fun p => { p with mem := n.mem, keep := n.keep, pg := { p.pg with snaps := (n :: p.pg.snaps).take 64 } })).peak
    F.KP_PEAK_OPEN_MAX n.keep.openCount x

/-- The digest records at the heads of the delay registers are compared, and their barrier completes (spec/10 R213, R229). -/
def State.digestBarrier (s : State) : State :=
  if s.comparing then
    let s := s.judgeHeads ⟨[], []⟩
    if s.bf.barrierReady then s.passBarrier else s
  else s

/-- spec/06 R149, R145, spec/10 R213, R229: the audit of every compared spire on its new state, a mismatch raised in the spire
concerned; then the digest records are compared. Records that wait in the delay registers stay as they are. -/
def State.auditApplied (s : State) : State :=
  let streams := s.bf.streams
  let pos := s.bf.pos
  let s := ({ s with bf := { s.bf with streams := Three.all [], pos := 0 } }.audit).digestBarrier
  { s with bf := { s.bf with streams := streams.mapI (fun x l => if s.isCompared x then l else []), pos := pos } }

/-- R242 check 5: apply, audit, compare the digests with DIGEST. A spire that fails its audit, or whose digest the other two
outvote, is isolated, and the check holds where two spires or more are left that all have DIGEST. -/
def State.applyEntries (s : State) (copy : Bool) (seq : Nat) (t : Trailer) (e : List (Nat × List Byte)) : State × Bool :=
  let a := s.each s.compared fun s' x => s'.takeState x (s.appliedTo x copy seq t e)
  let body := s.appliedTo s.bodySpire copy seq t e
  let a := { a with sess := body.sess, txSeq := body.txSeq }.wr3 R.BT_EPOCH body.keep.bt.epoch
  let a := a.auditApplied
  (a, Nat.ble 2 a.compared.length && a.compared.all (fun x => a.kctx.digest (a.spire x).keep == t.digest))

/-- R452: the record that names the staged image, and its activation. -/
def State.takeStaged (s : State) (new : ImageContent) : State :=
  (s.writeBoot (fun b => { b with img := 1 - b.img % 2 })).activateStaged new

/-- Does the trailer name the staged image, and not the active one? -/
def State.namesStaged (s : State) (t : Trailer) : Option ImageContent :=
  match s.upd.staged with
  | some m => if m.id = t.id ∧ s.content.id ≠ t.id then some m else none
  | none => none

/-- The outcome of the checks of R242. -/
inductive DeltaEnd where
  | applied | again | failed (check : Nat)
deriving DecidableEq, Repr

/-- R242: the checks in their order on a whole delta, and its application. -/
def State.tryDelta (s : State) (w : List Chunk × Chunk) : State × DeltaEnd :=
  let t := w.2.trailer
  let seq := w.2.snapSeq
  if seq ≤ s.pair.snapSeq then (s.bump F.PAIR_REJ_OTHER, .again)
  else if t.base ≠ s.pair.snapSeq then (s, .failed 2)
  else
    let s := match s.namesStaged t with | some m => s.takeStaged m | none => s
    if t.id ≠ s.content.id then (s, .failed 3)
    else
      match allEntries w.1 t with
      | none => (s, .failed 4)
      | some e =>
        let r := s.applyEntries false seq t e
        if r.2 then
          let s := { r.1 with pair := { r.1.pair with snapSeq := seq } }
          let s := s.showDelta (w.1 ++ [w.2])
          let join := !(threeIdx (fun x => s.bf.spst.get x == .join)).isEmpty
          let copies := s.bf.copySeq.mapI (fun x (c : Option Nat) =>
            if s.bf.spst.get x == SpireState.copy && c.isNone && s.compared.length = 2 then some seq else c)
          let bf : BfSt := { s.bf with
            copySeq := copies, joinHold := s.bf.joinHold || join, joinSince := if join then s.time.clockNs else s.bf.joinSince }
          ({ s with bf := bf }.retryReint, .applied)
        else (r.1, .failed 5)

/-- The lowest seal of which all chunks and the trailer have been taken. -/
def wholeSeal (l : List Chunk) : Option (List Chunk × Chunk) :=
  let seqs := (l.map (fun k => k.snapSeq)).mergeSort
  seqs.findSome? (fun q => wholeOf (l.filter (fun k => k.snapSeq == q)))

/-- A delta that has been decided upon leaves the reception buffer, with every older one. -/
def State.doneWith (s : State) (seq : Nat) : State :=
  { s with pair := { s.pair with chunks := s.pair.chunks.filter (fun k => Nat.blt seq k.snapSeq) } }

/-- spec/19 R418: at a delta application a standby computes its vital parts up to the end of the following base cycle. -/
def State.computeAhead (s : State) : State :=
  if s.mode.cur = .standby then { s with pair := { s.pair with pre := some ⟨s.pairStatusNow, s.time.count + 1, none⟩ } } else s

/-- R242: apply a whole delta in STANDBY, or resync; where the failed audit left fewer than two compared spires the module
has halted. -/
def State.deltaStep (s : State) (w : List Chunk × Chunk) : State :=
  let r := s.wakeSpires.tryDelta w
  let s := r.1.doneWith w.2.snapSeq
  match r.2 with
  | .applied => s.computeAhead
  | .again => s
  | .failed k => if s.mode.cur = .standby then s.resync k else s

/-- DELTA_APPLY (R242): in STANDBY, once a delta has been taken whole. -/
def execDeltaApply (s : State) : Host.Outcome State Fault Refusal :=
  act s fun s =>
    if s.mode.cur = .standby && s.pair.decided.isNone then
      match wholeSeal s.pair.chunks with
      | some w => s.deltaStep w
      | none => s
    else s

/-! ### The initial copy (R245, R246) -/

/-- The buffered deltas in order, as far as SHADOW or STANDBY still stands; a delta that fails resyncs. -/
def State.applyBuffered (s : State) : State :=
  let l := s.pair.buffered
  let s := ({ s with pair := { s.pair with buffered := [], copy := [], copyReq := false } }.setMode .standby 7).gone 121
  s.each l fun s ks =>
    if s.mode.cur = .standby then (match wholeOf ks with | some w => s.deltaStep w | none => s) else s

/-- R246: a DIGEST mismatch; the third in a row ends in SAFE-HALT. -/
def State.copyFails (s : State) : State :=
  let s := (s.bump F.PAIR_COPY_DIGEST_FAIL).setFld F.PAIR_COPY_DONE 0
  let s := { s with pair := { s.pair with copy := [] } }
  if 3 ≤ s.fld F.PAIR_COPY_DIGEST_FAIL then ((s.event .pairCopyFail srcModule).safeHalt 7).raise 121 else s

/-- R245, R452: the whole copy has been taken. -/
def State.copyStep (s : State) (w : List Chunk × Chunk) : State :=
  let t := w.2.trailer
  let s := match s.namesStaged t with | some m => s.takeStaged m | none => s
  if t.id ≠ s.content.id then
    ({ s with pair := { s.pair with copy := [] } }.setFld F.PAIR_COPY_DONE 0).record .pairCopyIdentity srcModule t.id.hash t.id.version
  else
    match allEntries w.1 t with
    | none => s.copyFails
    | some e =>
      let r := s.applyEntries true w.2.snapSeq t e
      if r.2 then
        let s := { r.1 with pair := { r.1.pair with snapSeq := w.2.snapSeq } }
        ((s.setFld F.PAIR_COPY_RESTARTS 0).setFld F.PAIR_COPY_DIGEST_FAIL 0).applyBuffered
      else if r.1.mode.cur = .shadow then r.1.copyFails
      else r.1

/-- A delta chunk of SHADOW: whole deltas wait for the copy. -/
def State.bufferDeltas (s : State) : State :=
  match wholeSeal s.pair.chunks with
  | some w => { s.doneWith w.2.snapSeq with pair := { (s.doneWith w.2.snapSeq).pair with buffered := s.pair.buffered ++ [w.1 ++ [w.2]] } }
  | none => s

/-- The NAK of the own frames; a change wakes the spires (spec/19 R418). -/
def State.setNak (s : State) (n : Nat) : State :=
  if s.fld F.PAIR_STATUS_NAK = n then s else s.vitalChange.setFld F.PAIR_STATUS_NAK n

/-- The NAK of the own frames: the lowest chunk that is missing. -/
def State.showNak (s : State) : State :=
  let low := s.pair.chunks.foldl (fun m k => min m k.snapSeq) (2 ^ 32)
  let g := firstGap (s.pair.chunks.filter (fun k => k.snapSeq == low)) <|> firstGap s.pair.copy
  s.setNak (g.getD 0xFFFF)

/-- A delta chunk joins those taken. -/
def State.takeDeltaChunk (s : State) (k : Chunk) : State :=
  if s.pair.chunks.any (fun c => c.snapSeq == k.snapSeq && c.chunk == k.chunk && c.kind == k.kind) then s
  else { s with pair := { s.pair with chunks := k :: s.pair.chunks } }

/-- A copy chunk joins those taken; another seal begins the copy again (R246). -/
def State.takeCopyChunk (s : State) (k : Chunk) : State :=
  let old := s.pair.copy
  let fresh := !old.isEmpty && old.any (fun c => c.snapSeq != k.snapSeq)
  let s := if fresh then s.bump F.PAIR_COPY_RESTARTS else s
  let l := if fresh then [] else old
  let l := if l.contains k then l else k :: l
  let s := { s with pair := { s.pair with copy := l } }
  s.setFld F.PAIR_COPY_DONE (min (l.filter (fun c => c.kind == 3)).length 65535)

/-- A chunk is discarded and named in NAK. -/
def State.rejectChunk (s : State) (f : Field) (k : Chunk) : State := (s.bump f).setNak (k.chunk % 65536)

/-- PAIR_CHUNK (R242): two check values at least, the partner's SRC, a KIND that is not reserved. -/
def execPairChunk (k : Chunk) (s : State) : Host.Outcome State Fault Refusal :=
  act s fun s =>
    if (s.mode.cur = .shadow || s.mode.cur = .standby) && s.pair.decided.isNone then
      let want := k.cvOf s.content.ring.poly s.content.ring.addrA
      let n := s.triN k.cv want
      let s := s.triDone k.cv want
      if s.mode.cur ≠ .shadow && s.mode.cur ≠ .standby then s
      else if n < 2 then s.rejectChunk F.PAIR_REJ_CHECK k
      else if k.src != s.fld F.PAIR_CONF_PARTNER || k.kind == 0 || Nat.blt 4 k.kind then s.rejectChunk F.PAIR_REJ_OTHER k
      else if k.kind ≤ 2 then
        let s := s.takeDeltaChunk k
        (if s.mode.cur = .shadow then s.bufferDeltas else s).showNak
      else if s.mode.cur = .shadow then
        let s := s.takeCopyChunk k
        match wholeOf s.pair.copy with
        | some w => (s.copyStep w).showNak
        | none => s.showNak
      else s
    else s

/-! ### Takeover (R248 to R250) -/

/-- A majority of the witnesses (R248). -/
def State.witMajority (s : State) (seen : List Nat) : Bool :=
  Nat.blt (s.fld F.PAIR_CONF_WITNESSES / 2) seen.length

/-- R250 step 3: every transmit sequence number of the sealed state steps by 65,536. -/
def State.stepSeqs (s : State) : State :=
  let ids := s.content.msgs.map (fun (m : MsgDef) => m.num)
  let others := s.txSeq.filter (fun (e : Nat × Nat) => !ids.contains e.1)
  let seq (k : Nat) : Nat := (Sparse.get (fun _ => 0) s.txSeq k + 65536) % 2 ^ 32
  { s with
    txSeq := sparseOf (fun _ => 0) (ids.map (fun k => (k, seq k)) ++ others.map (fun e => (e.1, seq e.1)))
    sess := s.sess.map (fun (e : Nat × SessSt) => (e.1, { e.2 with txSeq := (e.2.txSeq + 65536) % 2 ^ 32 })) }

/-- R250 step 2: a delta that has been taken whole counts once it has passed R242. -/
def State.lastDelta (s : State) : State :=
  match wholeSeal s.pair.chunks with
  | some w => let r := s.tryDelta w; match r.2 with | .applied => r.1 | _ => s
  | none => s

/-- R250 step 4: no boundary record of the old active is held. -/
def State.dropRecords (s : State) : State :=
  { s with
    kevents := []
    sp := s.sp.mapI (fun _ p => { p with keep := { p.keep with bt := { p.keep.bt with outbox := [] } } }) }

/-- R250: the standby decides. Causes 1 and 2 take every step; cause 3 (R256) the sequence step and the record only. -/
def State.decideTakeover (s : State) (cause : Nat) : State :=
  if s.pair.decided.isSome then s
  else
    let s := if cause = 3 then s.wakeSpires else s.vitalChange
    let s := { s with pair := { s.pair with takeover := cause != 3, decided := some (cause, s.time.clockNs) } }
    let s := s.lastDelta
    let s := { s with pair := s.pair.dropChunks }.stepSeqs
    if cause = 3 then s else s.dropRecords.takeoverTokens

/-- R248: a STANDBY or SHADOW member meets one of the two cases; a member that the bench rules withhold from control of track
stays in STANDBY (spec/00 R2, R3). -/
def State.meetsTakeover (s : State) (cause : Nat) : State :=
  if s.mode.cur = .standby then (if s.time.atValid && s.mayTakeOver then s.decideTakeover cause else s)
  else if s.mode.cur = .shadow then (s.event .pairNoState srcModule cause).safeHalt 7
  else s

/-- R249: an active member steps down. -/
def State.stepDown (s : State) (cause : Nat) : State :=
  let s := (s.bump F.PAIR_EVENTS_STEPDOWNS).pairLast cause
  (s.record .pairStepDown srcModule cause (s.time.count % 2 ^ 32)).safeHalt 7

/-- PAIR_FRAMES_MISSING (R248, R249, R254): the partner's static frames have been missing in 2 consecutive rounds. -/
def execPairFramesMissing (s : State) : Host.Outcome State Fault Refusal :=
  act s fun s =>
    if s.content.pair.isSome && Nat.ble 2 s.pair.missRounds then
      let now := s.witMajority s.pair.witNow
      let prev := s.witMajority s.pair.witPrev
      match s.mode.cur with
      | .standby =>
        if now && prev then s.meetsTakeover 1
        else ((s.bump F.PAIR_EVENTS_NO_QUORUM).event .pairNoQuorum srcModule).raise 122
      | .shadow => if now && prev then s.meetsTakeover 1 else s
      | .active | .active2oo2 =>
        if !now && !prev then (s.stepDown 5).raise 122 else (s.event .pairUnprotected srcModule).raise 120
      | _ => s
    else s

/-- R250 steps 5 and 6: the role is taken. PAIR_TAKEOVER holds the SNAP_SEQ taken, the cause and COUNT (log entry 122). -/
def State.enterTakeover (s : State) (cause : Nat) : State :=
  let s := (s.bump F.PAIR_EVENTS_TAKEOVERS).pairLast cause
  let s := s.record .pairTakeover srcModule s.pair.snapSeq (cause * 2 ^ 29 + s.time.count % 2 ^ 29)
  let s := if cause = 3 then s.record .pairSwitch srcModule s.pair.snapSeq (s.time.count % 2 ^ 32) else s
  let s := { s with
    pair := { s.pair with decided := none, handover := false, copyReq := false, outq := [], copyq := [], sent := [], copySeq := none, copyEnd := none }
    bf := { s.bf with pos := 0, stopped := false } }
  (s.setFld F.PAIR_STATUS_NAK 0xFFFF).setMode (if s.compared.length = 3 then .active else .active2oo2) 7

/-- TAKEOVER_ENTRY (R250, R256): the first base-cycle boundary at least TK_PREP after the decision. -/
def execTakeoverEntry (s : State) : Host.Outcome State Fault Refusal :=
  act s fun s =>
    match s.pair.decided with
    | none => s
    | some (cause, ns) =>
      let ready := cause == 3 || Nat.ble (ns + s.content.tkPrep) s.time.clockNs
      if s.mode.cur = .standby && s.time.angle = 0 && ready && s.mayTakeOver then s.enterTakeover cause else s

/-! ### What a partner's pair status does (R237, R244, R248, R249, R256) -/

/-- Acts on the partner's pair status in a good static frame of it. -/
def State.takePairStatus (s : State) (p : PairStatus) : State :=
  let old := s.pair.partner
  let s := { s with pair := { s.pair with partner := p, missRounds := 0 } }
  if s.mode.cur.track then
    if p.takeover then s.stepDown 4
    else
      let s := if old.mode = 6 ∧ p.mode = 5 then ((s.event .pairResync srcModule).bump F.PAIR_EVENTS_RESYNCS).raise 121 else s
      let s := if old.mode = 6 ∧ p.mode ≠ 6 then (s.event .pairUnprotected srcModule).raise 120 else s
      let s := if p.mode = 6 then (s.gone 120).gone 121 else s
      let s := match s.pair.switching with
        | some (_, q) => if p.mode = 6 ∧ q ≤ p.seq then { s with pair := { s.pair with switchReady := true, handover := true } } else s
        | none => s
      s.servePartner p
  else if p.handover then s.meetsTakeover (if p.mode = 7 ∨ p.mode = 8 then 3 else 2)
  else if s.mode.cur = .standby ∧ (p.mode = 7 ∨ p.mode = 8) ∧ s.pair.snapSeq + 3 ≤ p.seq ∧ s.pair.decided.isNone then s.resync 6
  else s

/-! ### Switch-over (R256) -/

/-- The partner is in STANDBY with three spires in COMPARED. -/
def State.maySwitch (s : State) : Bool :=
  s.mode.cur.track && s.partnerStandby && s.pair.partner.compared == 7 && s.pair.switching.isNone

/-- PAIR_SWITCH (R256). The seal that the switch waits for is that of the current cycle. -/
def execPairSwitch (c : Svc) (s : State) : Host.Outcome State Fault Refusal :=
  act s fun s => s.authorised c cmdPairSwitch 0 0 [.maintainer] State.maySwitch fun x s =>
    { s with pair := { s.pair with switching := some (x.sid, (s.pair.snapSeq + 1) % 2 ^ 32), switchReady := false } }

/-- The second base-cycle boundary after seal q has come. -/
def State.twoAfterSeal (s : State) (q : Nat) : Bool :=
  (s.spire s.bodySpire).pg.snaps.any (fun n => n.seq == q && Nat.ble (n.count + 2) s.time.count)

/-- PAIR_SWITCH_TIMEOUT (R256): 2 boundaries after the seal the report has not come: refused, nothing changes. -/
def execPairSwitchTimeout (s : State) : Host.Outcome State Fault Refusal :=
  act s fun s =>
    match s.pair.switching with
    | some (sid, q) =>
      if !s.pair.switchReady && s.twoAfterSeal q then
        let p : PairSt := { s.pair with switching := none, handover := false }
        { s with pair := p }.emit (.refusal sid (svcCode cmdPairSwitch))
      else s
    | none => s

/-- R256 step 3: at the boundary the member enters STANDBY with its state at the seal, its voted word all zeros. -/
def State.switchOver (s : State) : State :=
  match s.pair.switching with
  | some (_, q) =>
    if s.pair.switchReady && s.mode.cur.track then
      let s := s.stopTasks
      let back (p : Spire) : Spire := match p.pg.snaps.find? (fun n => n.seq == q) with
        | some n => { p with mem := n.mem, keep := n.keep }
        | none => p
      let snap := (s.spire s.bodySpire).pg.snaps.find? (fun n => n.seq == q)
      let pr : PairSt := { s.pair.dropChunks with
        switching := none, switchReady := false, handover := false, takeover := false, snapSeq := q, copyReq := false
        outq := [], copyq := [], sent := [], copySeq := none, copyEnd := none }
      let s := { s with sp := s.sp.mapI (fun _ p => back p), pair := pr }
      let s := match snap with | some n => { s with sess := n.sess, txSeq := n.txSeq } | none => s
      let s := s.record .pairSwitch srcModule q (s.time.count % 2 ^ 32)
      (s.pairLast 3).setMode .standby 7
    else s
  | none => s

/-- The registers that PAIR_CTRL.CLR_CNT clears (R257). -/
def State.pairClear (s : State) : State := ((s.wr R.PAIR_DMAX 0).wr R.PAIR_EVENTS 0).wr R.PAIR_REJ 0

/-- PAIR_CTRL.CLR_CNT (R257). -/
def execPairCtrlClrCnt (c : Svc) (s : State) : Host.Outcome State Fault Refusal := act s fun s => s.svcWrite c State.pairClear

end Sys2Proof.Machine
end

