-- ==== Sys2Proof/Machine/RingOps.lean ====
section
/-! DEFINITION. What the ring meanings share (spec/12, spec/13): the node of a ring, slots and vital parts, the
weathervane's change of master (spec/02 R43), COUNT (spec/02 R34, R35), acceptance of vital parts. Ring β when independent
has a node of its own; a duplicate β acts on the node of ring α and has slot counts and delays of its own (R260). -/

namespace Sys2Proof.Machine

/-! ### The node of a ring -/


/-- Ring β exists. -/
def State.betaUsed (s : State) : Bool := s.img.isSome && (s.content.ring.beta == 1 || s.content.ring.beta == 2)


/-- Change that node. -/
def State.updNode (s : State) (b : Bool) (f : RingSt → RingSt) : State :=
  if b && s.betaIndep then { s with ringB := f s.ringB } else { s with ring := f s.ring }

/-- Where a ring's slot counts and delays stand. -/
def State.counts (s : State) (b : Bool) : RingSt := if b then s.ringB else s.ring

/-- Change a slot's counts EMPTY, INVALID, TRUNC, CLASH of a ring. -/
def State.updSlot (s : State) (b : Bool) (slot : Nat) (f : Nat × Nat × Nat × Nat → Nat × Nat × Nat × Nat) : State :=
  let g (r : RingSt) : RingSt := { r with slots := Sparse.upd (fun _ => (0, 0, 0, 0)) r.slots slot f }
  if b then { s with ringB := g s.ringB } else { s with ring := g s.ring }

/-- Change what stands per ring, also of a duplicate β. -/
def State.updCounts (s : State) (b : Bool) (f : RingSt → RingSt) : State :=
  if b then { s with ringB := f s.ringB } else { s with ring := f s.ring }

/-- What a ring has brought in a slot in this round. -/
def RingSt.seen (r : RingSt) (slot : Nat) : Option SlotSeen := (r.slotSeen.find? (fun e => e.1 == slot)).map (fun e => e.2)

/-- R278: something came in a slot; an accepted frame counts before one that failed or was cut off. -/
def State.see (s : State) (b : Bool) (slot : Nat) (x : SlotSeen) : State :=
  s.updCounts b fun r =>
    match r.seen slot with
    | none => { r with slotSeen := (slot, x) :: r.slotSeen }
    | some _ => if x = .accepted then { r with slotSeen := (slot, x) :: r.slotSeen.filter (fun e => e.1 != slot) } else r

/-- R269: the frame of a slot counts as invalid after all. -/
def State.spoil (s : State) (b : Bool) (slot : Nat) : State :=
  s.updCounts b fun r => { r with slotSeen := (slot, .invalid) :: r.slotSeen.filter (fun e => e.1 != slot) }

/-- R260: a valid copy of a slot has been taken in this round, from either ring where β duplicates α. -/
def State.slotTaken (s : State) (b : Bool) (slot : Nat) : Bool :=
  (s.counts b).seen slot == some .accepted || (s.betaUsed && !s.betaIndep && (s.counts (!b)).seen slot == some .accepted)

/-- One more, at most 16 bits. -/
def inc16 (n : Nat) : Nat := min (n + 1) 65535

def slotEmpty (c : Nat × Nat × Nat × Nat) : Nat × Nat × Nat × Nat := (inc16 c.1, c.2)
def slotInvalid (c : Nat × Nat × Nat × Nat) : Nat × Nat × Nat × Nat := (c.1, inc16 c.2.1, c.2.2)
def slotTrunc (c : Nat × Nat × Nat × Nat) : Nat × Nat × Nat × Nat := (c.1, c.2.1, inc16 c.2.2.1, c.2.2.2)
def slotClash (c : Nat × Nat × Nat × Nat) : Nat × Nat × Nat × Nat := (c.1, c.2.1, c.2.2.1, inc16 c.2.2.2)


/-- Its time-master rank; none without one. -/
def State.tmRank (s : State) (b : Bool) : Option Nat :=
  let k := if b && s.betaIndep then s.content.ring.tmB else s.content.ring.tmA
  if k < 4 then some k else none

/-- The active schedule of a ring. -/
def State.ringSched (s : State) (b : Bool) : Option RingSched := s.content.scheds[(s.node b).sched]?

/-- The owner of a slot; none without one. -/
def State.slotOwner (s : State) (b : Bool) (slot : Nat) : Option Nat :=
  match s.ringSched b with
  | some g => if slot < g.nslots then (match g.owners[slot]? with | some a => if a = 0xFFFF then none else some a | none => none) else none
  | none => none

/-- Own slots. -/
def State.ownsSlot (s : State) (b : Bool) (slot : Nat) : Bool := s.slotOwner b slot == some (s.own b)



/-- Change the entry of a node. -/
def RingSt.updPeer (r : RingSt) (a : Nat) (f : NodeSt → NodeSt) : RingSt :=
  if r.nodes.any (fun n => n.addr == a) then { r with nodes := r.nodes.map (fun n => if n.addr == a then f n else n) }
  else { r with nodes := f (NodeSt.fresh a) :: r.nodes }


/-- Modes that send no reference and start no ring (R270, R292). -/
def Mode.offRing : Mode → Bool
  | .boot | .selftest | .load | .isolated => true
  | _ => false

/-- R270: this node is eligible as time master. -/
def State.eligible (s : State) (b : Bool) : Bool :=
  (s.tmRank b).isSome && decide ((s.node b).st = .sync) && s.time.atValid && !s.mode.cur.offRing

/-- This node is time master of a ring. -/
def State.isMaster (s : State) (b : Bool) : Bool :=
  s.img.isSome && decide ((s.node b).st = .sync) && (s.node b).tm == s.own b && (s.tmRank b).isSome

/-! ### The weathervane at a change of master (spec/02 R41, R43, R45) -/

/-- R41: the locked length under a reference, ns. -/
def State.lockedLen (s : State) (k : Nat) : Nat :=
  let n := s.fld F.WV_CFG_N_CYC
  if n = 0 then 0 else s.fld F.WV_CFG_N_REF * (s.wvRef k).mean / n

/-- R41: the locked length under a reference lies within 2 % of nominal. -/
def State.inLockRange (s : State) (k : Nat) : Bool :=
  let nom := s.tbMs * 1000000
  Nat.ble (98 * nom) (100 * s.lockedLen k) && Nat.ble (100 * s.lockedLen k) (102 * nom)

/-- R41: a reference is valid, and for locking too. -/
def State.refUsable (s : State) (k : Nat) : Bool := Nat.blt k 5 && (s.wvRef k).valid && (s.wvRef k).lockOk

/-- The reference to take: the primary if usable, else the secondary. -/
def State.refPick (s : State) : Option Nat :=
  let p := s.fld F.WV_CFG_REF_PRI
  let q := s.fld F.WV_CFG_REF_SEC
  if s.refUsable p then some p else if q ≠ p ∧ s.refUsable q then some q else none

/-- Enter HOLDOVER with a held length. -/
def State.enterHoldover (s : State) (held : Nat) : State :=
  { s with wv := { s.wv with lock := .holdover, src := 7, held := held, holdNs := 0, holdLong := false, mhold := true, lockCnt := 0 } }.bump
    F.WV_EVENTS_HOLD_CNT

/-- R43, R45: the module becomes time master of ring α. -/
def State.becomeMaster (s : State) : State :=
  let s := { s with wv := { s.wv with master := true } }
  match s.refPick with
  | some r => { s with wv := { s.wv with lock := .acquire, src := r, lockCnt := 0, mhold := false } }
  | none =>
    match s.wv.ringLockedAge with
    | some n => if n ≤ 64 then s.enterHoldover s.wv.ringTb else { s with wv := { s.wv with lock := .free, src := 7, mhold := false, lockedSinceFree := false } }
    | none => { s with wv := { s.wv with lock := .free, src := 7, mhold := false, lockedSinceFree := false } }

/-- R43: the module is no longer time master: FOLLOW. -/
def State.follow (s : State) : State :=
  { s with wv := { s.wv with master := false, lock := .follow, src := 7, lockCnt := 0, ringTb := s.time.tbNs } }

/-- Take or leave the role on ring α. -/
def State.setMaster (s : State) (b : Bool) (a : Nat) : State :=
  let was := s.isMaster b
  let s := s.updNode b (fun r => { r with tm := a, tmMissing := 0 })
  let now := s.isMaster b
  if b then s else if now && !was then s.becomeMaster else if was && !now then s.follow else s

/-! ### Delays (R264, R267, R296, R311) -/

/-- The averages D_P and D_S over the latest 16 rounds with the reference on both inputs, and the last L; before the first such
round those held from before the node left the ring. -/
def RingSt.avgDelays (r : RingSt) : Option (Nat × Nat × Nat) :=
  if r.delays.isEmpty then r.heldDly
  else
    let p := r.delays.foldl (fun m e => m + e.1) 0 / r.delays.length
    let l := (r.delays.headD (0, 0, 0)).2.2
    some (p, l - p, l)

/-! ### Leaving the ring (R287, R308) -/

/-- A node goes to LISTEN: it must be admitted again. -/
def State.toListen (s : State) (b : Bool) : State :=
  let was := s.isMaster b
  let s := s.updNode b (fun r => { r with
    st := .listen, announcing := false, passive := 0, announceNs := none, pauseNs := none, admitted := false, best := none
    err := none, mute := false, unsync := 0, delays := [], heldDly := r.avgDelays, sw := .idle, voteFor := none, voteNext := none
    commitFor := none, csAttempt := 0, csClean := 0 })
  if was && !b then s.follow else s

/-- The schedule registers (R288). -/
def State.showSched (s : State) : State :=
  match s.content.scheds[s.ring.sched]? with
  | none => s
  | some d =>
    (s.wr R.RG_SCHED (s.ring.sched % 8 + d.nslots * 8 + d.slotHalf * 4096 + (2 ^ s.content.scheds.length - 1) * 16777216)).wr R.RG_SCHED2
      (d.dynMs + d.positions.length * 65536)

/-! ### COUNT (spec/02 R33 to R35) -/

/-- R294, R296: the module's time base is set in one step: COUNT, and the angle with its place on the clock. An angle of
65,536 means angle 0 of the next cycle (R36). -/
def State.setPhase (s : State) (count angle tbNs : Nat) : State :=
  { s with time := { s.time with
    count := (count + angle / 65536) % 2 ^ 48, angle := angle % 65536, tbNs := tbNs, lastNs := tbNs, corrNs := 0
    cycleNs := s.time.clockNs - (angle % 65536) * tbNs / 65536 } }

/-- Limit to ± d around p. -/
def clampNat (v p d : Nat) : Nat := min (max v (p - d)) (p + d)

/-- R42: the greatest difference between the lengths of two base cycles, ns. -/
def State.slewNs (s : State) : Nat := s.tbMs * 1000000 / 2000

/-- R42, R43, spec/12 R267: a follower's base cycle lasts as the ring's, with its own corrections, within 0.05 % of nominal
of the cycle before. -/
def State.followTb (s : State) : State :=
  if s.wv.lock = .follow then
    let want := ((s.wv.ringTb : Int) + s.time.corrNs).toNat
    { s with time := { s.time with tbNs := if s.time.lastNs = 0 then want else clampNat want s.time.lastNs s.slewNs } }
  else s

/-- R34: AT resumes once COUNT is no lower than the mark. -/
def State.resumeAt (s : State) : State :=
  if Nat.ble s.time.mark s.time.count then { s with time := { s.time with atValid := true } } else s

/-! ### Vital parts (R275, R276) -/

/-- A pair status as 64 bits (spec/11 R237). -/
def PairStatus.bits (p : PairStatus) : Nat :=
  p.mode % 16 * 2 ^ 60 + b2n p.handover * 2 ^ 59 + b2n p.takeover * 2 ^ 58 + b2n p.copyReq * 2 ^ 57 + p.compared % 8 * 2 ^ 54
    + p.nak % 65536 * 2 ^ 32 + p.seq % 2 ^ 32

/-- The header of an own frame (R273); HEALED while a port of the ring is looped (spec/13 R310). -/
def State.txHead (s : State) (b : Bool) : TxHead :=
  ⟨b, s.fwd.looped.getD (if b then 2 else 0) false || s.fwd.looped.getD (if b then 3 else 1) false, s.own b, (s.node b).sched,
    (s.node b).round, s.time.count % 2 ^ 32⟩

/-- A boundary record as sent: 32 bytes and its check values. -/
def BRec.bytes (r : BRec) : List Byte := r.body ++ beBytes 4 r.cv.a ++ beBytes 4 r.cv.b ++ beBytes 4 r.cv.c

/-- The bytes of a vital part up to its tri-signature. -/
def VitalPart.bytes (v : VitalPart) : List Byte :=
  beBytes 8 v.pair.bits ++ beBytes 4 (v.voteSched % 8 + b2n v.voteYes * 8 + b2n v.voteNo * 16 + v.voteReq % 256 * 256)
    ++ beBytes 1 v.recs.length ++ beBytes 1 v.exports.length ++ beBytes 2 0 ++ v.exports.flatMap (beBytes 4) ++ v.recs.flatMap BRec.bytes

/-- The check values of a vital part in a round of a base cycle (R276). -/
def State.vitalCv (s : State) (round : Nat) (v : List Byte) : Three Nat :=
  triSig s.content.ring.poly 0xFFFFFFFF (s.time.count % 2 ^ 23 * 512 + round) v

/-- R237, R275, R303: the pair status of the own frames; in vital parts computed ahead, the one of the delta application
(spec/19 R418). -/
def State.ownStatus (s : State) (b : Bool) : PairStatus :=
  if !(s.node b).admitted then ⟨s.mode.cur.code, false, false, false, 0, 0, 0⟩
  else if s.content.pair.isSome then (match s.pair.pre with | some p => p.status | none => s.pairStatusNow)
  else ⟨s.mode.cur.code, false, false, false, s.comparedBits, 0xFFFF, s.pair.snapSeq⟩

/-- R273: the header passes: FCS, TYPE, reserved bits. -/
def RingHdr.ok (h : RingHdr) (type : Nat) : Bool :=
  h.fcsOk && h.type == type && Nat.blt h.flags 4 && Nat.blt h.sched 8 && Nat.blt h.round 512

/-- The ring that the header names. -/
def RingHdr.beta (h : RingHdr) : Bool := bitOf h.flags 0

/-- R297: a foreign frame in an owned slot; CP_RING_ADMIT is raised with its record. -/
def State.clash (s : State) (b : Bool) (slot src : Nat) : State :=
  let show' (s : State) : State := ((s.setFld F.RG_CLASH_SLOT slot).setFlag F.RG_CLASH_RING b).setFld F.RG_CLASH_SRC src
  match (s.node b).st with
  | .integrate =>
    let s := s.updNode b (fun r => { r with st := .inhibit, announcing := false, announceNs := none, pauseNs := none })
    ((show' s).record .ringSlotClash srcComms (slot + 256 * b2n b) src).raise 90 false slot (b2n b)
  | .sync =>
    let s := s.updSlot b slot slotClash
    let s := show' s
    if (s.node b).clashRec then s
    else ((s.updNode b (fun r => { r with clashRec := true })).record .ringSlotClash srcComms (slot + 256 * b2n b) src).raise 90 false slot (b2n b)
  | _ => s

/-- R276: does a vital part pass? The check values are counted by the units (spec/15 R334). -/
def State.vitalOk (s : State) (b : Bool) (h : RingHdr) (v : VitalPart) : Bool × State :=
  let want := s.vitalCv h.round v.bytes
  let n := s.triN v.cv want
  let s := s.triDone v.cv want
  (Nat.ble 2 n && s.slotOwner b h.slot == some h.src && h.countL == s.time.count % 2 ^ 32 && h.round == (s.node b).round, s)

/-- The other member of a pair address: the next node, unless an import names it for itself (log entry 44). -/
def State.otherMember (s : State) (peer src : Nat) : Option Nat :=
  if s.content.ring.imports.any (fun (e : Nat × Nat × Nat) => e.1 == peer + 1) then none
  else if src = peer then some (peer + 1) else if src = peer + 1 then some peer else none

/-- A node showed that it controls track, and was heard in this round when `now`. -/
def RingSt.tracks (r : RingSt) (a : Nat) (now : Bool) : Bool :=
  ((r.peer a).mode == 7 || (r.peer a).mode == 8) && (!now || r.heard.contains a) && (r.heard.contains a || r.heardPrev.contains a)

/-- R280: what one import takes from a frame: the member that controls track; nothing while both do. -/
def State.importFrom (s : State) (b : Bool) (e : Nat × Nat × Nat) (old : List Nat × Nat) (src : Nat) (v : VitalPart) : List Nat × Nat :=
  let tracks := v.pair.mode == 7 || v.pair.mode == 8
  let r := s.node b
  match s.otherMember e.1 src with
  | some o =>
    if tracks && r.tracks o true then ([], 3)
    else if v.exports.length == e.2.1 && (tracks || (src == e.1 && !r.tracks o false)) then (v.exports, 0)
    else old
  | none => if src == e.1 && v.exports.length == e.2.1 then (v.exports, 0) else old

/-- R280: the imports that a sender feeds. -/
def State.takeImports (s : State) (b : Bool) (h : RingHdr) (v : VitalPart) : State :=
  let r := s.ring
  { s with ring := { r with imports := s.content.ring.imports.zipIdx.map (fun (e : (Nat × Nat × Nat) × Nat) =>
      s.importFrom b e.1 (r.imports.getD e.2 ([], 3)) h.src v) } }

/-- R286: a vote for the request in hand; a NO ends it. -/
def State.takeVote (s : State) (b : Bool) (src : Nat) (v : VitalPart) : State :=
  let r := s.node b
  let voted := v.voteYes || v.voteNo
  let s := s.updNode b (fun r => r.updPeer src (fun n => { n with
    votes := ((v.voteReq, v.voteYes && voted) :: (if r.heard.contains src then n.votes.drop 1 else n.votes)).take 2 }))
  if decide (r.sw = .voting) && v.voteNo && v.voteReq == r.swReq then
    s.updNode b (fun r => { r with sw := .idle, swResult := 2 })
  else s

/-- R171: a pair member that was admitted in STANDBY has its records taken in once the pair reports it active. -/
def State.senderActive (s : State) (v : VitalPart) (r : BRec) : Bool :=
  !s.peers.any (fun p => p.addr == r.src && p.quoteMode == 6) || v.pair.mode == 7 || v.pair.mode == 8

/-- The boundary records of an accepted frame wait for the keep (spec/06 R133, spec/07 R155, R158), in a member that controls
track; one whose sender does not count as admitted is discarded and counted. -/
def State.takeRecs (s : State) (v : VitalPart) : State :=
  if s.mode.cur.track then
    s.each v.recs fun s r =>
      if s.senderActive v r then { s with kevents := s.kevents ++ [(s.absAngle, KEvent.brec r)] }
      else s.each s.compared fun s x => s.bump F.BT_REJ_ADMIT x
  else s

/-- An accepted vital part of an admitted sender is taken (R275, R276, R303; spec/11 R237). -/
def State.takeVital (s : State) (b : Bool) (h : RingHdr) (v : VitalPart) : State :=
  let s := s.bumpReg R.RG_STATIC
  let s := if s.isAdmitted b h.src then
      let s := (s.takeVote b h.src v).takeImports b h v
      let s := s.updNode b (fun r => r.updPeer h.src (fun n => { n with mode := v.pair.mode }))
      let s := { s with peers := s.peers.map (fun (p : PeerSt) => if p.addr == h.src || p.addr + 1 == h.src then { p with reachable := true } else p) }
      let s := s.takeRecs v
      if s.content.pair.isSome && h.src == s.fld F.PAIR_CONF_PARTNER then s.takePairStatus v.pair else s
    else s
  s.updNode b (fun r => { r with heard := if r.heard.contains h.src then r.heard else h.src :: r.heard })

/-! ### Forwarding (R265; spec/13 R290, R306, R307, R310) -/

/-- The other port of a port's ring. -/
def otherPort (p : Nat) : Nat := if p % 2 = 0 then p + 1 else p - 1

/-- The output on which a frame that enters at port p goes on: primary enters west (odd) and leaves east, secondary the other
way; a lost east port loops primary onto the secondary output, a lost west port ends the path (R310). -/
def State.onward (s : State) (p : Nat) : Option Nat :=
  let o := otherPort p
  if !s.fwd.up.getD p false then none
  else if s.fwd.looped.getD o false then (if p % 2 = 1 then some p else none)
  else if s.fwd.up.getD o false then some o
  else none

/-- R265, R294, R306, R311: does this node take the frame from the ring? As time master of a closed ring every frame; in an own
slot; as a starter every cold-start frame. -/
def State.removes (s : State) (b : Bool) (slot : Option Nat) (cold : Bool) : Bool :=
  let r := s.node b
  (s.isMaster b && !(s.counts b).healed)
    || (match slot with
        | some k => s.ownsSlot b k && (r.st == .integrate || r.st == .sync || (r.st == .inhibit && r.unsync == 0))
        | none => false)
    || (cold && r.st == .coldstart)

/-- A frame that enters at port p is forwarded. -/
def State.forward (s : State) (p src slot : Nat) (static cold : Bool) : State :=
  if s.removes (Nat.ble 2 p) (if static then some slot else none) cold then s
  else match s.onward p with
    | some o => s.emit (.forwarded o src slot)
    | none => s

/-- spec/17 R388: an injection of checker 6 makes the FCS of the next frame received on its port fail. -/
def State.rxFcs (s : State) (h : RingHdr) : RingHdr × State :=
  let i := s.takeInject 6 h.port 0
  (if i.1.isSome then { h with fcsOk := false } else h, i.2)

/-! ### Gateway (spec/13 R302) -/

/-- Is this node the gateway that relays: independent β, SYNC on both rings, the lowest ring-α address? -/
def State.relays (s : State) (gws : List Nat) : Bool :=
  s.betaIndep && s.ring.st == .sync && s.ringB.st == .sync && gws.all (fun a => Nat.ble (s.own false) a)

/-- A payload of PTYPE 0x02 whose DST lies on the other ring is copied there. -/
def State.relayTo (s : State) (v : RingVia) (o : Output) : State :=
  if s.relays v.gws && v.dst / 256 == s.own (!v.beta) / 256 && v.dst / 256 != s.own v.beta / 256 then s.emit o else s

/-- R299: is a node still in SYNC: heard in this round or the last? -/
def RingSt.inSync (r : RingSt) (a : Nat) : Bool := r.heard.contains a || r.heardPrev.contains a

/-- R299: this module is system master of the ring. -/
def State.isSm (s : State) (b : Bool) : Bool :=
  s.img.isSome && decide ((s.node b).st = .sync) && s.time.atValid && Nat.blt s.content.ring.sm 4 && (s.node b).sm == s.own b

/-- R299 step 2: ask a node for its quote. -/
def State.askNode (s : State) (b : Bool) (a : Nat) (id : Option ImageId) : State :=
  if (s.node b).quotes.any (fun (q : AdmQuote) => q.addr == a) then s
  else
    let d := s.draw
    let nonce := d.1 % 2 ^ 128
    let s := d.2.emit (.quoteRequest a nonce)
    s.updNode b (fun r => { r with quotes := ⟨a, nonce, s.time.clockNs, id⟩ :: r.quotes })

/-- HEALED in an accepted frame (R311, R312): the loop's nodes. -/
def State.noteHealed (s : State) (b : Bool) (h : RingHdr) : State :=
  s.updCounts b (fun r =>
    if bitOf h.flags 1 then
      { r with healSeen := true, healNodes := if r.healNodes.contains h.src then r.healNodes else h.src :: r.healNodes }
    else { r with healNodes := r.healNodes.filter (fun a => a != h.src) })

end Sys2Proof.Machine
end

