-- ==== Sys2Proof/Machine/Ring.lean ====
section
/-! DEFINITION. Rounds, slots, frames and time of the Dytre ring (spec/12). -/

namespace Sys2Proof.Machine

/-! ### Round start (R262, R278, R286, R287; spec/11 R248, spec/13 R311, spec/14 R323) -/

/-- R323 of spec/14: the time-stamp latches of the channels are taken at a round start. -/
def State.latchCan (s : State) : State :=
  { s with can := sparseOf (fun _ => CanCh.idle) (s.content.can.map (fun (c : CanChDef) =>
      let x := Sparse.get (fun _ => CanCh.idle) s.can c.ch
      (c.ch, { x with prevLatch := x.latch, latch := (s.canTs c.ch, s.atNow) }))) }

/-- R278, spec/13 R305: how a slot counts in which no frame was accepted. -/
def missed : Option SlotSeen → Nat × Nat × Nat × Nat → Nat × Nat × Nat × Nat
  | none => slotEmpty
  | some .accepted => id
  | some .invalid => slotInvalid
  | some .cut => slotTrunc

/-- R278: the slots of the other nodes in the ended round, counted by every node that receives. -/
def State.countMissed (s : State) (b : Bool) : State :=
  let s := if (s.node b).st == .listen || (s.node b).st == .coldstart then s
    else s.each (List.range (((s.ringSched b).map RingSched.nslots).getD 0)) fun s k =>
      match s.slotOwner b k with
      | none => s
      | some o => if o = s.own b then s else s.updSlot b k (missed ((s.counts b).seen k))
  s.updCounts b (fun r => { r with slotSeen := [] })

/-- Link and frame counts of the ports of a ring (spec/13 R309, R312). -/
def State.countPorts (s : State) (b : Bool) (o : RoundOp) : State :=
  let mine (p : Nat) : Bool := (Nat.ble 2 p) == b
  let old (l : List Nat) (p : Nat) : Nat := l.getD p 0
  let r := s.ring
  let silent := (List.range 4).map (fun p => if mine p then (if o.frames.getD p false then 0 else old r.portSilent p + 1) else old r.portSilent p)
  let up := (List.range 4).map (fun p =>
    if mine p then (if r.lost.getD p false && o.links.getD p false then old r.portUp p + 1 else 0) else old r.portUp p)
  let s := { s with ring := { r with portSilent := silent, portUp := up } }
  s.each ((List.range 4).filter mine) fun s p => s.setFlag ⟨R.RG_PORT, 8 * p + 2, 1⟩ (o.links.getD p false)

/-- The pair's and the peers' view of the round that ended (spec/11 R248, spec/07 R175, spec/00 R3). -/
def State.closeRound (s : State) : State :=
  let heard := s.ring.heard ++ (if s.betaIndep then s.ringB.heard else [])
  let prev := s.ring.heardPrev ++ (if s.betaIndep then s.ringB.heardPrev else [])
  let wits := match s.content.pair with | some p => p.witnesses.filter heard.contains | none => []
  let seen := heard.contains (s.fld F.PAIR_CONF_PARTNER)
  let pr : PairSt := { s.pair with
    missRounds := if seen then 0 else s.pair.missRounds + 1, witPrev := s.pair.witNow, witNow := wits }
  let near (a : Nat) : Bool := (heard ++ prev).contains a || (heard ++ prev).contains (a + 1)
  let upd (p : PeerSt) : PeerSt :=
    if near p.addr then { p with reachable := true } else { p with reachable := false, lostNs := if p.reachable then s.time.clockNs else p.lostNs }
  let gone := s.mode.benchBlock && Nat.ble 2 (s.ring.peer s.mode.benchAddr).silent
  let r := if s.mode.benchBlock then s.ring.updPeer s.mode.benchAddr id else s.ring
  { s with
    ring := r
    pair := pr, peers := s.peers.map upd
    mode := if gone then { s.mode with benchBlock := false, benchAddr := 0 } else s.mode }

/-- R286: every node heard in both of the last rounds voted YES in both. -/
def RingSt.allYes (r : RingSt) : Bool :=
  (r.heard.filter r.heardPrev.contains).all (fun a => (r.peer a).votes == [(r.swReq, true), (r.swReq, true)])

/-- R311, R312: healed timing from the round start after a frame with HEALED was accepted; closed-ring rules again after no frame
shows it and this node loops no port. -/
def State.healStep (s : State) (b : Bool) : State :=
  let r := s.counts b
  let own := (if b then [2, 3] else [0, 1]).any (fun p => s.fwd.looped.getD p false)
  if !r.healed && r.healSeen then (s.updCounts b (fun r => { r with healed := true })).bump F.RG_HEAL_HEALS
  else if r.healed && r.healNodes.isEmpty && !own then
    (s.updCounts b (fun r => { r with healed := false, healSeen := false, healPorts := [] })).event .ringRestored srcComms
      (r.healPorts.foldl (fun m p => m + 2 ^ p) 0)
  else s

/-- R310: at the first round start after a loss the node loops, or ends the path. -/
def State.loopStep (s : State) (b : Bool) : State :=
  s.each (if b then [2, 3] else [0, 1]) fun s p =>
    if s.ring.lost.getD p false && !s.fwd.looped.getD p false then
      let s := s.updCounts b (fun r => { r with loopRound := true, healPorts := p :: r.healPorts.filter (fun q => q != p) })
      ({ s with fwd := { s.fwd with looped := s.fwd.looped.set p true } }).event .ringHealed srcComms (2 ^ p)
    else s

/-- R272: the system master as the time master names it in its reference frames: the lowest SM rank in SYNC, itself included. -/
def State.smNow (s : State) (b : Bool) (ranks : List (Nat × Nat)) : Nat :=
  let r := s.node b
  let mine := if s.time.atValid && Nat.blt s.content.ring.sm 4 then [(s.own b, s.content.ring.sm)] else []
  let l := mine ++ ranks.filter (fun e => r.inSync e.1)
  match [0, 1, 2, 3].findSome? (fun k => l.find? (fun e => e.2 == k)) with
  | some e => e.1
  | none => r.sm

/-- What a node does with its counts as the round ends. -/
def RingSt.nextRound (r : RingSt) (round : Nat) : RingSt :=
  { r with
    round := round
    heardPrev := r.heard, heard := [], refsPrev := r.heardRefs, heardRefs := [], best := none, txClosed := false, resBytes := 0
    msc := 1, sfdNow := false, sfdLast := false
    tmMissing := if r.heardRefs.contains r.tm then 0 else r.tmMissing + 1
    swRounds := r.swRounds + 1, voteFor := r.voteNext
    nodes := r.nodes.map (fun (n : NodeSt) =>
      let n := if r.heard.contains n.addr then { n with silent := 0 } else { n with silent := n.silent + 1, votes := [] }
      if r.heardRefs.contains n.addr then n else { n with refCycles := 0 })
    imports := r.imports.map (fun (e : List Nat × Nat) => (e.1, e.2 + 1)) }

/-- spec/19 R418: vital parts computed ahead end with the base cycle that they reach, or with the first round that starts once a
change may show. -/
def State.vitalRound (s : State) : State :=
  match s.pair.pre with
  | some p =>
    if p.upTo < s.time.count || p.since.any (fun t => Nat.ble t s.time.clockNs) then { s with pair := { s.pair with pre := none } } else s
  | none => s

/-- R286, R287: the vote is counted by the time master; a reference of another schedule sends a synchronised node back to
LISTEN. -/
def State.schedStep (s : State) (b : Bool) : State :=
  let r := s.node b
  let s := if decide (r.sw = .voting) && Nat.ble 3 r.swRounds && r.allYes then s.updNode b (fun r => { r with sw := .committed }) else s
  match r.best with
  | some q => if r.st = .sync ∧ q.sched ≠ r.sched then s.toListen b else s
  | none => s

/-- ROUND_START (R262): ring round j begins at the angle of R31. -/
def execRoundStart (o : RoundOp) (s : State) : Host.Outcome State Fault Refusal :=
  act s fun s =>
    if s.img.isNone || (o.beta && !s.betaUsed) then s
    else
      let b := o.beta
      let s := s.advanceTo (s.roundAngle o.round)
      let s := (s.countMissed b).countPorts b o
      let s := ((s.updCounts b (fun r => { r with loopRound := false })).loopStep b).healStep b
      if b && !s.betaIndep then s
      else
        let s := if b then s else s.vitalRound.closeRound.latchCan
        let s := s.setFld F.RG_DYN_RES_BYTES (min (s.node b).resBytes F.RG_DYN_RES_BYTES.max)
        let s := s.schedStep b
        let sm := if s.isMaster b then s.smNow b o.smRanks else (s.node b).sm
        let s := s.updNode b (fun r => { r.nextRound o.round with sm := sm })
        let s := if !b && s.betaUsed && !s.betaIndep then { s with ringB := { s.ringB with best := none } } else s
        if b then s else (s.leaveIntegrate false).connectIdle

/-! ### Own static slots (R263, R270, R275, R279, R303) -/

/-- R279: the export words now. -/
def State.exportNow (s : State) (b : Bool) : List Nat :=
  if !(s.node b).admitted then []
  else if s.mode.cur.track then s.ring.exports else List.replicate s.content.ring.exw 0

/-- The vital part of the own frames, without check values; the records that leave in it. -/
def State.ownVital (s : State) (b reference : Bool) : State × VitalPart :=
  let room := if (s.node b).admitted then s.brecRoomIn (s.node b).sched reference else 0
  let q := s.sendBoundaryIn room (fun a => a / 256 == s.own b / 256)
  let v := (s.node b).voteFor
  let target := (v.map (fun e => e.1)).getD 0
  let yes := (s.content.scheds[target]?).isSome
  (q.1, ⟨s.ownStatus b, target, v.isSome && yes, v.isSome && !yes, (v.map (fun e => e.2)).getD 0, s.exportNow b, q.2, Three.all 0⟩)

/-- R274: the reference block that the node of a rank sends. -/
def State.ownBlock (s : State) (b : Bool) (rank : Nat) : RefBlock :=
  let r := s.node b
  let jump := if s.isMaster b && !b then s.time.jumpTo else none
  { rank := rank, hold := s.wv.mhold, req := r.sw == .voting && Nat.ble 1 r.swRounds, commit := r.sw == .committed
    atJump := jump.isSome
    wvState := s.wv.lock.code, reqSched := if r.sw = .idle then 0 else r.swTarget, reqNo := r.swReq
    countH := s.time.count / 2 ^ 32, tbNs := s.time.tbNs, loopNs := s.rd (if b then R.RG_LOOP_B else R.RG_LOOP_A) % 2 ^ 20
    jumpCount := jump.getD 0, smAddr := r.sm }

/-- R298: the integration frame: HWID without the HDT code bits, the active image, the mark, the serial number. -/
def State.sendIntegration (s : State) (b : Bool) (slot : Nat) : State :=
  let id : ImageId := match s.img with | some m => m.id | none => ⟨0, 0⟩
  let hwid := s.fld F.HW_ID_PRODUCT * 65536 + s.fld F.HW_ID_REV * 256 + s.fld F.HW_ID_BENCH
  let f := beBytes 4 hwid ++ beBytes 4 id.version ++ beBytes 8 id.hash ++ beBytes 8 s.time.mark ++ beBytes 8 s.serial
  let cv := s.maskCv (s.vitalCv (s.node b).round f)
  (s.emit (.integrationFrame (s.txHead b) slot hwid id s.time.mark s.serial cv)).triSent

/-- STATIC_SLOT_TRANSMIT (R263, spec/13 R298, R303): in SYNC the static frame, or in the rank's slot of an eligible node the
reference frame; while not admitted an integration frame, and as time master the reference frame in the rank's slot. -/
def State.sendSlot (s : State) (b : Bool) (slot : Nat) : State :=
  let r := s.node b
  let reference := s.tmRank b == some slot && s.eligible b
  let vital (s : State) : State :=
    let q := s.ownVital b reference
    let v := { q.2 with cv := q.1.maskCv (q.1.vitalCv r.round q.2.bytes) }
    let s := (q.1.emit (.staticFrame (s.txHead b) slot (if reference then some (s.ownBlock b slot) else none) v)).triSent
    if reference then
      s.updNode b (fun r => { r with
        heardRefs := if r.heardRefs.contains (s.own b) then r.heardRefs else s.own b :: r.heardRefs
        commitFor := if r.sw = .committed then some r.swTarget else r.commitFor })
    else s
  if r.mute || r.txClosed then s
  else
    match r.st with
    | .sync => if r.admitted || (reference && s.isMaster b) then vital s else s.sendIntegration b slot
    | .integrate => if r.announcing then s.sendIntegration b slot else s
    | _ => s

def execStaticSlotTransmit (beta : Bool) (slot : Nat) (s : State) : Host.Outcome State Fault Refusal :=
  act s fun s => if s.img.isSome && s.ownsSlot beta slot then s.sendSlot beta slot else s

/-! ### Dynamic segment (R281 to R283) -/

/-- R281: MSC after what a node sees: one more at the end of a mini-slot without a frame start; after a frame its POS, or
POS + 1 with LAST. R282: in which mini-slots an SFD has been seen. -/
def RingSt.mini (r : RingSt) : MiniEv → RingSt
  | .idle => { r with msc := r.msc + 1, sfdLast := r.sfdNow, sfdNow := false }
  | .frame _ _ pos last =>
    if last then { r with msc := pos + 1, sfdLast := true, sfdNow := false }
    else { r with msc := pos, sfdNow := true }

/-- The pair chunks of a reserved position, as far as they fit BYTES and the segment. Answers the state, their lengths, the bytes
sent and the room left. -/
def State.sendChunks (s : State) (cap : Nat) : Nat → List Nat → Nat → Nat → State × List Nat × Nat × Nat
  | 0, l, sent, room => (s, l, sent, room)
  | n + 1, l, sent, room =>
    match s.nextChunk (min (cap - sent) (room - 64)) with
    | none => (s, l, sent, room)
    | some k => (s.sendChunk k).sendChunks cap n (l ++ [k.size]) (sent + k.size) (room - k.size - 44)

/-- Payloads in order while they fit. -/
def fitPayloads (cap room : Nat) : List Nat → List Nat
  | [] => []
  | x :: l => if x ≤ 4128 ∧ x ≤ cap ∧ x + 44 ≤ room then x :: fitPayloads (cap - x) (room - x - 44) l else []

/-- The frames of a position in order, LAST on the final one. -/
def State.sendFrames (s : State) (b : Bool) (pos : Nat) (l : List Nat) : State :=
  s.each l.zipIdx fun s e => s.emit (.dynamicFrame (s.txHead b) pos e.1 (e.2 + 1 == l.length))

/-- The bytes of a quote on the ring: MSG, 3 reserved bytes, the quote (spec/20 R432). -/
def quoteBytes : Nat := 1028

/-- The quotes that wait for a position on a ring (spec/20 R433). -/
def State.quotesFor (s : State) (b : Bool) : List Quote :=
  s.att.ringOut.filter (fun q => match q.path with | .ring _ v => (v.beta && s.betaIndep) == b | _ => false)

/-- Quotes leave at the position. -/
def State.sendQuotes (s : State) (l : List Quote) : State :=
  s.each l fun s q => { s with att := { s.att with ringOut := s.att.ringOut.erase q } }.emit (.quote q)

/-- R282: the owner's frames at a position: one at an unreserved position, else as many as BYTES admits, LAST on the final
one. A frame that does not fit, a pair chunk too, waits and is counted. -/
def State.sendDynamic (s : State) (d : DynOp) (owner cap : Nat) : State :=
  let pairPos := s.content.pair.isSome && owner == s.content.pairAddr && s.mode.cur.track && cap != 0
  let q := if pairPos then s.sendChunks cap 512 [] 0 d.roomBytes else (s, [], 0, d.roomBytes)
  let late := pairPos && !(q.1.pair.outq.isEmpty && q.1.pair.copyq.isEmpty)
  let limit := if cap = 0 then 4128 else cap - q.2.2.1
  let own := s.quotesFor d.beta
  let all := own.map (fun _ => quoteBytes) ++ d.bytes
  let want := if cap = 0 then all.take 1 else all
  let fit := if late then [] else fitPayloads limit q.2.2.2 want
  let s := q.1.sendFrames d.beta d.pos (q.2.1 ++ fit)
  let s := s.sendQuotes (own.take fit.length)
  let s := s.bumpBy F.RG_DYN_DEFER (want.length - fit.length + b2n late)
  let s := if q.2.1 = [] ∧ fit = [] then s else s.updNode d.beta (fun r => r.mini (.frame 0 0 d.pos true))
  if cap = 0 then s
  else s.updNode d.beta (fun r => { r with resBytes := r.resBytes + q.2.2.1 + fit.foldl (· + ·) 0 })

/-- The node sees the segment go on; the frames pass it (R265). -/
def State.seeMini (s : State) (b : Bool) (e : MiniEv) : State :=
  let s := s.updNode b (fun r => r.mini e)
  match e with
  | .idle => s
  | .frame port src _ _ => s.forward port src 0 false false

/-- DYNAMIC_TRANSMIT (R281, R282): the mini-slots seen, and the own frames of the position that MSC has reached. -/
def execDynamicTransmit (d : DynOp) (s : State) : Host.Outcome State Fault Refusal :=
  act s fun s =>
    let s := s.each d.seen (fun s e => s.seeMini d.beta e)
    let r := s.node d.beta
    let slot := match s.ringSched d.beta with | some g => g.positions[d.pos - 1]? | none => none
    match slot with
    | none => s
    | some (owner, cap) =>
      let mine := owner == s.own d.beta || (s.content.pair.isSome && owner == s.content.pairAddr && s.mode.cur.track)
      if mine && decide (r.st = .sync) && r.admitted && !r.mute && !r.txClosed && r.msc == d.pos && !r.sfdNow && !r.sfdLast && d.pos != 0
      then s.sendDynamic d owner cap else s

/-! ### Received frames (R269, R273 to R280; spec/13 R289, R296, R297, R305) -/

/-- R260, R276, R278: the vital part of a frame in another node's slot: the first valid copy of the round is taken, and each ring
counts what came. -/
def State.takeFrame (s : State) (b : Bool) (h : RingHdr) (v : VitalPart) : State :=
  if (s.counts b).seen h.slot == some .accepted then s
  else
    let first := !s.slotTaken b h.slot
    let q := s.vitalOk b h v
    if q.1 then (if first then q.2.takeVital b h v else q.2).see b h.slot .accepted else q.2.see b h.slot .invalid

/-- STATIC_FRAME (R276, R278). -/
def execStaticFrame (f : StaticFrame) (s : State) : Host.Outcome State Fault Refusal :=
  act s fun s =>
    let rx := s.rxFcs f.hdr
    let h := rx.1
    let b := h.beta
    let s := rx.2.forward h.port h.src h.slot true false
    if s.img.isNone || (b && !s.betaUsed) then s
    else if s.ownsSlot b h.slot then
      if h.src = s.own b ∧ h.fcsOk then s
      else if h.fcsOk then (s.see b h.slot .invalid).clash b h.slot h.src
      else s.see b h.slot .invalid
    else if (s.slotOwner b h.slot).isNone then s
    else if f.trunc then s.see b h.slot .cut
    else if !h.ok 1 then s.see b h.slot .invalid
    else
      let s := s.noteHealed b h
      match (s.node b).st with
      | .sync | .integrate | .inhibit => s.takeFrame b h f.vital
      | _ => s

/-- COUNT in a reference frame. -/
def RefFrame.count (f : RefFrame) : Nat := (f.block.countH * 2 ^ 32 + f.hdr.countL) % 2 ^ 48

/-- R296: entry to INTEGRATE from an accepted reference: with an invalid AT the round start and the phase are taken in one
step; the time after the round start becomes an angle by R36. COUNT is adopted at the first boundary after the node is
synchronised (spec/02 R35). -/
def State.joinFrom (s : State) (b : Bool) (f : RefFrame) : State :=
  let slotNs := ((s.content.scheds[f.hdr.sched]?).map (fun (g : RingSched) => g.slotHalf * 500)).getD 0
  let angle := s.roundAngle f.hdr.round + angleOf (f.block.rank * slotNs + 556) (s.tbMs * 1000000)
  let s := if b || s.time.atValid then s else s.setPhase f.count angle f.block.tbNs
  let s := if b then s else { s with time := { s.time with adopt := true } }
  let s := s.updNode b (fun r => { r with
    st := .integrate, announcing := false, passive := 0, sched := f.hdr.sched, round := f.hdr.round, tm := f.hdr.src, unsync := 0
    mute := false, errPrev := 0, delays := [], heldDly := r.avgDelays, tmMissing := 0 })
  let s := s.setFld F.RG_CS_WINNER f.hdr.src
  if b then s else s.follow.showSched

/-- R269, R274: what the used reference gives: T_B, the holdover flag, the system master, the switch request, a COUNT jump. -/
def State.useBlock (s : State) (b : Bool) (k : RefBlock) (count : Nat) : State :=
  let s := s.updNode b (fun r => { r with
    sm := k.smAddr
    voteNext := if k.req then some (k.reqSched, k.reqNo) else none
    commitFor := if k.commit then some k.reqSched else r.commitFor })
  if b || s.isMaster b then s
  else
    let wv : WvSt := { s.wv with
      mhold := k.hold, ringTb := k.tbNs, ringCount := some count
      ringLockedAge := if k.wvState == 2 then some 0 else s.wv.ringLockedAge }
    let s := ({ s with wv := wv }).followTb
    if k.atJump && Nat.blt s.time.count k.jumpCount then { s with time := { s.time with jumpTo := some k.jumpCount } } else s

/-- What is kept of an accepted reference. -/
def RefFrame.ref (f : RefFrame) : BestRef :=
  ⟨f.block.rank, f.hdr.src, f.count, f.hdr.round, f.hdr.sched, f.tP, f.tS, f.block.loopNs⟩

/-- R269: two references disagree in COUNT, ROUND or schedule. -/
def BestRef.odds (p q : BestRef) : Bool := q.count != p.count || q.round != p.round || q.sched != p.sched

/-- An accepted reference in INTEGRATE, SYNC or INHIBIT: the lowest rank of the round is used; of two that disagree the higher
counts as invalid (R269). A duplicate β keeps its own stamps, and its reference serves where α brought none so low (R260). -/
def State.takeReference (s : State) (b : Bool) (f : RefFrame) : State :=
  let me := f.ref
  let dup := b && !s.betaIndep
  let s := s.updNode b (fun r => { r with heardRefs := if r.heardRefs.contains f.hdr.src then r.heardRefs else f.hdr.src :: r.heardRefs })
  let lower (q : Option BestRef) : Bool := match q with | none => true | some q => me.rank < q.rank
  let s := if dup && lower s.ringB.best then { s with ringB := { s.ringB with best := some me } } else s
  let s := match (s.node b).best with
    | none => s
    | some q => if me.odds q && q.rank != me.rank then s.spoil b (if q.rank < me.rank then f.hdr.slot else q.rank) else s
  if lower (s.node b).best then
    (s.updNode b (fun r => { r with best := some (if dup then { me with tP := none, tS := none } else me) })).useBlock b f.block f.count
  else if dup then s
  else
    match (s.node b).best with
    | some q => if q.rank = me.rank ∧ q.tP = none ∧ q.tS = none then s.updNode b (fun r => { r with best := some me }) else s
    | none => s

/-- The sender's entry in the bookkeeping of TIME_MASTER_RETURN; a system master asks a node that it has not admitted for its
quote (spec/13 R299). -/
def State.noteSender (s : State) (b : Bool) (a : Nat) : State :=
  let s := s.updNode b (fun r => r.updPeer a id)
  if s.isSm b && ((s.node b).peer a).admitted.isNone then s.askNode b a none else s

/-- R274, R294, R311: the time master measures L from the return of its own reference: on a healed ring L_E, at its secondary
input. -/
def State.measureLoop (s : State) (b : Bool) (f : RefFrame) : State :=
  let slotNs := ((s.ringSched b).map (fun (g : RingSched) => g.slotHalf * 500)).getD 0
  match (if (s.counts b).healed then f.tS else f.tP <|> f.tS) with
  | some t => s.wr (if b then R.RG_LOOP_B else R.RG_LOOP_A) ((t - (f.block.rank * slotNs + 556)) % 2 ^ 20 + 2 ^ 31)
  | none => s

/-- The ports at which a reference frame entered: primary west, secondary east; where no input accepted it, the port given. -/
def RefFrame.inputs (f : RefFrame) : List Nat :=
  let k := b2n f.hdr.beta * 2
  let l := (if f.tP.isSome then [k + 1] else []) ++ (if f.tS.isSome then [k] else [])
  if l.isEmpty then [f.hdr.port] else l

/-- spec/17 R388: an injection of checker 6 takes the stamp of its input away; where no input is left the FCS fails. -/
def State.rxRef (s : State) (f : RefFrame) : RefFrame × State :=
  f.inputs.foldl (fun (a : RefFrame × State) p =>
    let i := a.2.takeInject 6 p 0
    if i.1.isNone then a
    else
      let g := if p % 2 = 1 then { a.1 with tP := none } else { a.1 with tS := none }
      (if g.tP.isNone && g.tS.isNone then { g with hdr := { g.hdr with fcsOk := false } } else g, i.2)) (f, s)

/-- REFERENCE_FRAME (R269, R274, spec/13 R289, R296). -/
def execReferenceFrame (f : RefFrame) (s : State) : Host.Outcome State Fault Refusal :=
  act s fun s =>
    let rx := s.rxRef f
    let l := f.inputs
    let f := rx.1
    let h := f.hdr
    let b := h.beta
    let s := rx.2.each l (fun s p => s.forward p h.src h.slot true false)
    if s.img.isNone || (b && !s.betaUsed) then s
    else if h.src = s.own b ∧ h.ok 2 then (if s.isMaster b then s.measureLoop b f else s)
    else if s.ownsSlot b h.slot && h.fcsOk && decide ((s.node b).st != .listen) then (s.see b h.slot .invalid).clash b h.slot h.src
    else if !h.ok 2 then s.see b h.slot .invalid
    else if (s.content.scheds[h.sched]?).isNone then
      if (s.node b).st = .listen ∧ !(s.node b).absent.contains h.sched then
        (s.updNode b (fun r => { r with absent := h.sched :: r.absent })).record .ringSchedAbsent srcComms h.sched h.src
      else s
    else
      let s := (s.noteHealed b h).noteSender b h.src
      match (s.node b).st with
      | .listen | .coldstart => if f.tP.isSome || f.tS.isSome then (s.joinFrom b f).takeReference b f else s
      | _ => (s.takeFrame b h f.vital).takeReference b f

/-! ### Synchronisation (R267, R268; spec/13 R311) -/

/-- Limit to ± n. -/
def limitInt (e : Int) (n : Int) : Int := if e < -n then -n else if n < e then n else e

/-- R267: e of the round, and the delays after it. `slotNs` is the slot length. -/
def RingSt.error (r : RingSt) (slotNs : Nat) : Option Int × List (Nat × Nat × Nat) :=
  match r.best with
  | none => (none, r.delays)
  | some q =>
    let x : Int := 556
    match q.tP, q.tS with
    | some p, some t =>
      if q.rank = 0 then
        let dP : Int := if r.healed then ((q.loopNs : Int) - ((t : Int) - p)) / 2 else ((q.loopNs : Int) + p - t) / 2
        let l := ((dP.toNat, (q.loopNs : Int) - dP |>.toNat, q.loopNs) :: r.delays).take 16
        let avg : Int := ((l.foldl (fun m e => m + e.1) 0 / l.length : Nat) : Int)
        let dS : Int := (q.loopNs : Int) - avg
        (some ((((p : Int) - avg) + ((t : Int) - dS)) / 2 - x), l)
      else
        match r.avgDelays with
        | some d => (some ((p : Int) - d.1 - ((q.rank * slotNs : Nat) + x)), r.delays)
        | none => (none, r.delays)
    | some p, none =>
      match r.avgDelays with
      | some d => (some ((p : Int) - d.1 - ((q.rank * slotNs : Nat) + x)), r.delays)
      | none => (none, r.delays)
    | none, some t =>
      match r.avgDelays with
      | some d =>
        let dS : Int := if r.healed then (q.loopNs : Int) + d.2.1 else d.2.1
        (some ((t : Int) - dS - ((q.rank * slotNs : Nat) + x)), r.delays)
      | none => (none, r.delays)
    | none, none => (none, r.delays)

/-- D_P, D_S and L as a node that is not time master uses them: on a healed ring, with the reference on the secondary input only,
those of the third row of R311. -/
def RingSt.delaysNow (r : RingSt) : Option (Int × Int × Nat) :=
  r.avgDelays.map fun d =>
    match r.healed, r.best with
    | true, some q => if q.tP.isNone && q.tS.isSome then ((d.1 : Int) - d.2.2, (q.loopNs : Int) + d.2.1, q.loopNs) else (d.1, d.2.1, d.2.2)
    | _, _ => (d.1, d.2.1, d.2.2)

/-- The registers of delays and loop of a ring; the time master of a healed ring shows 0 and L_E (R311). -/
def State.showDelays (s : State) (b : Bool) : State :=
  let r := s.counts b
  let put (s : State) (r : Reg) (n : Int) (v : Bool) : State := s.wr r ((n % 2 ^ 20).toNat + b2n v * 2 ^ 31)
  let v := Nat.ble 16 r.delays.length
  let two (s : State) (p t : Int) (v : Bool) : State :=
    put (put s (if b then R.RG_DLY_PB else R.RG_DLY_PA) p v) (if b then R.RG_DLY_SB else R.RG_DLY_SA) t v
  if s.isMaster b then
    if r.healed then two s 0 (s.rd (if b then R.RG_LOOP_B else R.RG_LOOP_A) % 2 ^ 20 : Nat) true else s
  else
    match r.delaysNow with
    | none => s
    | some d => put (two s d.1 d.2.1 v) (if b then R.RG_LOOP_B else R.RG_LOOP_A) d.2.2 v

/-- R296, R289: an own slot was not empty in the round. -/
def State.ownSlotUsed (s : State) (b : Bool) : Bool :=
  (s.counts b).slotSeen.any (fun e => s.ownsSlot b e.1)

/-- R311: the round in which the loop is first set does not count as unsynchronised. -/
def RingSt.loopExempt (r : RingSt) : Bool := r.loopRound || (r.healSeen && !r.healed)

/-- R267, R268: the correction of offset and rate, and whether the round was synchronised. `exempt`: under R311 it does not count
as unsynchronised; `used`: an own slot was not empty, so it is no round of R289's eight. -/
def RingSt.correct (r : RingSt) (e : Option Int) (l : List (Nat × Nat × Nat)) (trMs : Nat) (exempt used : Bool) : RingSt :=
  let odd := match e with | none => true | some x => decide (250 < x.natAbs)
  let bad := odd && !exempt
  let r := match e with
    | none => r
    | some x => { r with
        offset := r.offset - limitInt x 1000
        rate := limitInt (r.rate - (x - r.errPrev) * 1000 / trMs) 200000
        errPrev := x }
  { r with
    err := e, delays := l, mute := bad, unsync := if bad then r.unsync + 1 else if odd then r.unsync else 0
    passive := if r.st = .integrate ∧ !r.announcing then (if odd || used then 0 else min (r.passive + 1) 63) else r.passive }

/-- R267, R260: e of the round and the delays of the ring; a duplicate β gives e where α gives none. -/
def State.ringError (s : State) (b : Bool) (slotNs : Nat) : Option Int × State :=
  let q := (s.node b).error slotNs
  let dup := !b && s.betaUsed && !s.betaIndep
  let w := s.ringB.error slotNs
  let s := s.updNode b (fun r => { r with delays := q.2 })
  if dup then (q.1 <|> w.1, { s with ringB := { s.ringB with delays := w.2 } }) else (q.1, s)

/-- SYNC_CORRECTION (R267, R268): once per round, in the NIT. The time master's own e is 0. -/
def execSyncCorrection (beta : Bool) (s : State) : Host.Outcome State Fault Refusal :=
  act s fun s =>
    let r := s.node beta
    if s.img.isNone || (beta && !s.betaIndep) || r.st == .listen || r.st == .coldstart then s
    else
      let slotNs := ((s.ringSched beta).map (fun (g : RingSched) => g.slotHalf * 500)).getD 0
      let q := if s.isMaster beta then (some 0, s) else s.ringError beta slotNs
      let exempt := (s.counts beta).loopExempt
      let used := s.ownSlotUsed beta
      let s := q.2.updNode beta (fun r => r.correct q.1 r.delays s.trMs exempt used)
      let s := if beta || s.isMaster beta then s
        else
          match q.1 with
          | none => s
          | some e => ({ s with time := { s.time with corrNs := s.time.corrNs + limitInt e 1000 } }).followTb
      if !beta && s.betaUsed && !s.betaIndep then (s.showDelays beta).showDelays true else s.showDelays beta

/-! ### Masters (R271) -/

/-- The rank of a node: the slot 0 to 3 that it owns and sends references in. -/
def State.rankOf (s : State) (b : Bool) (a : Nat) : Option Nat :=
  (if a = s.own b then s.tmRank b else none) <|> [0, 1, 2, 3].find? (fun k => s.slotOwner b k == some a)

/-- The lowest-ranked of the nodes in a list. -/
def State.lowestRank (s : State) (b : Bool) (l : List Nat) : Option Nat :=
  [0, 1, 2, 3].findSome? (fun k => l.find? (fun a => s.rankOf b a == some k))

/-- R286: a change of time master ends a vote (result 4 at the new master); a commit is carried on. -/
def State.newMaster (s : State) (b : Bool) (a : Nat) : State :=
  let was := s.isMaster b
  let s := s.setMaster b a
  let r := s.node b
  if s.isMaster b && !was then
    s.updNode b (fun r => { r with
      sw := if r.commitFor.isSome then .committed else .idle
      swTarget := match r.commitFor with | some c => c | none => r.swTarget
      swReq := match r.voteFor with | some v => v.2 | none => r.swReq
      swResult := if r.voteFor.isSome && r.commitFor.isNone then 4 else r.swResult
      voteFor := none, voteNext := none })
  else if was && !s.isMaster b && decide (r.sw = .voting) then s.updNode b (fun r => { r with sw := .idle })
  else s

/-- TIME_MASTER_TAKEOVER (R271): the master's reference has been missing in 2 consecutive rounds. -/
def execTimeMasterTakeover (beta : Bool) (s : State) : Host.Outcome State Fault Refusal :=
  act s fun s =>
    let r := s.node beta
    if s.img.isSome && (!beta || s.betaIndep) && Nat.ble 2 r.tmMissing && r.tm != s.own beta && r.st == .sync then
      let cand := (r.heardRefs ++ r.refsPrev).filter (fun a => a != r.tm) ++ (if s.eligible beta then [s.own beta] else [])
      match s.lowestRank beta cand with
      | some a => s.newMaster beta a
      | none => s
    else s

/-- TIME_MASTER_RETURN (R271): at a base-cycle boundary a node of a lower rank takes the role back after 16 base cycles. -/
def execTimeMasterReturn (beta : Bool) (s : State) : Host.Outcome State Fault Refusal :=
  act s fun s =>
    let r := s.node beta
    if s.img.isSome && (!beta || s.betaIndep) && s.time.angle == 0 && r.st == .sync then
      let cand := (r.nodes.filter (fun (n : NodeSt) => Nat.ble 16 n.refCycles)).map (fun (n : NodeSt) => n.addr)
      match s.lowestRank beta cand, s.rankOf beta r.tm with
      | some a, some k => (match s.rankOf beta a with | some j => if j < k then s.newMaster beta a else s | none => s)
      | _, _ => s
    else s

/-! ### Schedule switch (R286, R287) -/

/-- RING_SWITCH (R286), on ring α. -/
def execRingSwitch (c : Svc) (sched : Nat) (s : State) : Host.Outcome State Fault Refusal :=
  let result (n : Nat) (s : State) : State := { s with ring := { s.ring with swResult := n } }
  let known (s : State) : Bool := (s.content.scheds[sched]?).isSome && sched != s.ring.sched
  act s fun s =>
    match s.svcFind c with
    | none => s
    | some x =>
      if x.role == .engineer && !s.isMaster false then ((result 5 s).svcTouch c).refuse x (svcCode cmdRingSwitch) 5
      else if x.role == .engineer && s.ring.sw == .idle && !known s then ((result 6 s).svcTouch c).refuse x (svcCode cmdRingSwitch) 6
      else s.authorised c cmdRingSwitch sched 0 [.engineer] (fun s => s.ring.sw == .idle) fun _ s =>
        { s with ring := { s.ring with
          sw := .voting, swTarget := sched, swReq := (s.ring.swReq + 1) % 256, swRounds := 0
          nodes := s.ring.nodes.map (fun (n : NodeSt) => { n with votes := [] }) } }

/-- RING_SWITCH_TIMEOUT (R286): 4 rounds after the first round carrying REQ, the one after the command, without commit. -/
def execRingSwitchTimeout (s : State) : Host.Outcome State Fault Refusal :=
  act s fun s =>
    if s.ring.sw = .voting ∧ 5 ≤ s.ring.swRounds then { s with ring := { s.ring with sw := .idle, swResult := 3 } } else s

/-- R286, R287: the boundary after a round whose reference carried COMMIT. -/
def State.switchSched (s : State) (b : Bool) : State :=
  match (s.node b).commitFor with
  | none => s
  | some k =>
    let master := decide ((s.node b).sw = .committed)
    let s := s.updNode b (fun r => { r with commitFor := none, voteFor := none, voteNext := none, sw := .idle, swResult := if master then 1 else r.swResult })
    if (s.content.scheds[k]?).isSome then
      if (s.node b).sched = k then s
      else
        let s := (s.updNode b (fun r => { r with sched := k })).record .ringSchedSwitch srcComms k (s.time.count % 2 ^ 32)
        if b then s else s.showSched
    else ((s.record .ringSchedAbsent srcComms k (s.node b).tm).toListen b)

/-! ### Optics and counters -/

/-- SFP_INSERT (R258): a port with a qualified SFP is used; another, or none, is disabled and raises the ring fault. -/
def execSfpInsert (o : SfpOp) (s : State) : Host.Outcome State Fault Refusal :=
  act s fun s =>
    if 4 ≤ o.port then s
    else
      let p := o.port
      let qual := o.optic == 1 || o.optic == 2
      let used := Nat.blt p 2 || s.betaUsed
      let s := s.setFlag ⟨R.RG_PORT, 8 * p, 1⟩ (o.optic != 0)
      let s := s.setFlag ⟨R.RG_PORT, 8 * p + 1, 1⟩ qual
      let s := s.setFlag ⟨R.RG_PORT, 8 * p + 2, 1⟩ (qual && o.link)
      let s := s.setFlag ⟨R.RG_PORT, 8 * p + 3, 1⟩ (qual && used)
      let s := s.setFld ⟨R.RG_PORT, 8 * p + 4, 2⟩ (min o.optic 3)
      let s := { s with fwd := { s.fwd with up := s.fwd.up.set p (qual && used) } }
      if qual then s else s.raise 88 false p (min o.optic 3)

/-- The counts that RG_CTRL.CLR_CNT clears (R288). -/
def State.rgClear (s : State) : State :=
  let s := (s.wr R.RG_STATIC 0).setFld F.RG_DYN_DEFER 0
  let z (r : RingSt) : RingSt := { r with slots := sparseOf (fun _ => (0, 0, 0, 0)) (r.slots.map (fun (e : Nat × (Nat × Nat × Nat × Nat)) => (e.1, (0, 0, e.2.2.2.1, e.2.2.2.2)))) }
  { s with ring := z s.ring, ringB := z s.ringB }

/-- RG_CTRL.CLR_CNT (R288). -/
def execRgCtrlClrCnt (c : Svc) (s : State) : Host.Outcome State Fault Refusal := act s fun s => s.svcWrite c State.rgClear

end Sys2Proof.Machine
end

