-- ==== Sys2Proof/Machine/RingStart.lean ====
section
/-! DEFINITION. Cold start, joining, admission, guardians and healing of the Dytre ring (spec/13), and the rule for bench
modules on a ring (spec/00 R3). -/

namespace Sys2Proof.Machine

/-! ### Cold start (R291 to R295) -/

/-- R291: this node may start the ring. -/
def State.mayStart (s : State) (b : Bool) : Bool :=
  s.img.isSome && (s.tmRank b).isSome && !s.mode.cur.offRing && (if b then s.betaIndep && s.content.ring.cs == 2 else s.content.ring.cs == 1 || s.content.ring.cs == 2)

/-- R293: the cold-start frame of an attempt. -/
def State.sendColdstart (s : State) (b : Bool) : State :=
  s.emit (.coldstartFrame (s.txHead b) ((s.tmRank b).getD 0) (s.node b).csAttempt (s.tbMs * 1000000))

/-- R294: the starter begins a base cycle at angle 0, with COUNT from AT where that is valid, otherwise from the mark. The
cycle that begins is the next one unless ANGLE is 0 already, so AT never goes back (spec/02 R33); its length goes towards
nominal by no more than spec/02 R42 allows (log entry 95). -/
def State.startCycle (s : State) : State :=
  let next := if s.time.angle = 0 then 0 else 65536
  let nom := s.tbMs * 1000000
  s.setPhase (if s.time.atValid then s.time.count else s.time.mark) (if s.time.atValid then next else 0)
    (if s.time.tbNs = 0 then nom else clampNat nom s.time.tbNs s.slewNs)

/-- COLDSTART_TRIGGER (R292, R294): the listen time has ended without a frame. -/
def execColdstartTrigger (beta : Bool) (s : State) : Host.Outcome State Fault Refusal :=
  act s fun s =>
    let r := s.node beta
    if s.mayStart beta && r.st == .listen && r.csBlock == 0 then
      let s := if beta then s else s.startCycle
      let s := s.updNode beta (fun r => { r with st := .coldstart, csAttempt := 1, csClean := 0, round := 0 })
      let s := (s.setFld F.RG_CS_ATTEMPT 1).event .ringCsStart srcComms
      s.sendColdstart beta
    else s

/-- COLDSTART_FRAME (R294, R295): a starter that receives one from another SRC has met a collision, and leaves when that
address is lower. -/
def execColdstartFrame (f : CsFrame) (s : State) : Host.Outcome State Fault Refusal :=
  act s fun s =>
    let rx := s.rxFcs f.hdr
    let f := { f with hdr := rx.1 }
    let b := f.hdr.beta
    let s := rx.2.forward f.hdr.port f.hdr.src f.hdr.slot true true
    if s.img.isSome && (!b || s.betaIndep) && f.hdr.ok 4 && (s.node b).st == .coldstart && f.hdr.src != s.own b then
      let s := s.bump F.RG_CS_COLLISIONS
      if f.hdr.src < s.own b then
        let s := s.updNode b (fun r => { r with st := .listen, csClean := 0 })
        s.record .ringCsCollision srcComms (s.own b) f.hdr.src
      else s.updNode b (fun r => { r with csClean := 0 })
    else if s.img.isSome && (!b || s.betaIndep) && f.hdr.ok 4 && f.hdr.src != s.own b && s.ownsSlot b f.hdr.slot then
      s.clash b f.hdr.slot f.hdr.src
    else s

/-- The starter becomes time master (R289, R294). -/
def State.startWins (s : State) (b : Bool) (loopNs : Nat) : State :=
  let back := (s.node b).lostSync
  let s := s.updNode b (fun r => { r with
    st := .sync, csClean := 0, unsync := 0, mute := false, lostSync := false, tm := s.own b, tmMissing := 0 })
  let s := if back then (s.bump F.RG_LOSS_REJOINED).gone 89 else s
  let s := (s.setFld F.RG_CS_WINNER (s.own b)).wr (if b then R.RG_LOOP_B else R.RG_LOOP_A) (loopNs % 2 ^ 20 + 2 ^ 31)
  if b then s else if s.resumeAt.isMaster b then s.resumeAt.becomeMaster else s.resumeAt

/-- COLDSTART_ROUND (R289, R294): a clean round, or the end of the attempt. -/
def execColdstartRound (r : CsRound) (s : State) : Host.Outcome State Fault Refusal :=
  act s fun s =>
    let b := r.beta
    let n := s.node b
    if s.img.isSome && (!b || s.betaIndep) && n.st == .coldstart then
      if r.ownBack && !r.foreign then
        if 1 ≤ n.csClean then s.startWins b r.loopNs
        else (s.updNode b (fun q => { q with csClean := 1 })).sendColdstart b
      else if n.csAttempt < 16 then
        let s := s.updNode b (fun q => { q with csAttempt := q.csAttempt + 1, csClean := 0 })
        (s.setFld F.RG_CS_ATTEMPT (s.node b).csAttempt).sendColdstart b
      else
        (s.updNode b (fun q => { q with st := .listen, csClean := 0, csBlock := s.time.clockNs + 64 * s.roundNs })).event .ringCsFail srcComms
    else s

/-- COLDSTART_BACKOFF_END (R289): 64 T_R have passed. -/
def execColdstartBackoffEnd (beta : Bool) (s : State) : Host.Outcome State Fault Refusal :=
  act s fun s => s.updNode beta (fun r => { r with csBlock := 0 })

/-! ### Joining and admission (R296 to R303) -/

/-- INTEGRATE_ANNOUNCE (R289, R296): 8 synchronised passive rounds, with delays of a closed ring. -/
def execIntegrateAnnounce (beta : Bool) (s : State) : Host.Outcome State Fault Refusal :=
  act s fun s =>
    let r := s.node beta
    if r.st == .integrate && !r.announcing && Nat.ble 8 r.passive && r.avgDelays.isSome && r.pauseNs.isNone then
      s.updNode beta (fun r => { r with announcing := true, announceNs := some s.time.clockNs })
    else s


/-- The check values of an integration frame (R298). -/
def IntegFrame.bytes (f : IntegFrame) : List Byte :=
  beBytes 4 f.hwid ++ beBytes 4 f.version ++ beBytes 8 f.idHash ++ beBytes 8 f.mark ++ beBytes 8 f.serial

/-- INTEGRATION_FRAME (R297, R298, R299). -/
def execIntegrationFrame (f : IntegFrame) (s : State) : Host.Outcome State Fault Refusal :=
  act s fun s =>
    let rx := s.rxFcs f.hdr
    let h := rx.1
    let b := h.beta
    let s := rx.2.forward h.port h.src h.slot true false
    if s.img.isNone || (b && !s.betaIndep) then s
    else if s.ownsSlot b h.slot && h.src != s.own b && h.fcsOk then (s.see b h.slot .invalid).clash b h.slot h.src
    else if !h.ok 5 || s.slotOwner b h.slot != some h.src then s.see b h.slot .invalid
    else
      let want := s.vitalCv h.round f.bytes
      let n := s.triN f.cv want
      let s := s.triDone f.cv want
      if n < 2 then s.see b h.slot .invalid
      else
        let s := ((s.noteHealed b h).see b h.slot .accepted).updNode b (fun r => r.updPeer h.src (fun p => { p with mark := f.mark % 2 ^ 48, silent := 0, bench := bitOf f.hwid 0 }))
        if s.isSm b then s.askNode b h.src (some ⟨f.idHash, f.version⟩) else s

/-- The bytes 0 to 27 of an admission message (R300). -/
def AdmMsg.bytes (m : AdmMsg) : List Byte :=
  beBytes 1 m.msg ++ beBytes 1 m.cause ++ beBytes 2 m.subject ++ beBytes 4 m.version ++ beBytes 8 m.idHash ++ beBytes 8 m.stamp ++ beBytes 4 0

/-- The check values of an admission message (R300). -/
def State.admissionCv (s : State) (m : AdmMsg) : Three Nat :=
  triSig s.content.ring.poly m.subject (m.stamp / 65536 % 2 ^ 32) m.bytes

/-- R35: the time master advances COUNT to the mark of a node that has been admitted. -/
def State.markJump (s : State) (b : Bool) (a : Nat) : State :=
  let mark := ((s.node b).peer a).mark
  if !b && s.isMaster b && Nat.blt s.time.count mark then { s with time := { s.time with jumpTo := some (max mark (s.time.jumpTo.getD 0)) } } else s

/-- R171 of spec/07: what the system master reports of a boundary peer. At an integration of the peer a fresh quote is needed, and
asked for. -/
def State.noteRingAdmitted (s : State) (a : Nat) (ok : Bool) : State :=
  let mine (p : PeerSt) : Bool := p.addr == a || p.addr + 1 == a
  let anew := (s.peers.filter (fun p => mine p && ok && !p.ringAdmitted)).map PeerSt.addr
  let s := { s with peers := s.peers.map (fun (p : PeerSt) =>
      if mine p then { p with ringAdmitted := ok, quoteNs := if anew.contains p.addr then none else p.quoteNs } else p) }
  let s := s.each anew fun s p => s.askQuote p
  s.each ((s.peers.filter mine).map PeerSt.addr) fun s p => if ok then s.admitPeer p else s.lapsePeer p 1

/-- ADMIT for a node is taken (R289, R299). -/
def State.takeAdmit (s : State) (b : Bool) (a : Nat) : State :=
  let c := s.time.count
  let s := (s.updNode b (fun r => r.updPeer a (fun n => { n with admitted := some c }))).markJump b a
  let s := s.noteRingAdmitted a true
  if a = s.own b then
    let r := s.node b
    if r.st == .integrate && r.announcing then
      let s := if r.lostSync then (s.bump F.RG_LOSS_REJOINED).gone 89 else s
      let s := s.gone 90
      s.updNode b (fun r => { r with st := .sync, announcing := false, announceNs := none, admitted := true, lostSync := false })
    else if r.st == .sync then s.updNode b (fun r => { r with admitted := true })
    else s
  else s

/-- REFUSE for a node is taken (R289). -/
def State.takeRefuse (s : State) (b : Bool) (a cause : Nat) : State :=
  let s := (s.updNode b (fun r => r.updPeer a (fun n => { n with admitted := none }))).noteRingAdmitted a false
  if a = s.own b then
    let r := s.node b
    let s := s.setFld F.RG_INTEG_CAUSE cause
    if r.st == .integrate && r.announcing then
      let s := s.updNode b (fun r => { r with st := .inhibit, announcing := false, announceNs := none })
      (s.record .ringAdmitRefused srcComms cause a).raise 90 false (b2n b) cause
    else s.updNode b (fun r => { r with admitted := false })
  else s

/-- ADMISSION_MESSAGE (R300): two check values, SRC the system master, COUNT within 2 base cycles. A gateway copies it
unchanged into its other ring (R302). -/
def execAdmissionMessage (m : AdmMsg) (s : State) : Host.Outcome State Fault Refusal :=
  act s fun s =>
    let b := m.beta
    if s.img.isNone || (b && !s.betaIndep) then s
    else
      let s := if s.relays m.gws && (m.msg == 1 || m.msg == 2) then s.emit (.relayAdmission (!b) m) else s
      let want := s.admissionCv m
      let n := s.triN m.cv want
      let s := s.triDone m.cv want
      let c := m.stamp / 65536
      if 2 ≤ n ∧ m.src = (s.node b).sm ∧ c ≤ s.time.count + 2 ∧ s.time.count ≤ c + 2 then
        if m.msg = 1 then s.takeAdmit b m.subject
        else if m.msg = 2 then s.takeRefuse b m.subject m.cause
        else s
      else s


/-- The system master's decision (R299) about the quoted image `id`: broadcast, and taken by itself. -/
def State.broadcast (s : State) (b : Bool) (msg cause subject : Nat) (id : ImageId) : State :=
  let m : AdmMsg := ⟨[], b, s.own b, msg, cause, subject, id.version, id.hash, s.atNow, Three.all 0⟩
  let s := (s.emit (.admission { m with cv := s.maskCv (s.admissionCv m) })).triSent
  let s := s.updNode b (fun r =>
    { r.updPeer subject (fun n => { n with quoted := id }) with quotes := r.quotes.filter (fun (q : AdmQuote) => q.addr != subject) })
  if msg = 1 then s.takeAdmit b subject else s.takeRefuse b subject cause

/-- RING_ADMIT_TIMEOUT (R300): 10 s without ADMIT or REFUSE. -/
def execRingAdmitTimeout (beta : Bool) (s : State) : Host.Outcome State Fault Refusal :=
  act s fun s =>
    let r := s.node beta
    if r.st == .integrate && r.announcing then
      let s := s.updNode beta (fun r => { r with announcing := false, announceNs := none, pauseNs := some s.time.clockNs })
      (s.bump F.RG_INTEG_TIMEOUTS).event .ringAdmitTimeout srcComms
    else s

/-- ANNOUNCE_PAUSE_END (R300). -/
def execAnnouncePauseEnd (beta : Bool) (s : State) : Host.Outcome State Fault Refusal :=
  act s fun s =>
    let r := s.node beta
    if r.st == .integrate && r.pauseNs.isSome then
      s.updNode beta (fun r => { r with announcing := true, announceNs := some s.time.clockNs, pauseNs := none })
    else s


/-- The repetition on one ring, and the quotes that a new system master asks of the nodes it has not checked. -/
def State.repeatAdmits (s : State) (b : Bool) : State :=
  if s.isSm b then
    let r := s.node b
    let fresh := r.smSince.isNone
    let s := s.updNode b (fun r => { r with smSince := some s.time.count })
    let s := s.each r.nodes fun s n => if n.admitted.isSome && (n.addr == s.own b || r.inSync n.addr) then s.broadcast b 1 0 n.addr n.quoted else s
    let s := s.each r.nodes fun s n => if (fresh || n.admitted.isNone) && r.inSync n.addr then s.askNode b n.addr none else s
    if fresh || !r.admitted then s.askNode b (s.own b) none else s
  else s.updNode b (fun r => { r with smSince := none })

/-- ADMIT_REPEAT (R299): every 64 base cycles. -/
def execAdmitRepeat (s : State) : Host.Outcome State Fault Refusal :=
  act s fun s =>
    let s := s.repeatAdmits false
    if s.betaIndep then s.repeatAdmits true else s

/-- ADMISSION_QUOTE_TIMEOUT (R300): no quote within 2 s. -/
def execAdmissionQuoteTimeout (addr : Nat) (s : State) : Host.Outcome State Fault Refusal :=
  let due (b : Bool) (s : State) : Bool := s.isSm b && (s.node b).quotes.any (fun (q : AdmQuote) => q.addr == addr)
  act s fun s =>
    if due false s then s.broadcast false 2 3 addr ⟨0, 0⟩
    else if s.betaIndep && due true s then s.broadcast true 2 3 addr ⟨0, 0⟩
    else s

/-- PEER_QUOTE_REQUEST (spec/07 R171, spec/11 R235). -/
def execPeerQuoteRequest (addr : Nat) (s : State) : Host.Outcome State Fault Refusal := act s fun s => s.askQuote addr

/-! ### Loss of synchronisation (R308) -/

/-- RING_SYNC_LOST (R308): 4 consecutive unsynchronised rounds. -/
def execRingSyncLost (beta : Bool) (s : State) : Host.Outcome State Fault Refusal :=
  act s fun s =>
    let r := s.node beta
    if (r.st == .sync || r.st == .integrate) && Nat.ble 4 r.unsync then
      let s := (s.bump F.RG_LOSS_LOST).event .ringSyncLost srcComms
      ((s.toListen beta).updNode beta (fun r => { r with lostSync := true })).raise 89 false (b2n beta)
    else s

/-! ### Guardians (R304 to R306) -/

/-- R306, R307: the forwarding windows of a ring apply; in the other states only frames that are too long are cut. -/
def State.windowed (s : State) (b : Bool) : Bool :=
  let r := s.node b
  r.st == .integrate || r.st == .sync || (r.st == .inhibit && r.unsync == 0)

/-- GUARDIAN_TRUNCATE (R304 to R306): a frame is cut or not forwarded, or the window is closed for the rest of the round. -/
def execGuardianTruncate (g : GuardEv) (s : State) : Host.Outcome State Fault Refusal :=
  act s fun s =>
    let b := Nat.ble 2 g.port
    if 4 ≤ g.port then s
    else if g.own then
      if g.kind = 4 then (s.updNode b (fun r => { r with txClosed := true })).bump F.RG_GTX_CLOSED
      else (s.bump F.RG_GTX_TRUNC).emit (.violation g.port)
    else
      match g.kind with
      | 0 => if s.windowed b then s.bump F.RG_GFWD_EARLY g.port else s
      | 1 => if s.windowed b then s.bump F.RG_GFWD_LATE g.port else s
      | 2 => (s.bump F.RG_GFWD_LONG g.port).emit (.violation g.port)
      | 3 => if s.windowed b then s.bump F.RG_GFWD_NIT g.port else s
      | _ => s

/-! ### Healing (R309 to R312) -/


/-- R309: LINK is 0, or no frame in 2 consecutive rounds while the other port has received some. -/
def State.portGone (s : State) (p : Nat) : Bool :=
  s.fld ⟨R.RG_PORT, 8 * p + 2, 1⟩ == 0 || (Nat.ble 2 (s.ring.portSilent.getD p 0) && s.ring.portSilent.getD (otherPort p) 0 == 0)

/-- PORT_LOST (R309): the loop or the path end follows at the next round start (R310). -/
def execPortLost (port : Nat) (s : State) : Host.Outcome State Fault Refusal :=
  act s fun s =>
    let b := Nat.ble 2 port
    if port < 4 && (s.node b).st == .sync && s.portGone port && !s.ring.lost.getD port false then
      let s := { s with ring := { s.ring with lost := s.ring.lost.set port true } }.raise 88 false port
      if s.ring.lost.getD (otherPort port) false && (!b || s.betaIndep) then s.toListen b else s
    else s

/-- RING_RESTORED (R312): at the next base-cycle boundary after 64 rounds with LINK the loop or path end is removed. -/
def execRingRestored (port : Nat) (s : State) : Host.Outcome State Fault Refusal :=
  act s fun s =>
    if port < 4 && s.ring.lost.getD port false && Nat.ble 64 (s.ring.portUp.getD port 0) && s.time.angle == 0 then
      let r := s.ring
      let s := { s with
        ring := { r with lost := r.lost.set port false, portUp := r.portUp.set port 0 }
        fwd := { s.fwd with looped := s.fwd.looped.set port false } }
      if s.ring.lost.any id then s else s.gone 88
    else s

/-- The counts that RG_GCTRL.CLR_CNT clears (R313). -/
def State.rgGClear (s : State) : State :=
  let s := ((s.setFld F.RG_CS_COLLISIONS 0).setFld F.RG_INTEG_TIMEOUTS 0).wr R.RG_GTX 0
  let s := s.each [0, 1, 2, 3] fun s p => s.wr R.RG_GFWD 0 p
  let s := (s.setFld F.RG_HEAL_HEALS 0).wr R.RG_LOSS 0
  let z (r : RingSt) : RingSt := { r with slots := sparseOf (fun _ => (0, 0, 0, 0)) (r.slots.map (fun (e : Nat × (Nat × Nat × Nat × Nat)) => (e.1, (e.2.1, e.2.2.1, 0, 0)))) }
  { s with ring := z s.ring, ringB := z s.ringB }

/-- RG_GCTRL.CLR_CNT (R313). -/
def execRgGctrlClrCnt (c : Svc) (s : State) : Host.Outcome State Fault Refusal := act s fun s => s.svcWrite c State.rgGClear

/-! ### Bench modules (spec/00 R3) -/

/-- BENCH_RING_JOIN (R3): a module with bench flag 0 integrates while this HDT3-B controls track: SAFE-HALT, the address is
recorded, and a restart waits until that module has left the ring. -/
def execBenchRingJoin (addr : Nat) (s : State) : Host.Outcome State Fault Refusal :=
  act s fun s =>
    if s.flag F.HW_ID_BENCH && s.mode.cur.track then
      let s := { s with mode := { s.mode with benchBlock := true, benchAddr := addr, benchWait := true } }
      (s.record .benchJoin srcModule addr 0).safeHalt 10
    else s

end Sys2Proof.Machine
end

