-- ==== Sys2Proof/Machine/Image.lean ====
section
/-! DEFINITION. The meanings of IMAGE_LOAD and STAGED_IMAGE_CHECK (spec/03 R70 to R75, spec/21 R448). -/

namespace Sys2Proof.Machine

/-- R71: the spires of a list that accept their copy and agree on its identity with another that does. -/
def acceptors (l : List Nat) (fails : Nat → Option LoadFail) (id : Nat → ImageId) : List Nat :=
  let ok := l.filter (fun x => (fails x).isNone)
  ok.filter (fun x => ok.any (fun y => y != x && id x == id y))

/-- Show a check's result in IMG_STATUS or STG_STATUS: `acc` the spires whose own copy passed (R75 ACCEPT), and the failure of the
lowest spire that reports one. -/
def State.showCheck (s : State) (r : Reg) (d : ImageDoc) (acc : List Nat) (f : Option LoadFail) : State :=
  let code := match f with | some x => x.code | none => 0
  let sec := match f with | some x => x.sectNo | none => 0xFFFF
  s.wr r (code + 256 + b2n d.bench * 512 + b2n d.delta * 1024 + acc.foldl (fun m x => m + 2048 * 2 ^ x) 0 + sec % 65536 * 65536)

/-- The offset of a failure: where the spec lays out no field of the body, it is free. -/
def State.failOffset (s : State) (f : LoadFail) : Nat × State :=
  match f.offset with
  | some o => (o, s)
  | none => s.drawUpTo 536870911

/-- R53: the image identity in records, whose two parameters hold 8 bytes: ID_HASH in one, VERSION in the P1 of the next (DESIGN
CHOICE, log entry 107). -/
def State.recordId (s : State) (n : RecName) (id : ImageId) : State :=
  (s.record n srcModule (id.hash / 2 ^ 32) (id.hash % 2 ^ 32)).record n srcModule id.version 0

/-- IMG_FAIL_OFFSET of a check that has failed; of a staged image its own offset (R75). -/
def State.showOffset (s : State) (f : Option LoadFail) : State :=
  match f with
  | some f => let o := s.failOffset f; o.2.wr R.IMG_FAIL_OFFSET o.1
  | none => s

/-- R61, R72: what an accepted image writes: for each approver the first 8 bytes of CERT_FP and the identity, IMAGE_LOADED with
the identity, tally 6 in each accepting spire. -/
def State.noteLoaded (s : State) (d : ImageDoc) (acc : List Nat) : State :=
  let id : ImageId := ⟨d.idHash, d.version⟩
  let s := s.each d.approvals fun s a =>
    (s.record .imageApproval srcModule (a.certFp / 2 ^ 224) (a.certFp / 2 ^ 192 % 2 ^ 32)).recordId .imageApproval id
  let s := s.each acc fun s x => s.measure x 6 (Config.sha256 d.bytes).toNat
  s.recordId .imageLoaded id

/-- IMAGE_LOAD (R70 to R73): accepted by at least two spires that agree, the image is installed and the module goes to
INTEGRATE; a spire that refuses or disagrees is isolated. Otherwise no image is loaded and the module goes to SAFE-HALT,
or reverts a trial (spec/21 R445). A delta image has no base in LOAD. -/
def execImageLoad (docs : Three ImageDoc) (s : State) : Host.Outcome State Fault Refusal :=
  act s fun s =>
    if s.mode.cur = .load then
      let live := s.compared
      let fails (x : Nat) : Option LoadFail :=
        match s.checkImage (docs.get x) with
        | some f => some f
        | none => if (docs.get x).delta then some (failAt 0x1F 48) else none
      let id (x : Nat) : ImageId := ⟨(docs.get x).idHash, (docs.get x).version⟩
      let acc := acceptors live fails id
      let bad := live.filter (fun x => !acc.contains x)
      let passed := live.filter (fun x => (fails x).isNone)
      match acc with
      | a :: _ =>
        let d := docs.get a
        let m := s.forStrap d.image
        let s := s.showCheck R.IMG_STATUS d passed none
        let s := ((s.wr R.IMG_FAIL_OFFSET 0).setFld F.IMGKEY_STATE_LAST_USED d.keySlot).noteLoaded d acc
        let s := (s.install m).showIdentity m
        let s := s.each bad fun s x =>
          let s := match fails x with
            | some f => ((s.setFld F.IMG_STATUS_FAIL_CODE f.code).setFld F.IMG_STATUS_SECTION f.sectNo).showOffset (some f)
            | none => s
          s.raise (24 * x + 12)
        if s.mode.cur = .load then s.setMode .integrate 0 else s
      | [] =>
        let x := live.headD 0
        let f := (live.filterMap fails).head?
        let s := (s.showCheck R.IMG_STATUS (docs.get x) passed f).showOffset f
        if s.trial then s.revert 5 else s.safeHalt 11
    else s

/-- R448, R70 check 0x1F: the delta does not apply to the active image, DELTA_MAP (its entries `removed`) names a section that the
active image does not have, or the merged area fails its hash. -/
def State.deltaFails (s : State) (h : OlHeader) (removed : List (Nat × Nat)) (d : ImageDoc) : List LoadFail :=
  let area := (Config.sha256 d.area).toNat
  [ failWhen (!bitOf h.flags 1) (failAt 0x1F 30)
  , failWhen (h.baseIdHash != s.content.id.hash) (failAt 0x1F 48)
  , failWhen (h.baseVersion != s.content.id.version) (failAt 0x1F 56)
  , failWhen (removed.any (fun e => !s.content.sections.contains e)) ⟨0x1F, 0xFFFF, none⟩
  , failWhen (d.areaHash != area) (failAt 0x1F 128)
  , failWhen (d.idHash != area / 2 ^ 192 || d.idHash != h.idHash) (failAt 0x1F 8)
  , failWhen (d.version != h.version) (failAt 0x1F 16) ].filterMap id

/-- R70 on a merged image, in the order of the checks: the hash of the merged area is part of check 0x1F. -/
def State.checkMerged (s : State) (h : OlHeader) (removed : List (Nat × Nat)) (d : ImageDoc) : Option LoadFail :=
  let full : ImageDoc := { d with flags := d.flags &&& 1 }
  firstFail ((s.checkFails full).filter (fun f => f.code != 0x0A) ++ s.deltaFails h removed d)

/-- R448: every compared spire has the whole delta. -/
def State.deltaComplete (s : State) : Bool :=
  match s.upd.olHeader with
  | some h => s.compared.all (fun x => Nat.ble h.totalLen (s.upd.olNext.get x))
  | none => false

/-- STAGED_IMAGE_CHECK (R448): the merged image is checked under R70 and R72 while the active one runs; `removed` are the entries
of DELTA_MAP. -/
def execStagedImageCheck (docs : Three ImageDoc) (removed : List (Nat × Nat)) (s : State) : Host.Outcome State Fault Refusal :=
  act s fun s =>
    match s.upd.olHeader with
    | none => s
    | some h =>
      if s.deltaComplete && s.img.isSome then
        let live := s.compared
        let fails (x : Nat) : Option LoadFail := s.checkMerged h removed (docs.get x)
        let passed := live.filter (fun x => (fails x).isNone)
        let id (x : Nat) : ImageId := ⟨(docs.get x).idHash, (docs.get x).version⟩
        let acc := acceptors live fails id
        match acc with
        | a :: _ =>
          let d := docs.get a
          let m := s.forStrap d.image
          let s := s.showCheck R.STG_STATUS d passed none
          let s := (s.wr R.STG_ID_LO m.id.hash).wr R.STG_ID_HI (m.id.hash / 2 ^ 32)
          let s := s.each acc fun s x => s.measure x 8 (Config.sha256 d.bytes).toNat
          { s with upd := { s.upd with staged := some m } }.setFld F.OL_STATUS_STATE 1
        | [] =>
          let f := (live.filterMap fails).head?
          let s := (s.showCheck R.STG_STATUS (docs.get (live.headD 0)) passed f).showOffset f
          { s with upd := { s.upd with staged := none } }
      else s

end Sys2Proof.Machine
end

