-- ==== Sys2Proof/Machine/Update.lean ====
section
/-! DEFINITION. Updates and on-line change (spec/21 R436 to R453): the twelve commands of delivery, verification, trial
and activation. -/

namespace Sys2Proof.Machine

/-! ### Where the commands are accepted (R440) -/

/-- "Every mode except BOOT, while no trial stands". -/
def State.updOpen (s : State) : Bool := s.mode.cur != .boot && !s.trial

/-- The modes that accept the on-line commands. -/
def Mode.online : Mode → Bool
  | .integrate | .shadow | .standby | .active | .active2oo2 | .safeHalt | .maintenance => true
  | _ => false

/-! ### Package manifest (R438) -/

def PartDef.bytes (p : PartDef) : List Byte :=
  beBytes 1 p.type ++ beBytes 1 (b2n p.carry + p.rsvd % 128 * 2) ++ beBytes 2 0 ++ beBytes 4 p.length ++ beBytes 4 p.version
    ++ beBytes 4 0 ++ beBytes 32 p.hash

/-- All manifest bytes before the first signature block. -/
def Manifest.signed (m : Manifest) : List Byte :=
  beBytes 4 m.magic ++ beBytes 2 m.format ++ beBytes 1 m.parts.length ++ beBytes 1 m.sigs.length ++ beBytes 4 m.hwType
    ++ beBytes 4 m.pkgVersion ++ beBytes 2 m.secRsvd ++ beBytes 2 m.secVer ++ beBytes 2 m.serials.length ++ beBytes 2 m.rsvd
    ++ beBytes 8 m.buildTai ++ m.parts.flatMap PartDef.bytes ++ m.serials.flatMap (beBytes 8)

/-- How many parts have a type. -/
def Manifest.count (m : Manifest) (t : Nat) : Nat := (m.parts.filter (fun (p : PartDef) => p.type == t)).length

/-- Index of the part of a type; 0 when absent. -/
def Manifest.partIdx (m : Manifest) (t : Nat) : Nat := (m.parts.findIdx? (fun (p : PartDef) => p.type == t)).getD 0

/-- Check 0x01. -/
def Manifest.formBad (m : Manifest) : Bool :=
  m.magic != 0x4454334D || m.format != 0x0100 || Nat.blt m.parts.length 5 || Nat.blt 7 m.parts.length
    || Nat.blt m.sigs.length 1 || Nat.blt 2 m.sigs.length || m.secRsvd != 0 || m.rsvd != 0 || Nat.blt 64 m.serials.length
    || [1, 2, 3, 4, 5].any (fun t => m.count t != 1) || Nat.blt 1 (m.count 6) || Nat.blt 1 (m.count 7)
    || m.parts.any (fun (p : PartDef) => p.type == 0 || Nat.blt 7 p.type || p.rsvd != 0 || (p.carry && p.length != 0))

/-- A signature under one of the Morurhal firmware keys verifies. -/
def State.fwSigned (s : State) (m : Manifest) : Bool :=
  m.sigs.any (fun (g : SigDef) => (g.slot == 0x80 || g.slot == 0x81) && Config.ecdsaOk (s.settings.fwKeys.getD (g.slot - 0x80) 0) m.signed g.sig)

/-- A signature under a loaded image-key slot verifies. -/
def State.keySigned (s : State) (m : Manifest) : Bool :=
  m.sigs.any (fun (g : SigDef) => Nat.blt g.slot 4 && (s.rd R.IMGKEY_STATE / 2 ^ (2 * g.slot)) % 4 == 1
    && Config.ecdsaOk (s.settings.imageKeys.getD g.slot 0) m.signed g.sig)

/-- No image-key slot is loaded. -/
def State.noKeyLoaded (s : State) : Bool := [0, 1, 2, 3].all (fun k => (s.rd R.IMGKEY_STATE / 2 ^ (2 * k)) % 4 != 1)

/-- Check 0x02 is due: a part of types 1 to 5 lacks CARRY. -/
def Manifest.newFirmware (m : Manifest) : Bool := m.parts.any (fun (p : PartDef) => Nat.ble 1 p.type && Nat.ble p.type 5 && !p.carry)

/-- The descriptor of the package: none without a part of type 7. -/
def Manifest.descOf (m : Manifest) (v : VerifyOp) : Option Descriptor := if m.count 7 = 0 then none else v.desc

/-- Does a change touch image-key slots, the system manifest or role verifiers? -/
def SettingChange.guarded : SettingChange → Bool
  | .imageKey _ _ _ | .manifestAdd _ _ | .manifestSet _ _ _ | .manifestDrop _ _ | .verifier _ _ => true
  | .ip4 _ _ | .ip6 _ _ | .caKey _ | .other _ _ => false

/-- Check 0x03 is due: the descriptor changes image-key slots, the system manifest or role verifiers. -/
def Descriptor.guarded (d : Descriptor) : Bool := d.changes.any SettingChange.guarded

/-- R447: a change names a slot, entry or setting that does not exist; R301: the manifest holds up to 65,536 entries, an
address up to 4. -/
def State.changeBad (s : State) (x : SettingChange) : Bool :=
  match x with
  | .imageKey slot _ _ => Nat.ble 4 slot
  | .manifestAdd addr _ => Nat.ble 4 (s.settings.manifest.filter (fun (e : Nat × ImageId) => e.1 == addr)).length || Nat.ble 65536 s.settings.manifest.length
  | .manifestSet addr id _ | .manifestDrop addr id => !s.settings.manifest.contains (addr, id)
  | .ip4 port _ | .ip6 port _ => Nat.ble 16 port
  | .caKey _ => false
  | .verifier _ _ => false
  | .other name _ => !s.settings.other.any (fun (e : Nat × Nat) => e.1 == name)

/-- Check 0x09 (R447). -/
def State.descBad (s : State) (d : Descriptor) : Bool :=
  Nat.blt 8 d.formats.length || !d.formats.contains s.settings.format || !d.reads.contains d.writes || d.changes.any s.changeBad

/-- Check 0x07 on spire `x`: the index of the first part that differs from its HASH. -/
def State.hashBad (s : State) (m : Manifest) (v : VerifyOp) (x : Nat) : Option Nat :=
  (m.parts.zipIdx.find? (fun (e : PartDef × Nat) =>
    (if e.1.carry then (v.hashes.get x).getD e.2 0
     else (Config.sha256 ((s.upd.flash.get x).getD e.2 [])).toNat) != e.1.hash)).map (fun e => e.2)

/-! ### Delivery (R441, R442) -/

/-- The part entries that spire `x` has not stored whole, lowest first. -/
def UpdSt.missing (u : UpdSt) (m : Manifest) (x : Nat) : Option Nat :=
  (m.parts.zipIdx.find? (fun (e : PartDef × Nat) => !e.1.carry && Nat.blt ((u.next.get x).getD e.2 0) e.1.length)).map (fun e => e.2)

/-- Every part is complete in every spire. -/
def UpdSt.complete (u : UpdSt) : Bool :=
  match u.manifest with
  | none => false
  | some m => [0, 1, 2].all (fun x => (u.missing m x).isNone)

/-- R457 UPD_NEXTs: the lowest incomplete part and its NEXT; 0 when none is incomplete. -/
def State.showNext (s : State) : State :=
  match s.upd.manifest with
  | none => s
  | some m => s.each [0, 1, 2] fun s x =>
    match s.upd.missing m x with
    | none => s.wr R.UPD_NEXT 0 x
    | some p => s.wr R.UPD_NEXT (p + (s.upd.next.get x).getD p 0 / 4096 * 256) x

/-- DOWNLOAD, or once every part is complete COMPLETE. -/
def State.showStage (s : State) : State :=
  let u := s.upd
  { s with upd := { u with stage := if u.complete then .complete else .download } }

/-- The digests that the manifests list, with those of the set that is not active replaced. -/
def State.otherListed (s : State) (l : List Nat) : Option (List Nat) × Option (List Nat) :=
  if s.upd.boot.a.set % 2 = 0 then (s.upd.listed.1, some l) else (some l, s.upd.listed.2)

/-- UPD_BEGIN (R441): the inactive slot is erased. -/
def execUpdBegin (c : Svc) (m : Manifest) (s : State) : Host.Outcome State Fault Refusal :=
  act s fun s => s.authorised c 0x0301 m.pkgVersion 0 [.engineer] State.updOpen fun _ s =>
    if s.upd.stage = .download ∧ s.upd.manifest = some m then s
    else
      let zeros := Three.all (m.parts.map (fun _ => 0))
      let none' := Three.all (m.parts.map (fun _ => ([] : List Byte)))
      let u : UpdSt := { s.upd with
        fallback := false, manifest := some m, next := zeros, flash := none', desc := none, listed := s.otherListed [] }
      (({ s with upd := u }.wr R.UPD_PKG m.pkgVersion).showStage).showNext

/-- The bytes that a block's CRC covers. -/
def UpdBlock.covered (b : UpdBlock) : List Byte :=
  beBytes 1 b.part ++ beBytes 3 0 ++ beBytes 4 b.offset ++ beBytes 2 b.data.length ++ beBytes 2 0 ++ b.data

/-- LEN is 4,096, or what remains of a part of `len` bytes. -/
def UpdBlock.fits (b : UpdBlock) (len : Nat) : Bool :=
  b.offset % 4096 == 0 && Nat.blt b.offset len && b.data.length == min 4096 (len - b.offset)

/-- R442: the length of what the block belongs to; none where nothing takes it. -/
def State.blockLen (s : State) (b : UpdBlock) : Option Nat :=
  if b.part = 0xFF then
    if s.mode.cur.online then s.upd.olHeader.map (fun (h : OlHeader) => h.totalLen) else none
  else if s.updOpen && (s.upd.stage == .download || s.upd.stage == .complete) then
    match s.upd.manifest with
    | none => none
    | some m => (m.parts[b.part]?).map (fun (p : PartDef) => if p.carry then 0 else p.length)
  else none

/-- NEXT of the block's part in spire `x`. -/
def State.blockNext (s : State) (b : UpdBlock) (x : Nat) : Nat :=
  if b.part = 0xFF then s.upd.olNext.get x else (s.upd.next.get x).getD b.part 0

/-- R442: spire `x`, whose management core runs, takes the block when OFFSET is its NEXT. -/
def State.takeBlock (s : State) (b : UpdBlock) (x : Nat) : State :=
  if s.blockNext b x = b.offset then
    let upTo := b.offset + b.data.length
    let u := s.upd
    if b.part = 0xFF then
      { s with upd := { u with olNext := u.olNext.set x upTo, olFlash := u.olFlash.upd x (fun l => l ++ b.data) } }
    else
      { s with upd := { u with
          next := u.next.upd x (fun l => l.set b.part upTo)
          flash := u.flash.upd x (fun l => l.set b.part (l.getD b.part [] ++ b.data)) } }
  else s

/-- The lowest NEXT among the spires whose management core runs. -/
def State.lowestNext (s : State) (b : UpdBlock) (xs : List Nat) : Nat :=
  match xs with
  | [] => 0
  | x :: t => t.foldl (fun n y => min n (s.blockNext b y)) (s.blockNext b x)

/-- UPD_BLOCK (R442): refused during a supply warning (R421) with BUSY, with a failed CRC, a LEN that does not fit, or where no spire
acknowledges it. A spire in SELFTEST or LATCHED state of the belfry does not run its management core. -/
def execUpdBlock (c : Svc) (b : UpdBlock) (s : State) : Host.Outcome State Fault Refusal :=
  let runs (s : State) : List Nat := threeIdx (fun x => s.bf.spst.get x != .selftest && s.bf.spst.get x != .latched)
  let takes (s : State) : Bool :=
    b.crc == crc32c.value b.covered && (match s.blockLen b with | some n => b.fits n | none => false)
      && (runs s).any (fun x => Nat.ble b.offset (s.blockNext b x))
  act s fun s => s.service c fun x s =>
    if x.role == .engineer && s.pwr.warn then s.refuseBusy x 0x0302
    else if x.role == .engineer && takes s then
      match s.chgWrite true x.role.code x.port 2 0 0x0302 0 b.part b.offset with
      | none => s.refuse x 0x0302
      | some s =>
        let s := s.each (runs s) fun s y => s.takeBlock b y
        let s := if b.part = 0xFF then s else (s.showStage).showNext
        s.answer x [s.lowestNext b (runs s)]
    else s.refuse x 0x0302

/-- The code of a stage (R457). -/
def UpdStage.code : UpdStage → Nat
  | .idle => 0 | .download => 1 | .complete => 2 | .verifying => 3 | .verified => 4 | .trial => 5

/-- UPD_STATUS as read (R457). -/
def UpdSt.status (u : UpdSt) : Nat :=
  u.stage.code + u.boot.a.set % 2 * 8 + u.boot.a.img % 2 * 16 + u.boot.a.left % 4 * 32 + b2n u.fallback * 128 + u.boot.a.seq % 65536 * 65536

/-- UPD_STATUS (R440): any role, every mode; the answer carries the update state. -/
def execUpdStatus (c : Svc) (s : State) : Host.Outcome State Fault Refusal :=
  act s fun s => s.service c fun x s =>
    match s.chgWrite true x.role.code x.port 2 0 0x0303 0 0 0 with
    | none => s.refuse x 0x0303
    | some s => s.answer x [s.upd.status, s.rd R.UPD_PKG, s.rd R.UPD_SECVER, s.rd R.UPD_NEXT, s.rd R.UPD_NEXT 1, s.rd R.UPD_NEXT 2, s.rd R.UPD_FAIL, s.rd R.UPD_LAST]

/-! ### Verification (R439) -/

/-- A failed check: code, image code, spires, part. -/
structure VerFail where
  code : Nat
  img : Nat
  spires : Nat
  part : Nat
deriving DecidableEq, Repr

/-- A check that fails in every spire alike. -/
def verFail (bad : Bool) (code part : Nat) : Option VerFail := if bad then some ⟨code, 0, 7, part⟩ else none

/-- A check made by each spire on its own. -/
def verFailEach (bad : Nat → Bool) (code part : Nat) : Option VerFail :=
  let m := [0, 1, 2].foldl (fun n x => n + b2n (bad x) * 2 ^ x) 0
  if m = 0 then none else some ⟨code, 0, m, part⟩

/-- R438: the management-firmware versions once the package stands in the set that is not active: that of its part of type 2,
or with CARRY the active set's. -/
def State.newFw (s : State) (m : Manifest) : Nat × Nat :=
  let now := s.fwRunning
  let new := match m.parts.find? (fun (p : PartDef) => p.type == 2) with
    | some p => if p.carry then now else p.version
    | none => now
  if s.upd.boot.a.set % 2 = 0 then (now, new) else (new, now)

/-- Check 0x08: the code under R70 of the image of the new set; its check 0x07 is made against the management firmware of the
package, its check 0x08 against the image-key slots as the descriptor leaves them. A delta is no full image (R438). -/
def State.imageCode (s : State) (m : Manifest) (v : VerifyOp) : Nat :=
  let fw := s.newFw m
  let new := if s.upd.boot.a.set % 2 = 0 then fw.2 else fw.1
  let keys := match m.descOf v with
    | some d => d.changes.filter (fun c => match c with | .imageKey _ _ _ => true | _ => false)
    | none => []
  let s := ({ s with fwVersion := (new, new) }).each keys State.applyChange
  match s.checkImage v.image with
  | some f => f.code
  | none => if v.image.delta then 0x1F else 0

/-- R439: the first check that fails, in the order of the codes. Check 0x03 counts as met where no key slot is loaded and
an auditor has confirmed. -/
def State.verify (s : State) (m : Manifest) (v : VerifyOp) (auditor : Bool) : Option VerFail :=
  let d := m.descOf v
  let guarded := match d with | some d => d.guarded | none => false
  let desc := match d with | some d => s.descBad d | none => m.count 7 != 0
  let hash (x : Nat) : Bool := (s.hashBad m v x).isSome
  let part := (([0, 1, 2].filterMap (s.hashBad m v)).headD 0)
  ([ verFail m.formBad 0x01 0
   , verFail (m.newFirmware && !s.fwSigned m) 0x02 0
   , verFail (guarded && !(if s.noKeyLoaded then auditor else s.keySigned m)) 0x03 (m.partIdx 7)
   , verFail (m.hwType / 65536 != 0x0D03 || Nat.blt (s.fld F.HW_ID_REV) (m.hwType / 256 % 256)) 0x04 0
   , verFail (m.serials.length != 0 && !m.serials.contains s.serial) 0x05 0
   , verFailEach (fun x => Nat.blt m.secVer (v.counters.get x)) 0x06 0
   , verFailEach hash 0x07 part
   , if s.imageCode m v = 0 then none else some ⟨0x08, s.imageCode m v, 7, m.partIdx 6⟩
   , verFail desc 0x09 (m.partIdx 7) ]).findSome? id

/-- The lowest of the three counters (R457). -/
def lowest3 (t : Three Nat) : Nat := min t.a (min t.b t.c)

/-- R425: the digests of the stages that the manifest lists, in the order of the tallies. -/
def Manifest.stageHashes (m : Manifest) : List Nat :=
  [1, 2, 3, 4, 5].map (fun t => ((m.parts.find? (fun (p : PartDef) => p.type == t)).map PartDef.hash).getD 0)

/-- The result of a verification: UPD_FAIL, and the stage. -/
def State.endVerify (s : State) (m : Manifest) (v : VerifyOp) (auditor : Bool) : State :=
  let s := { s with upd := { s.upd with secVer := v.counters } }.wr R.UPD_SECVER (lowest3 v.counters % 65536)
  match s.verify m v auditor with
  | none => { s with
      fwVersion := s.newFw m
      upd := { s.upd with
        stage := .verified, desc := m.descOf v, newTb := v.image.image.timing.tbMs, listed := s.otherListed m.stageHashes } }.wr R.UPD_FAIL 0
  | some f =>
    { s with upd := { s.upd with stage := .complete } }.wr R.UPD_FAIL
      (f.code + f.img % 256 * 256 + f.spires * 65536 + f.part % 16 * 1048576)

/-- Check 0x03 waits for an auditor. -/
def State.needsAuditor (s : State) (m : Manifest) (v : VerifyOp) : Bool :=
  !m.formBad && s.noKeyLoaded && (match m.descOf v with | some d => d.guarded | none => false)

/-- UPD_VERIFY (R439): all the checks in all three spires. Where no key slot is loaded, a package that changes keys, the
manifest or verifiers waits for the auditor's repetition (R440); the wait ends at CONFIRMATION_EXPIRY. -/
def execUpdVerify (c : Svc) (v : VerifyOp) (s : State) : Host.Outcome State Fault Refusal :=
  act s fun s => s.service c fun x s =>
    let waits := s.upd.stage == .verifying && s.svc.confirms.any (fun (p : Confirm) => p.code == 0x0304 && Nat.ble s.time.clockNs p.untilNs)
    let first := x.role == .engineer && s.updOpen && s.upd.complete && (s.upd.stage == .complete || s.upd.stage == .verified)
    if (waits && x.role == .auditor) || first then
      match s.upd.manifest, s.chgWrite true x.role.code x.port 2 0 0x0304 0 0 0 with
      | some m, some s =>
        let s := s.answer x
        let rest := s.svc.confirms.filter (fun (p : Confirm) => p.code != 0x0304)
        if waits && x.role == .auditor then ({ s with svc := { s.svc with confirms := rest } }).endVerify m v true
        else if s.needsAuditor m v then
          { s with
            svc := { s.svc with confirms := ⟨0x0304, [], s.time.clockNs + 60000000000⟩ :: rest }
            upd := { s.upd with stage := .verifying } }
        else s.endVerify m v false
      | _, _ => s.refuse x 0x0304
    else s.refuse x 0x0304

/-! ### Activation and trial (R443 to R446) -/

/-- R443: COUNT at which a trial that begins now ends: 600,000 ms in base cycles of the new image. -/
def State.trialEnd (s : State) : Nat := s.time.count + (600000 + s.upd.newTb - 1) / s.upd.newTb

/-- R437, R443: the trial record in the first `written` spires; the set's image place is free. -/
def State.writeTrial (s : State) (written : Nat) : State :=
  let d := s.drawUpTo 1
  let s := d.2
  let old := s.upd.boot.a
  let put (x : Nat) (b : BootRec) : BootRec :=
    if x < written then ⟨b.seq + 1, 1 - old.set % 2, d.1, true, 3, s.trialEnd % 2 ^ 48, false⟩ else b
  let alt := s.upd.bootAlt.mapI (fun x b => if x < written then some (s.upd.boot.get x) else b)
  let u : UpdSt := { s.upd with
    boot := s.upd.boot.mapI put, bootAlt := alt, oldSet := old.set, oldImg := old.img, activating := some (old.seq + 1) }
  { s with upd := u }

/-- UPD_ACTIVATE (R443): the trial record, then MRST; the loader counts the boot down or finds the old record governing. -/
def execUpdActivate (c : Svc) (written : Nat) (s : State) : Host.Outcome State Fault Refusal :=
  act s fun s => s.authorised c 0x0305 0 0 [.engineer]
    (fun s => s.mode.cur == .update && s.upd.stage == .verified && !s.pwr.warn && !s.trial) fun _ s =>
      let s := (s.writeTrial written).mrst .update
      if s.trial then
        let dl := s.upd.boot.a.deadline
        ((s.wr R.UPD_DL_LO dl).wr R.UPD_DL_HI (dl / 2 ^ 32)).record .updActivated srcModule (s.rd R.UPD_PKG) (dl % 2 ^ 32)
      else s

/-- R446 step 1: one change-log entry of KIND 4 per setting changed; where the setting is no register, TARGET, OLD and
NEW are free. -/
def State.logChange (s : State) (x : SettingChange) : State :=
  match x with
  | .imageKey _ _ _ =>
    let old := match s.upd.oldSettings with | some o => o.2 | none => s.rd R.IMGKEY_STATE
    (s.chgWrite true 0 0xFF 4 0 R.IMGKEY_STATE.addr old (s.rd R.IMGKEY_STATE) 0).getD s
  | _ =>
    let t := s.drawUpTo (2 ^ 32 - 1)
    let o := t.2.drawUpTo (2 ^ 32 - 1)
    let n := o.2.drawUpTo (2 ^ 32 - 1)
    (n.2.chgWrite true 0 0xFF 4 0 t.1 o.1 n.1 0).getD n.2

/-- R446: all three spires have ended measured start and self-test with equal tallies, and the image is loaded. -/
def State.mayConfirm (s : State) : Bool :=
  s.mode.cur == .integrate && s.trial && s.img.isSome && s.compared.length == 3
    && [0, 1, 2].all (fun x => s.flag F.ATT_STATUS_DONE x) && (s.tallyMinority [0, 1, 2]).isNone
    && s.startDigests 0 == s.startDigests 1 && s.startDigests 1 == s.startDigests 2

/-- R446: the four steps of a confirmation; INTEGRATE may then end. -/
def State.confirmSet (s : State) : State :=
  let ch := match s.upd.desc with | some d => d.changes | none => []
  let s := s.each ch State.logChange
  let ver := match s.upd.manifest with | some m => m.secVer | none => 0
  let raised : Three Nat := s.upd.secVer.mapI (fun _ n => max n ver)
  let s := { s with upd := { s.upd with secVer := raised } }.wr R.UPD_SECVER (lowest3 raised % 65536)
  let s := s.writeBoot (fun b => { b with trial := false, left := 0, deadline := 0 })
  let s := (s.wr R.UPD_DL_LO 0).wr R.UPD_DL_HI 0
  let u : UpdSt := { s.upd with stage := .idle, fallback := true, oldSettings := none, desc := none }
  let s := { s with upd := u }
  (s.record .updConfirmed srcModule (s.rd R.UPD_PKG) (s.upd.boot.a.seq % 2 ^ 32)).leaveIntegrate false

/-- UPD_CONFIRM (R446): confirmed by the maintainer role. -/
def execUpdConfirm (c : Svc) (s : State) : Host.Outcome State Fault Refusal :=
  act s fun s => s.confirmed c 0x0306 [] [.engineer] .maintainer State.mayConfirm fun _ s => s.confirmSet

/-- UPD_ABORT (R440, R445): a trial is reverted; otherwise the download or the verified set is given up. -/
def execUpdAbort (c : Svc) (s : State) : Host.Outcome State Fault Refusal :=
  act s fun s => s.authorised c 0x0307 0 0 [.engineer] (fun s => s.mode.cur != .boot) fun _ s =>
    if s.trial then s.revert 7
    else
      let u : UpdSt := { s.upd with stage := .idle, manifest := none, desc := none, next := Three.all [], flash := Three.all [] }
      let svc : SvcSt := { s.svc with confirms := s.svc.confirms.filter (fun (p : Confirm) => p.code != 0x0304) }
      { s with upd := u, svc := svc }.each [0, 1, 2] fun s x => s.wr R.UPD_NEXT 0 x

/-- R445: at a base-cycle boundary with a valid AT, COUNT has reached DEADLINE. -/
def State.deadlineOver (s : State) : Bool := s.trial && s.time.atValid && Nat.ble s.upd.boot.a.deadline s.time.count

/-- TRIAL_DEADLINE (R445). -/
def execTrialDeadline (s : State) : Host.Outcome State Fault Refusal :=
  act s fun s => if s.deadlineOver then s.revert 2 else s

/-! ### On-line change (R448 to R450) -/

/-- R448: any staged image and its flash copy are discarded. -/
def State.dropStaged (s : State) : State :=
  let u : UpdSt := { s.upd with staged := none, olHeader := none, target := none, olNext := Three.all 0, olFlash := Three.all [] }
  let s := ((({ s with upd := u }.wr R.STG_ID_LO 0).wr R.STG_ID_HI 0).wr R.STG_STATUS 0).wr R.OL_TARGET 0
  s.setFld F.OL_STATUS_STATE 0

/-- The record of the old image is written back when one is armed (R437, R450). -/
def State.writeBack (s : State) : State :=
  if s.upd.target.isSome then s.writeBoot (fun b => { b with img := s.upd.backImg }) else s

/-- OL_BEGIN (R448): takes the header of a delta image. -/
def execOlBegin (c : Svc) (h : OlHeader) (s : State) : Host.Outcome State Fault Refusal :=
  act s fun s => s.authorised c 0x0311 (h.idHash / 2 ^ 32) h.version [.engineer]
    (fun s => s.mode.cur.online && bitOf h.flags 1) fun _ s =>
      let s := (s.writeBack).dropStaged
      { s with upd := { s.upd with olHeader := some h } }

/-- The keep that R150 looks at: that of a compared spire. -/
def State.keepNow (s : State) : KeepSt := (s.spire s.bodySpire).keep

/-- R449 case 3: parts that an on-line change may not touch. -/
def olLayoutBad (old new : ImageContent) : Bool :=
  old.timing != new.timing || old.banks != new.banks || old.tokensDecl != new.tokensDecl || old.transactions != new.transactions
    || old.ring != new.ring || old.scheds != new.scheds || old.pair != new.pair || old.sched.sweep != new.sched.sweep

/-- R449 case 4. -/
def State.olPartnerBad (s : State) : Bool :=
  s.partnerStandby && (match s.pair.stagedNs with
    | some t => Nat.blt (t + 10000000000) s.time.clockNs
    | none => true)

/-- R449: the case in which OL_ACTIVATE is refused, lowest number first. -/
def State.olRefusal (s : State) (count : Nat) : Option Nat :=
  match s.upd.staged with
  | none => some 1
  | some new =>
    if olTokensBad s.content new s.keepNow || olPeersBad s.content new s.keepNow then some 2
    else if olLayoutBad s.content new then some 3
    else if s.olPartnerBad then some 4
    else if count < s.time.count + 4 ∨ s.time.count + 1024 < count then some 5
    else if s.pwr.warn then some 6
    else none

/-- R449: the record that names the merged image, and the target. -/
def State.armOnline (s : State) (count : Nat) : State :=
  let old := s.upd.boot.a.img
  let s := { s with upd := { s.upd with backImg := old, target := some count } }
  let s := s.writeBoot (fun b => { b with img := 1 - old % 2 })
  let s := (s.setFld F.OL_STATUS_STATE 2).wr R.OL_TARGET count
  if s.mode.cur.track then s else s.mrst .update

/-- The confirming repetition of OL_ACTIVATE. -/
def State.olConfirming (s : State) (c : Svc) (count : Nat) : Option SvcSess :=
  match s.svcFind c with
  | none => none
  | some x =>
    if x.role == .maintainer && s.mode.cur.online
        && s.svc.confirms.any (fun (p : Confirm) => p.code == 0x0312 && p.opnds == [count] && Nat.ble s.time.clockNs p.untilNs)
    then some x else none

/-- OL_ACTIVATE (R449, R450): on the confirmation the six cases are checked; outside the modes that control track MRST
follows at once. -/
def execOlActivate (c : Svc) (count : Nat) (s : State) : Host.Outcome State Fault Refusal :=
  act s fun s =>
    match s.olConfirming c count, s.olRefusal count with
    | some x, some k =>
      let s := s.svcTouch c
      let s := { s with svc := { s.svc with confirms := s.svc.confirms.filter (fun (p : Confirm) => p.code != 0x0312) } }
      ((s.setFld F.OL_STATUS_RESULT k).emit (.refusal x.sid 0x0312)).record .onlineRefused srcModule k (count % 2 ^ 32)
    | _, _ => s.confirmed c 0x0312 [count] [.engineer] .maintainer (fun s => s.mode.cur.online) fun _ s => s.armOnline count

/-- R450: the boundary that begins cycle C. -/
def State.olDue (s : State) : Bool :=
  s.mode.cur.track && s.time.angle == 0 && (match s.upd.target with | some c => s.time.count == c % 2 ^ 48 | none => false)

/-- R450: the checks of R150 again, then the activation, or the old record is written back. -/
def State.activateOnline (s : State) : State :=
  match s.upd.staged with
  | none => s
  | some new =>
    if olTokensBad s.content new s.keepNow then
      let s := s.writeBack
      let s := { s with upd := { s.upd with target := none } }
      (((s.setFld F.OL_STATUS_STATE 1).setFld F.OL_STATUS_RESULT 7).wr R.OL_TARGET 0).record .onlineAbandoned srcModule new.id.hash new.id.version
    else s.activateStaged new

/-- OL_ACTIVATION (R450): at the boundary that begins the armed cycle. -/
def execOlActivation (s : State) : Host.Outcome State Fault Refusal :=
  act s fun s => if s.olDue then s.activateOnline else s

/-- OL_CANCEL (R448): the staged image and its flash copy are discarded; an armed record is written back. -/
def execOlCancel (c : Svc) (s : State) : Host.Outcome State Fault Refusal :=
  act s fun s => s.authorised c 0x0313 0 0 [.engineer] (fun s => s.mode.cur.online) fun _ s => (s.writeBack).dropStaged

end Sys2Proof.Machine
end

