-- ==== Sys2Proof/Machine/Attest.lean ====
section
/-! DEFINITION. Quotes (spec/20 R429 to R435): requests, signing, and what a quote of another module means for admission
(spec/13 R299), boundary peers (spec/07 R171) and the pair (spec/11 R235, spec/21 R449). -/

namespace Sys2Proof.Machine

/-! ### Requests (R432, R433) -/

/-- R433: ring requests of the system master, the partner and listed peers take precedence. -/
def State.quoteFirst (s : State) (q : QuoteReq) : Bool :=
  match q.path with
  | .ring a _ => a == s.ring.sm || (s.content.pair.isSome && a == s.fld F.PAIR_CONF_PARTNER) || s.peers.any (fun (p : PeerSt) => p.addr == a || p.addr + 1 == a)
  | _ => false

/-- R432: is the request one that the module answers? A session frame of TYPE 0x10 is checked for VER, TYPE, LEN and DST. -/
def State.quoteAsked (s : State) (q : QuoteReq) : Bool :=
  match q.path with
  | .service port => Nat.blt port 16
  | .session n f =>
    f.ver == 1 && f.type == 0x10 && f.payload.length == 16
      && (match s.content.sessions.find? (fun (d : SessDef) => d.n == n) with | some d => f.dst == d.ownId | none => false)
  | .ring _ v => v.dst == s.own v.beta

/-- The nonce of a request: that of a session frame is its payload. -/
def QuoteReq.asked (q : QuoteReq) : QuoteReq :=
  match q.path with
  | .session _ f => { q with nonce := beNat f.payload }
  | _ => { q with nonce := q.nonce % 2 ^ 128 }

/-- QUOTE_REQUEST (R432, R433): a queue of 16; a request that finds it full is discarded and counted. A request whose latch has been
taken is being served and keeps its place. -/
def execQuoteRequest (q : QuoteReq) (s : State) : Host.Outcome State Fault Refusal :=
  act s fun s =>
    let s := match q.path with | .ring _ v => s.relayTo v (.relayRequest (!v.beta) q) | _ => s
    if !s.quoteAsked q then s
    else if 16 ≤ s.att.queue.length then s.each [0, 1, 2] fun s x => s.bump F.ATT_QCNT_DROPPED x
    else
      let n := if s.att.latch.isSome then 1 else 0
      let l := s.att.queue.drop n
      let l := if s.quoteFirst q then l.takeWhile s.quoteFirst ++ [q.asked] ++ l.dropWhile s.quoteFirst else l ++ [q.asked]
      ({ s with att := { s.att with queue := s.att.queue.take n ++ l } }).latchIdle

/-! ### Signing (R429, R430) -/

/-- R429: a spire contributes. -/
def State.quotes (s : State) (x : Nat) : Bool :=
  s.flag F.ATT_STATUS_DONE x && s.bf.spst.get x != .selftest && s.bf.spst.get x != .latched && !(s.src (24 * x + 8)).cond

/-- Bytes 0 to 63 of a quote. -/
def quoteHeader (signed mode qflags nonce serial hwid : Nat) (id : ImageId) (stamp addr pair : Nat) : List Byte :=
  beBytes 1 1 ++ beBytes 1 signed ++ beBytes 1 mode ++ beBytes 1 qflags ++ beBytes 16 nonce ++ beBytes 8 serial ++ beBytes 4 hwid
    ++ beBytes 8 id.hash ++ beBytes 4 id.version ++ beBytes 8 stamp ++ beBytes 2 addr ++ beBytes 2 pair ++ beBytes 8 0

/-- The tally block of a spire. -/
def tallyBlock (l : List Nat) : List Byte := l.flatMap (beBytes 32)

/-- R429: the request is answered with what was latched; on the ring the quote waits for a dynamic position of this node (R433). -/
def State.signQuote (s : State) (q : QuoteReq) (h : QuoteHead) : State :=
  let live := threeIdx s.quotes
  let signed := live.foldl (fun m x => m + 2 ^ x) 0
  let tallies : Three (List Nat) := (Three.all ()).mapI (fun x _ => if live.contains x then (List.range 8).map (fun t => s.tally x (t + 1)) else List.replicate 8 0)
  let staged := live.any (fun x => s.tally x 8 != 0)
  let qf := b2n (s.flag F.HW_ID_BENCH) + 2 * b2n staged
  let head := quoteHeader signed h.mode qf q.nonce s.serial (s.rd R.HW_ID) h.id h.stamp h.addr h.pair
  let sigs : Three Nat := (Three.all ()).mapI (fun x _ => if live.contains x then (Config.ecdsaSign x (head ++ tallyBlock (tallies.get x))).toNat else 0)
  let s := s.each live fun s x => s.bump F.ATT_QCNT_SIGNED x
  let out : Quote := ⟨q.path, signed, qf, q.nonce, h, tallies, sigs⟩
  match q.path with
  | .ring _ _ => { s with att := { s.att with ringOut := s.att.ringOut ++ [out] } }
  | _ => s.emit (.quote out)

/-- QUOTE_SIGN (R429, R430, R433): the request at the head of the queue is answered, once its latch has been taken. -/
def execQuoteSign (s : State) : Host.Outcome State Fault Refusal :=
  act s fun s =>
    let s := s.latchIdle
    match s.att.queue, s.att.latch with
    | q :: l, some h => (({ s with att := { s.att with queue := l, latch := none } }).signQuote q h).latchIdle
    | _, _ => s

/-! ### A quote received (R431) -/

/-- The spires whose signatures verify; `ca` is the public key of the device certificate authority. -/
def QuoteMsg.verifying (m : QuoteMsg) (ca : Nat) : List Nat :=
  let head := quoteHeader m.signed m.mode m.qflags m.nonce m.serial m.hwid ⟨m.idHash, m.version⟩ m.stamp m.addr m.pair
  threeIdx (fun x => bitOf m.signed x && Config.ecdsaOk (Config.attKey ca m.serial x) (head ++ tallyBlock (m.tallies.get x)) (m.sigs.get x))

/-- R431: two signatures verify, and the tallies of every spire that verifies are as expected. -/
def QuoteMsg.sound (m : QuoteMsg) (ca : Nat) : Bool :=
  Nat.ble 2 (m.verifying ca).length && (m.verifying ca).all (fun x => m.talliesOk.get x)

/-- R299 step 3: the system master's decision on a node's quote. -/
def State.judgeNode (s : State) (b : Bool) (q : AdmQuote) (m : QuoteMsg) : State :=
  let id : ImageId := ⟨m.idHash, m.version⟩
  if !m.sound s.settings.caKey then s.broadcast b 2 1 q.addr id
  else if !s.settings.manifest.contains (q.addr, id) then s.broadcast b 2 2 q.addr id
  else if (match q.id with | some i => decide (i ≠ id) | none => false) then s.broadcast b 2 4 q.addr id
  else s.broadcast b 1 0 q.addr id

/-- The requests of this module as system master that a quote answers. -/
def State.answersNode (s : State) (b : Bool) (m : QuoteMsg) : State :=
  if s.isSm b then
    match (s.node b).quotes.find? (fun (q : AdmQuote) => q.addr == m.src && q.nonce == m.nonce) with
    | some q => s.judgeNode b q m
    | none => s
  else s

/-- R171: a quote of a boundary peer in answer to this module's nonce: identity and mode. -/
def State.answersPeer (s : State) (m : QuoteMsg) : State :=
  match s.peers.find? (fun (p : PeerSt) => (p.addr == m.pair || p.addr == m.src) && p.nonce == some m.nonce) with
  | none => s
  | some p =>
    if !m.sound s.settings.caKey then s
    else
      let ids := ((s.content.peers.find? (fun (d : PeerDef) => d.addr == p.addr)).map PeerDef.ids).getD []
      let good := ids.contains ⟨m.idHash, m.version⟩ && (m.mode == 6 || m.mode == 7 || m.mode == 8)
      let upd (e : PeerSt) : PeerSt :=
        if e.addr = p.addr then { e with nonce := none, quoteMode := m.mode, quoteNs := if good then some s.time.clockNs else none } else e
      let s := { s with peers := s.peers.map upd }
      if good then s.admitPeer p.addr else s.lapsePeer p.addr 3

/-- R235, R449: a quote of the partner: the pair is formed; whether it has staged the same delta. -/
def State.answersPair (s : State) (m : QuoteMsg) : State :=
  if s.content.pair.isSome && m.src == s.fld F.PAIR_CONF_PARTNER && s.pair.nonce == some m.nonce
      && Nat.ble 2 (m.verifying s.settings.caKey).length && decide (s.content.id = ⟨m.idHash, m.version⟩) then
    let same := (m.verifying s.settings.caKey).all (fun x => (m.tallies.get x).getD 7 0 == s.tally x 8)
    let p : PairSt := { s.pair with
      nonce := none, quoteNs := some s.time.clockNs, stagedNs := if bitOf m.qflags 1 && same then some s.time.clockNs else none }
    { s with pair := p }
  else s

/-- spec/00 R2: a sound quote shows the bench flag of the module that signed it. -/
def State.seeBench (s : State) (m : QuoteMsg) : State :=
  if m.sound s.settings.caKey then
    s.updNode m.via.beta (fun r => r.updPeer m.src (fun (n : NodeSt) => { n with bench := bitOf m.qflags 0 }))
  else s

/-- QUOTE_RESPONSE (R431); one for a node of the other ring is relayed by the gateway (spec/13 R302). -/
def execQuoteResponse (m : QuoteMsg) (s : State) : Host.Outcome State Fault Refusal :=
  act s fun s =>
    let s := s.relayTo m.via (.relayQuote (!m.via.beta) m)
    if m.via.dst ≠ s.own m.via.beta then s
    else
      let s := (s.seeBench m).answersNode false m
      let s := if s.betaIndep then s.answersNode true m else s
      ((s.answersPeer m).answersPair m).leaveIntegrate false

/-- The effect of a value written to ATT_CTRL (R435). -/
def State.attCtrl (s : State) (a : Nat) : State := if bitOf a 0 then s.each s.compared fun s x => s.wr R.ATT_QCNT 0 x else s

/-- ATT_CTRL.CLR_CNT (R435). -/
def execAttCtrlClrCnt (c : Svc) (v : SpireVals) (s : State) : Host.Outcome State Fault Refusal :=
  act s fun s => s.svcWriteSpires c (R.ATT_CTRL.key 0 0) v fun a s => s.attCtrl a

end Sys2Proof.Machine
end

