-- ==== Sys2Proof/Machine/Belfry.lean ====
section
/-! DEFINITION. The meanings of the belfry's commands (spec/10). -/

namespace Sys2Proof.Machine

/-- RECORD_COMPARE (R207, R208, R217 to R222): the next record of every compared stream is there and is compared; `mate` is
the second triple of the same clock. -/
def execRecordCompare (o : CompareOp) (mate : Option CompareOp) (s : State) : Host.Outcome State Fault Refusal :=
  act s fun s =>
    if s.comparing && s.recsDue 0 then
      let r := s.readTriple 0 o
      let m := r.1.readMate 1 mate
      (m.1.judgeClock (r.2 :: m.2) []).1
    else s

/-- LAG_TIMEOUT (R209, R210): some compared stream has not delivered the record that another has delivered. -/
def execLagTimeout (s : State) : Host.Outcome State Fault Refusal :=
  act s fun s =>
    if s.comparing && s.compared.any (fun x => (s.headRec x).isSome) && s.compared.any (fun x => (s.headRec x).isNone) then
      s.judgeHeads ⟨[], []⟩
    else s

/-- A spire is in L4. -/
def State.inL4 (s : State) : Bool := s.compared.any (fun x => s.fld (pwrField x) == 4)

/-- TICK_WINDOW (R215, R216): the window that the present tick opened closes at the next tick angle. One that opened while the
spires were in L4 is compared in no spire and not counted (spec/19 R418). -/
def execTickWindow (w : WindowOp) (s : State) : Host.Outcome State Fault Refusal :=
  act s fun s =>
    if s.comparing && s.tbMs != 0 then
      let k := ticksAt s.tbMs s.time.angle - 1
      let number := s.time.count * s.tbMs + k
      let asleep := s.bf.openL4
      let s := s.advanceTo (tickAngle s.tbMs (k + 1))
      let s := { s with bf := { s.bf with openL4 := s.inL4 } }
      if asleep then s else s.judgeWindow 2 number 0 w true
    else s

/-- SERVICE_WINDOW_CLOSE (R216): the signatures of a service task with its 16-bit identity. -/
def execServiceWindowClose (id : Nat) (w : WindowOp) (s : State) : Host.Outcome State Fault Refusal :=
  act s fun s => if s.comparing then s.judgeWindow 3 0 (id % 65536) w false else s

/-- R224: all four tests passed: QUIET, or LATCHED where the source is latched already. `at'` is the clock value at the end
of tests 1 to 3, from which the quiet period counts (R478, spec/17 R381). -/
def State.selftestPassed (s : State) (x at' : Nat) : State :=
  let k := 24 * x + 10
  let src := s.src k
  if src.st = .latched then
    let s := { s with bf := { s.bf with spst := s.bf.spst.set x .latched } }
    (s.record .spireReintLatched srcBelfry x src.winCnt).showReint x 3 0
  else
    let s := if src.cond && !src.force then s.endCondAt k at' else s
    let s := { s with bf := { s.bf with spst := s.bf.spst.set x .quiet } }
    if s.bf.freed.get x then
      if s.quietCode k = 0 then s.quietSpire k
      else s.updSrc k (fun q => { q with quietEnd := at' + quietNs (s.quietCode k) })
    else if (s.src k).st = .clear then s.quietSpire k
    else s

/-- R224: a test failed: LATCHED, with the test and its result; SP_SELFTEST is raised. -/
def State.selftestFailed (s : State) (x test result : Nat) : State :=
  let s := { s with bf := { s.bf with spst := s.bf.spst.set x .latched } }
  ((s.record .spireSelftestFail (srcSpire x) test result).latchSrc (24 * x + 10)).raise (24 * x + 11) false test result

/-- BF_ST_RES of a self-test that has ended (R234). -/
def State.showSelftest (s : State) (x passed corr ms : Nat) : State :=
  s.bfWr R.BF_ST_RES (2 ^ min passed 4 - 1 + 16 + x % 4 * 32 + min corr 255 * 256 + min ms 65535 * 65536)

/-- R223: the tests passed in order: more than 64 corrected words fail test 3. -/
def SpireTest.tests (t : SpireTest) : Nat := if 64 < t.dramCorr then min t.passed 2 else t.passed

/-- R200, R223: as `SpireTest.tests`, and a faulty bank fails test 2. -/
def State.testsPassed (s : State) (t : SpireTest) : Nat := if s.bankFaulty t.spire then min t.tests 1 else t.tests

/-- spec/20 R427: the repeated tallies equal those of the compared spires. -/
def State.talliesRepeat (s : State) (x : Nat) : Bool := s.compared.all (fun y => s.startDigests y == s.startDigests x)

/-- SPIRE_SELFTEST_END (R223, R224): the measured start of the spire has been repeated with the tests (spec/20 R427);
a spire whose measured start failed, or whose tallies differ, has not passed. -/
def execSpireSelftestEnd (t : SpireTest) (s : State) : Host.Outcome State Fault Refusal :=
  act s fun s =>
    let x := t.spire
    if x < 3 && s.bf.spst.get x == .selftest then
      let s := s.mapRows x t.rows
      let n := s.testsPassed t
      let s := (s.measuredStart x t.start).showSelftest x n t.dramCorr t.durMs
      if 4 ≤ n && s.startEnds t.start && s.talliesRepeat x then s.selftestPassed x (s.time.clockNs - t.reloadMs * 1000000)
      else
        let s := s.selftestFailed x (min (n + 1) 5) t.dramCorr
        if s.trial then s.revert 4 else s
    else s

/-- SELFTEST_TIMEOUT (R224): the test in progress 6 s after CRST has failed. -/
def execSelftestTimeout (spire test : Nat) (s : State) : Host.Outcome State Fault Refusal :=
  act s fun s =>
    if spire < 3 && s.bf.spst.get spire == .selftest then
      let s := (s.showSelftest spire (test - 1) 0 6000).selftestFailed spire test 0
      if s.trial then s.revert 4 else s
    else s

/-- The state of the spire that a snapshot brings: memories, keep and timers of the seal (R226). -/
def Spire.fromSnapshot (p : Spire) (n : Snapshot) (nslots : Nat) : Spire :=
  { p with eng := Eng.idle, mem := n.mem, keep := n.keep, pg := { p.pg with nslots := nslots, slots := [] } }

/-- R226: the donors' copies of seal `m` differ, at `off`: back to QUIET, retried from the next seal. -/
def State.donorMismatch (s : State) (spire off m : Nat) : State :=
  let s := { s with bf := { s.bf with
    spst := s.bf.spst.set spire .quiet, copySeq := s.bf.copySeq.set spire none, entering := s.bf.entering.set spire false } }
  ((s.record .reintDonor (srcSpire spire) off m).raise 80 false spire 0).countRetry spire 1

/-- R226: the offset of the first word in which what the two donors send differs: `seen` where the comparison found one;
where their contents differ (`same` fails) a free offset (log entry 102). -/
def State.donorDiff (s : State) (same : Bool) (seen : Option Nat) : State × Option Nat :=
  match seen with
  | some off => (s, some off)
  | none => if same then (s, none) else (s.draw.2, some (s.draw.1 % 2 ^ 25))

/-- REINT_COPY_COMPLETE (R226): both donors have sent the snapshot; a word in which the copies differ sends the spire
back to QUIET. -/
def execReintCopyComplete (spire : Nat) (mismatch : Option Nat) (s : State) : Host.Outcome State Fault Refusal :=
  act s fun s =>
    match s.compared, s.bf.copySeq.get spire with
    | [d, e], some m =>
      if spire < 3 && s.bf.spst.get spire == .copy then
        match (s.spire d).pg.snaps.find? (fun n => n.seq == m), (s.spire e).pg.snaps.find? (fun n => n.seq == m) with
        | some n, some o =>
          let r := s.donorDiff (n == o && s.donorRegsAgree d e) mismatch
          match r.2 with
          | some off => r.1.donorMismatch spire off m
          | none =>
            let s := (r.1.updSpire spire (fun p => p.fromSnapshot n (r.1.spire d).pg.nslots)).takeRegs spire d
            { s with bf := { s.bf with spst := s.bf.spst.set spire .join } }
        | _, _ => s
      else s
    | _, _ => s

/-- R226: the deltas and the registers that the two donors send in JOIN agree. -/
def State.donorsAgree (s : State) (d e : Nat) : Bool :=
  (s.spire d).mem == (s.spire e).mem && (s.spire d).keep == (s.spire e).keep && s.donorRegsAgree d e

/-- R227: the spire joins: it takes the delta and the registers of donor d, and enters at the first release after the hold
(`State.enterJoined`). -/
def State.rejoin (s : State) (spire d us : Nat) : State :=
  let s := (s.takeRegs spire d).countForces.forceSource
  if s.bf.spst.get spire != .join then s else
  let s := s.updSpire spire (fun p => { p with mem := (s.spire d).mem, keep := (s.spire d).keep })
  let s := (s.showReint spire 0 us).peak F.KP_PEAK_OPEN_MAX (s.spire spire).keep.openCount spire
  let s := { s with bf := { s.bf with
    entering := s.bf.entering.set spire true
    uncounted := s.bf.uncounted.set spire false
    retries := s.bf.retries.set spire 0
    copySeq := s.bf.copySeq.set spire none } }
  let s := s.record .spireRejoined srcBelfry spire us
  (if s.mode.cur = .active2oo2 then s.setMode .active 9 else s).endJoinHold

/-- SPIRE_REJOINED (R226, R227): the delta of the seal is taken from both donors, compared and applied within 5,000 us of the
seal's completion; a difference sends the spire back to QUIET. Else it joins, and takes its first record position,
signature window and output word from the first release after the hold. -/
def execSpireRejoined (spire : Nat) (mismatch : Option Nat) (s : State) : Host.Outcome State Fault Refusal :=
  act s fun s =>
    match s.compared with
    | [d, e] =>
      let us := (s.time.clockNs - s.bf.joinSince) / 1000
      if spire < 3 && s.bf.spst.get spire == .join && !s.bf.entering.get spire && s.bf.joinHold && Nat.ble us 5000 then
        let r := s.donorDiff (s.donorsAgree d e) mismatch
        match r.2 with
        | some off => (r.1.donorMismatch spire off s.pair.snapSeq).endJoinHold
        | none => r.1.rejoin spire d us
      else s
    | _ => s

/-- REINT_JOIN_TIMEOUT (R227): the report did not come; the spire stays in JOIN for the next seal. -/
def execReintJoinTimeout (spire : Nat) (s : State) : Host.Outcome State Fault Refusal :=
  act s fun s =>
    if spire < 3 && s.bf.spst.get spire == .join && !s.bf.entering.get spire && s.bf.joinHold then
      let s := s.advanceClockTo (s.bf.joinSince + 5000000)
      (((s.event .reintJoin srcBelfry spire).raise 81 false spire 0).countRetry spire 2).endJoinHold
    else s

/-- A BF_CMD value of command `cmd` (R234). -/
def bfCmdIs (cmd v : Nat) : Bool := bits v 2 2 == cmd

/-- The first slice that takes writes, whose copy the change log names (spec/00 R12). -/
def State.leadSlice (s : State) : Nat := s.liveSlices.headD 0

/-- A service write reaches the slices that are not isolated (spec/00 R12). -/
def State.bfWriteLive (s : State) (r : Reg) (v : Nat) : State := s.each s.liveSlices fun s c => s.wr r v c

/-- R9 for BF_CMD.BUSY. -/
def State.bfCmdRo (s : State) (a : Nat) : Bool := roOk R.BF_CMD.addr (s.word (R.BF_CMD.key s.leadSlice 0)) a

/-- R234, R478: may this value of command 1 be written: three spires are compared and the named one is one of them? -/
def State.bfIsolateOk (s : State) (a : Nat) : Bool :=
  bfCmdIs 1 a && s.isCompared (bits a 0 2) && Nat.blt (bits a 0 2) 3 && s.compared.length == 3

/-- Its effect. -/
def State.bfIsolate (s : State) (a : Nat) : State := (s.bfWriteLive R.BF_CMD (a % 16)).isolateSpire (bits a 0 2) 0 true

/-- BF_CMD_ISOLATE (R234, R478). -/
def execBfCmdIsolate (c : Svc) (v : SpireVals) (s : State) : Host.Outcome State Fault Refusal :=
  act s fun s => s.svcRwmSlices c (R.BF_CMD.key 0 0) (s.rd R.BF_CMD s.leadSlice) v (fun a s => s.bfIsolateOk a && s.bfCmdRo a) fun a s => s.bfIsolate a

/-- R232 to R234: may this value of command 2 be written? -/
def bfInjectOk (a : Nat) : Bool := bfCmdIs 2 a && Nat.blt (bits a 0 2) 3

/-- Its effect: the injection test runs; `fail` is its first failure: slice, group, pattern. A failure takes the module to
SAFE-HALT. -/
def State.bfInject (s : State) (a : Nat) (fail : Option (Nat × Nat × Nat)) : State :=
  let s := s.bfWriteLive R.BF_CMD (a % 16)
  match fail with
  | none => ({ s with bf := { s.bf with injectFailed := false } }).bfWr R.BF_INJ 1
  | some (slice, group, pattern) =>
    let s := ({ s with bf := { s.bf with injectFailed := true } }).bfWr R.BF_INJ
      (1 + 2 ^ (slice % 3 + 1) + group % 16 * 16 + pattern % 512 * 65536)
    (s.record .bfInjectFail srcBelfry (slice * 256 + group) pattern).raise 77 false slice group

/-- BF_CMD_INJECT (R232 to R234): the injection test runs on request; a write of access RWM is taken in MAINTENANCE alone. -/
def execBfCmdInject (c : Svc) (v : SpireVals) (fail : Option (Nat × Nat × Nat)) (s : State) : Host.Outcome State Fault Refusal :=
  act s fun s => s.svcRwmSlices c (R.BF_CMD.key 0 0) (s.rd R.BF_CMD s.leadSlice) v (fun a s => bfInjectOk a && s.bfCmdRo a) fun a s => s.bfInject a fail

/-- The effect of a value written to BF_CTRL (R234): bit 0 clears BF_FIFO_MAX and BF_RECS to BF_ECC. -/
def State.bfCtrl (s : State) (a : Nat) : State :=
  if bitOf a 0 then
    s.each s.liveSlices fun s c =>
      let s := (((s.wr R.BF_FIFO_MAX 0 c).wr R.BF_RECS 0 c).wr R.BF_BARRIERS 0 c).wr R.BF_SIGWIN 0 c
      ([0, 1, 2].foldl (fun s x => s.wr R.BF_WAIT 0 x c) s).wr R.BF_ECC 0 c
  else s

/-- BF_CTRL_CLR_CNT (R234). -/
def execBfCtrlClrCnt (c : Svc) (v : SpireVals) (s : State) : Host.Outcome State Fault Refusal :=
  act s fun s => s.svcWriteSlices c (R.BF_CTRL.key 0 0) v fun a s => s.bfCtrl a

end Sys2Proof.Machine
end

