-- ==== Sys2Proof/Machine/Can.lean ====
section
/-! DEFINITION. The meanings of the object-controller buses' commands (spec/14). -/

namespace Sys2Proof.Machine

/-- CAN_FRAME_RX (R316, R319, R323, R326): a frame taken in by a channel that receives. -/
def execCanFrameRx (f : CanRx) (s : State) : Host.Outcome State Fault Refusal :=
  act s fun s =>
    if s.canUp f.ch then
      let s := s.bumpReg R.CAN_RXCNT f.ch
      let s := (s.setFld F.CAN_ERR_REC (s.fld F.CAN_ERR_REC f.ch - 1) f.ch).canConfine f.ch
      let s := if (s.stampAt f.ch f.sof f.prevRound).isNone then s.canRej F.CAN_REJ_STAMP f.ch else s
      if f.remote then s.canRej F.CAN_REJ_FORMAT f.ch
      else match s.chDef f.ch with
        | none => s
        | some c =>
          match c.ctls.find? (fun d => d.statId == f.id) with
          | some d => s.takeStatus c d f
          | none =>
            if s.ownId c f.id then s.canRej F.CAN_REJ_FORMAT f.ch
            else match c.rx.zipIdx.find? (fun e => e.1.1 == f.id) with
              | some e => s.updChan f.ch (fun k => { k with plain := Sparse.set (fun _ => []) k.plain e.2 f.data })
              | none => s
    else s

/-- R324: the attempt of the head entry has ended without success; the emission that fell due meanwhile replaces it. -/
def State.headAgain (s : State) (ch clash : Nat) : State :=
  s.updChan ch (fun c => match c.queue with
    | [] => c
    | e :: t => { c with queue := { e with data := e.again.getD e.data, again := none, clash := clash } :: t })

/-- The first `k` bits of 8 received bytes, the bits after the error 0 (R326, R329). -/
def clashBits (k rx0 rx1 : Nat) : Nat :=
  let v := (rx0 % 2 ^ 32) * 2 ^ 32 + rx1 % 2 ^ 32
  if 64 ≤ k then v else v / 2 ^ (64 - k) * 2 ^ (64 - k)

/-- R326: the third error in the data field in a row withdraws the entry and blocks its identifier. -/
def State.withdraw (s : State) (ch : Nat) (e : CanEntry) (bit rx0 rx1 : Nat) : State :=
  let own := beNat ((e.data ++ List.replicate 8 0).take 8)
  let rx := clashBits (bit + 1) rx0 rx1
  let s := s.updChan ch (fun c => { c with queue := c.queue.tail, blocked := if c.blocked.contains e.id then c.blocked else e.id :: c.blocked })
  let s := if e.again.isSome then s.canDrop ch 1 else s
  let s := (s.wr R.CAN_CLASH_ID e.id ch).setFlag F.CAN_STATUS_BLOCKED true ch
  let s := ((s.wr R.CAN_CLASH_OWN0 (own / 2 ^ 32) ch).wr R.CAN_CLASH_OWN1 own ch)
  let s := ((s.wr R.CAN_CLASH_RX0 (rx / 2 ^ 32) ch).wr R.CAN_CLASH_RX1 rx ch)
  (s.record .canIdClash srcComms e.id bit).raise 97 false ch 0

/-- CAN_TRANSMIT_END (R324 to R326): an attempt of the head entry ends. An injection of checker 7 makes the receivers
reject the frame (spec/17 R388). -/
def execCanTransmitEnd (ch : Nat) (e : CanTxEnd) (s : State) : Host.Outcome State Fault Refusal :=
  act s fun s =>
    match s.canUp ch, (s.chan ch).queue with
    | true, h :: t =>
      let inj := match e with | .sent => s.takeInject 7 ch 0 | _ => (none, s)
      let s := inj.2
      match (if inj.1.isSome then CanTxEnd.error else e) with
      | .sent =>
        let s := s.updChan ch (fun c => { c with queue := t })
        let s := (s.bumpReg R.CAN_TXCNT ch).setFld F.CAN_ERR_TEC (s.fld F.CAN_ERR_TEC ch - 1) ch
        let s := s.canConfine ch
        match h.again with
        | some d => s.canAppend ch ⟨h.id, h.msg, d, 0, none⟩
        | none => s
      | .lost => s.headAgain ch 0
      | .error => (s.headAgain ch 0).txError ch
      | .dataError bit rx0 rx1 =>
        if 3 ≤ h.clash + 1 then (s.withdraw ch h bit rx0 rx1).txError ch
        else (s.headAgain ch (h.clash + 1)).txError ch
    | _, _ => s

/-- CAN_BUSOFF (R325). -/
def execCanBusoff (ch : Nat) (s : State) : Host.Outcome State Fault Refusal :=
  act s fun s => if s.canUp ch then (s.setFld F.CAN_ERR_TEC 256 ch).busOff ch else s

/-- CAN_BUSOFF_RECOVERY (R325): after 128 occurrences of 11 recessive bits. -/
def execCanBusoffRecovery (ch : Nat) (s : State) : Host.Outcome State Fault Refusal :=
  act s fun s =>
    if ch < 40 && s.fld F.CAN_STATUS_BUS ch == 2 then
      let s := ((s.setFld F.CAN_STATUS_BUS 0 ch).setFld F.CAN_ERR_TEC 0 ch).setFld F.CAN_ERR_REC 0 ch
      let s := s.bump F.CAN_ERR_BUSOFF_CNT ch
      let g := ch / 8
      let k := 92 + g
      if (List.range 8).any (fun i => s.fld F.CAN_STATUS_BUS (8 * g + i) == 2) || !(s.src k).cond || (s.src k).force then s else s.endCond k
    else s

/-- CAN_GROUP_FAIL (R314): a group supply fails; every channel of the group shows it. -/
def execCanGroupFail (g : Nat) (s : State) : Host.Outcome State Fault Refusal :=
  act s fun s =>
    if g < 5 then
      let s := s.each (List.range 8) fun s i => s.setFlag F.CAN_STATUS_GROUP_FAIL true (8 * g + i)
      s.raise 98 false g 0
    else s

/-- R328: does this event wake the channel, and with which cause? -/
def CanChDef.wakes (c : CanChDef) (e : CanWakeEv) : Option Nat :=
  match e with
  | .dominant us => if c.wakeMode = 0 ∧ 5 ≤ us then some 1 else none
  | .frame id data => if c.wakeMode = 1 ∧ id = c.wakeId ∧ (data ^^^ c.wakeData) &&& c.wakeMask = 0 then some 2 else none

/-- CAN_WAKE (R328): the frame that woke the channel is not delivered. -/
def execCanWake (ch : Nat) (e : CanWakeEv) (s : State) : Host.Outcome State Fault Refusal :=
  act s fun s =>
    if s.asleep ch then
      match s.chDef ch with
      | some c => match c.wakes e with | some k => s.canAwake ch k | none => s
      | none => s
    else s

/-- The counts of a channel that CAN_CTRL.CLR_CNT clears (R329). -/
def State.canClear (s : State) (ch : Nat) : State :=
  let s := (s.setFld F.CAN_TXQ_PEAK 0 ch).setFld F.CAN_TXQ_DROP 0 ch
  let s := ((s.wr R.CAN_TXCNT 0 ch).wr R.CAN_RXCNT 0 ch).wr R.CAN_REJ 0 ch
  s.setFld F.CAN_ERR_BUSOFF_CNT 0 ch

/-- CAN_CTRL_CLR_CNT (R329). -/
def execCanCtrlClrCnt (c : Svc) (ch : Nat) (s : State) : Host.Outcome State Fault Refusal :=
  act s fun s => s.service c fun x s => if 40 ≤ ch then s.refuse x (R.CAN_CTRL.key ch 0) else (s.answer x).canClear ch

end Sys2Proof.Machine
end

