-- ==== Sys2Proof/Machine/Pager.lean ====
section
/-! DEFINITION. The image pager and the banks (spec/09): fills, write-backs, the scrub, snapshots, march tests. -/

namespace Sys2Proof.Machine

/-! ### Lead fills and fills (R186, R187, R190) -/

/-- R187: PF_LEAD before an angle: how many base cycles earlier, and the angle there. -/
def State.leadAngle (s : State) (angle : Nat) : Nat × Nat :=
  let n := s.content.sched.pfLead
  if n ≤ angle then (0, angle - n) else (1, angle + 65536 - n)

/-- R187: the lead angle in the present base cycle of a periodic task, which is due in the cycle of its release; of the sweep,
the one of its next start angle. -/
def State.leadNow (s : State) (task : Nat) : Option Nat :=
  if task = 24 then
    if s.sweepMode then ((s.content.sched.starts.map (fun a => (s.leadAngle a).2)).filter (fun a => Nat.ble s.time.angle a)).min?
    else none
  else match s.taskDef task with
    | some d =>
      let l := s.leadAngle d.relAng
      if d.code < 8 ∧ (s.time.count + l.1) % 2 ^ d.periodExp = d.phase ∧ s.time.angle ≤ l.2 then some l.2 else none
    | none => none

/-- LEAD_FILL_START (R187): PF_LEAD CAU before the release angle of a periodic task or a sweep start angle. -/
def execLeadFillStart (task : Nat) (s : State) : Host.Outcome State Fault Refusal :=
  act s fun s =>
    match s.leadNow task with
    | some a => if s.mode.cur.runs then ((s.advanceTo a).updTask task (fun t => { t with lead := true })).startFills else s
    | none => s

/-- PAGE_FILL (R186, R189, R190): the fill in progress ends in a slot; `err` is the DRAM error it meets. The channel serves its
requests in their order, so that no other page's fill can end; one that finds no slot free waits. -/
def execPageFill (spire : Nat) (page : PageId) (err : Option Bool) (s : State) : Host.Outcome State Fault Refusal :=
  act s fun s =>
    let s := if s.isCompared spire && s.mode.cur.runs then s.startFill spire else s
    if spire < 3 && s.img.isSome && s.mode.cur.runs && (s.spire spire).pg.filling == some page then
      if (s.place spire ⟨page, 0, false, false, false, false⟩).isNone then s
      else
        let r := s.dramRead spire err
        let s := r.1.updPg spire (fun g => { g with filling := none })
        let s := if s.resident spire page then s else s.filled spire page false r.2
        if s.isCompared spire then s.startFill spire else s
    else s

/-! ### Write-backs and Q copies -/

/-- WRITE_BACK (R188): the frame part of a dirty group page that has passed its finial is read through the pager port and
written back. -/
def execWriteBack (spire group : Nat) (p : PortOp) (s : State) : Host.Outcome State Fault Refusal :=
  act s fun s =>
    let busy := (s.eng spire).run && (s.eng spire).group == group
    let dirty (s : State) : Bool := (s.spire spire).pg.slots.any (fun q => q.page == .group group && q.dirty)
    if spire < 3 && !busy && dirty s then
      let s := s.pageRead spire (.group group) p
      if dirty s then
        (s.updPg spire (fun g => { g with
          slots := g.slots.map (fun q => if q.page = .group group then { q with dirty := false } else q) })).bumpReg R.PG_WBACK spire
      else s
    else s

/-- Q_PAGE_COPY (R194): the copy of the next Q page ends: the pages go in ascending order, the tasks in that of their last
finials. -/
def execQPageCopy (spire page : Nat) (p : PortOp) (s : State) : Host.Outcome State Fault Refusal :=
  act s fun s =>
    if spire < 3 then
      match (s.spire spire).pg.qpend with
      | e :: _ =>
        if e.1 = page then
          let s := s.pageRead spire (.q page) p
          if (s.spire spire).pg.qpend.contains e then s.qCopyPage spire e.2 page else s
        else s
      | [] => s
    else s

/-! ### Scrub (R181) -/

/-- R416 of spec/19: a spire in L2 or deeper holds its scrub and its march steps. -/
def State.awake (s : State) (x : Nat) : Bool := Nat.ble (s.fld (pwrField x)) 1

/-- R196: the keep audit runs, and the bank is one of the keep or of the transaction table. -/
def State.keepClosed (s : State) (bank : Nat) : Bool :=
  s.sched.cur == 25 && (s.content.banks.getD bank 0 == 2 || s.content.banks.getD bank 0 == 3)

/-- SCRUB_READ (R180, R181): the next word is read through the pager port, one per 64 clocks, while the spire is in L0 or L1:
its pass then takes the time spent there (spec/19 R416). While the audit runs, a keep bank turns it away (R196). -/
def execScrubRead (spire : Nat) (p : PortOp) (s : State) : Host.Outcome State Fault Refusal :=
  act s fun s =>
    if spire < 3 && s.awake spire then
      let w := (s.spire spire).pg.scrubPos
      let bank := w / 32768
      if s.keepClosed bank then s.collide spire bank (max 1 p.coll)
      else (s.updPg spire (fun g => { g with scrubPos := (w + 1) % 786432 })).portRead spire bank p
    else s

/-! ### Snapshots (R193) -/

/-- The copies of a seal have ended in every compared spire: spires that wait for a snapshot take this one (spec/10
R226), and the delta is sent (spec/11 R241). -/
def State.copiesEnded (s : State) : State :=
  match (s.spire s.bodySpire).pg.snaps with
  | [] => s
  | n :: _ =>
    let s := { s with bf := { s.bf with
      copySeq := s.bf.copySeq.mapI (fun x c => if s.bf.spst.get x == SpireState.copy && c.isNone && s.compared.length = 2 then some n.seq else c) } }
    s.startDelta

/-- A read of the DRAM of spire x outside a fill: an uncorrectable error raises SP_DRAM. -/
def State.dramOther (s : State) (x : Nat) (err : Option Bool) : State :=
  let r := s.dramRead x err
  if r.2 then r.1.raise (24 * x + 6) else r.1

/-- SNAPSHOT_COPY_COMPLETE (R193): the snapshot channel of a spire has copied every frame part of the seal; `err` is the DRAM
error it met. -/
def execSnapshotCopyComplete (spire : Nat) (err : Option Bool) (s : State) : Host.Outcome State Fault Refusal :=
  act s fun s =>
    if spire < 3 && (s.spire spire).pg.copying then
      let s := (s.updPg spire (fun g => { g with copying := false })).dramOther spire err
      if s.isCompared spire && s.compared.all (fun x => !(s.spire x).pg.copying) then s.copiesEnded else s
    else s

/-! ### March tests (R199 to R203) -/

/-- R202: a faulty row of spire x: a spare takes it, or none is left. -/
def State.spareRow (s : State) (x bank row : Nat) : State :=
  let g := (s.spire x).pg
  let s := s.mapRow x bank row
  if g.repair.contains (bank, row) then s
  else if g.sparesOf bank < 8 then (s.record .bankRowSpared (srcSpire x) bank row).raise (24 * x + 5) false bank 4
  else s.raise (24 * x + 5) true bank 4

/-- MT_STATUS of spire x after a step: 0 pass, 1 rows spared, 2 bank faulty; the first faulty row of the test stays. -/
def State.showMarch (s : State) (x bank : Nat) (fresh : Bool) (row : Option Nat) (busy : Bool) : State :=
  let s := if fresh then s.wr R.MT_STATUS (bank * 8) x else s.setFld F.MT_STATUS_BANK bank x
  let s := s.setFlag F.MT_STATUS_BUSY busy x
  match row with
  | none => s
  | some r =>
    let s := if s.fld F.MT_STATUS_RESULT x = 0 then s.setFld F.MT_STATUS_ROW r x else s
    s.setFld F.MT_STATUS_RESULT (if s.flag F.BANK_STAT_FAULTY bank x then 2 else max 1 (s.fld F.MT_STATUS_RESULT x)) x

/-- One 4 KiB step in compared spire x, of a test that has more steps to come when `more`; a fault that isolates the spire
resets it with its registers. -/
def State.marchSpire (s : State) (x bank : Nat) (fresh : Bool) (row : Option Nat) (more : Bool) : State :=
  let s := match row with | some r => s.spareRow x bank r | none => s
  if s.isCompared x then s.showMarch x bank fresh row more else s

/-- Entries of a sparse space in [a, a + n) replaced by those of `l`. -/
def replaceIn {α : Type} [DecidableEq α] (d : α) (m : Sparse α) (a n : Nat) (l : Sparse α) : Sparse α :=
  l.foldl (fun m e => Sparse.set (fun _ => d) m e.1 e.2) (m.filter (fun e => !(Nat.ble a e.1 && Nat.blt e.1 (a + n))))

/-- The bits that bytes spell, from bit `a` up. -/
def bitsFrom (a : Nat) (l : List Byte) : Sparse Bool := l.zipIdx.flatMap (fun e => bitKeys (a + 8 * e.2) e.1)

/-- The words that bytes spell, from word `a` up. -/
def wordsFrom (a n : Nat) (l : List Byte) : Sparse Word := (List.range n).map (fun i => (a + i, BitVec.ofNat 32 (beNat ((l.drop (4 * i)).take 4))))

/-- The memories once bytes stand in a page (R183, R185). -/
def SMem.overwrite (m : SMem) (page : PageId) (l : List Byte) : SMem :=
  match page with
  | .group g => (List.range 8).foldl (fun (m : SMem) i =>
      let p := l.drop (1536 + 320 * i)
      let n := 8 * g + i
      { m with
        f := replaceIn false m.f (512 * n) 512 (bitsFrom (512 * n) (p.take 64))
        v := replaceIn 0 m.v (64 * n) 64 (wordsFrom (64 * n) 64 (p.drop 64)) }) m
  | .q p => { m with q := replaceIn false m.q (32768 * p) 32768 (bitsFrom (32768 * p) l) }
  | .g p => { m with g := replaceIn false m.g (32768 * p) 32768 (bitsFrom (32768 * p) l) }
  | .h p => { m with h := replaceIn 0 m.h (1024 * p) 1024 (wordsFrom (1024 * p) 1024 l) }
  | .input _ _ => m

/-- Where a 4 KiB block of a bank stands in the run of banks of the same use (R68). -/
def ImageContent.bankOffset (m : ImageContent) (bank block : Nat) : Nat :=
  (bank - (m.banks.findIdx? (fun u => u == m.banks.getD bank 0)).getD bank) * 262144 + block * 4096

/-- The keep once bytes stand in a block of the token keep (use 2) or of the transaction table (use 3). -/
def KeepSt.overwrite (p : KeepSt) (use off trans : Nat) (l : List Byte) : KeepSt :=
  if use = 2 then
    { p with tokens := p.tokens.zipIdx.map (fun e =>
        if off / 16 ≤ e.2 ∧ e.2 < off / 16 + 256 then tokenOf ((l.drop (16 * (e.2 - off / 16))).take 16) else e.1) }
  else if use = 3 then
    let n := (List.range 16).filter (fun i => Nat.blt (off / 256 + i) trans)
    { p with slots := replaceIn TSlot.closed p.slots (off / 256) 16 (n.map (fun i => (off / 256 + i, tslotOf ((l.drop (256 * i)).take 256)))) }
  else p

/-- The 64 credit words (R182) once bytes stand in the first block of the lowest scratch bank, or of the lowest frame-page
bank where there is no scratch bank. -/
def State.overwriteCredits (s : State) (bank block : Nat) (l : List Byte) : State :=
  let banks := s.content.banks
  let home := match banks.findIdx? (fun u => u == 6) with | some b => some b | none => banks.findIdx? (fun u => u == 4)
  if home = some bank ∧ block = 0 then
    { s with queues := s.queues.map (fun (e : Nat × QueueSt) => (e.1, { e.2 with held := Three.all (beNat ((l.drop (8 * e.1)).take 8)) })) }
  else s

/-- R203: a destructive step leaves contents in its block that the spec does not give: free values, the same in every
compared spire, which all run the step. -/
def State.destroyBlock (s : State) (bank block : Nat) : State :=
  let use := s.content.banks.getD bank 0
  let off := s.content.bankOffset bank block
  let d := s.draw
  let l := beBytes 4096 d.1
  if use = 2 ∨ use = 3 then d.2.each s.compared fun s x => s.updSpire x (fun p => { p with keep := p.keep.overwrite use off s.content.transactions l })
  else if use = 5 then
    d.2.each s.compared fun s x => s.updSpire x (fun p => { p with mem := { p.mem with t := replaceIn 0 p.mem.t (off / 4) 1024 (wordsFrom (off / 4) 1024 l) } })
  else if use = 4 ∨ use = 6 then
    let s := d.2.overwriteCredits bank block l
    match (s.spire s.bodySpire).pg.slots.find? (fun q => s.content.slotHome q.home == (bank, block)) with
    | none => s
    | some q =>
      match q.page with
      | .input t p => s.updTask t (fun k => { k with input := replaceIn false k.input (32768 * p) 32768 (bitsFrom (32768 * p) l) })
      | page => s.each s.compared fun s x => s.updSpire x (fun g => { g with mem := g.mem.overwrite page l })
  else s

/-- 20 µs in CAU of the present base cycle, rounded up. -/
def State.marginCau (s : State) : Nat := if s.time.tbNs = 0 then 0 else (20000 * 65536 + s.time.tbNs - 1) / s.time.tbNs

/-- R201: the angles at which a release, the intake with it, an output or a seal comes next: of a periodic task, its release
only where it is due. -/
def State.nextAngles (s : State) : List Nat :=
  let k := s.content.sched
  if k.sweep then k.starts ++ k.outs
  else k.sealAng :: (k.tasks.map TaskDef.outAng ++ (k.tasks.filter (fun d =>
    d.code < 8 && (s.time.count + (if d.relAng < s.time.angle then 1 else 0)) % 2 ^ d.periodExp == d.phase)).map TaskDef.relAng)

/-- R201: nothing of these comes within 20 µs, nor does the release of an event task that is pending (what lies behind does not
count: DEDUCED, log entry 119). -/
def State.stepFits (s : State) : Bool :=
  let n := s.marginCau
  s.nextAngles.all (fun a => Nat.blt n ((a + 65536 - s.time.angle) % 65536))
    && s.eventTasks.all (fun d => !(s.task d.code).pend || (match (s.task d.code).rel with
        | some r => Nat.blt (s.absAngle + n) (r + d.minSep)
        | none => false))

/-- MARCH_STEP (R201 to R203): a step of the requested test, which started at a finial barrier or starts at once while no task
runs, or of the automatic pass while the engine is idle, at the block that is next, in all compared spires at once. Where a
task runs, an engine that addresses the fenced 4 KiB waits; the length of the wait is free. While a spire is in L2 or deeper
the step is held (spec/19 R416). -/
def execMarchStep (m : MarchOp) (s : State) : Host.Outcome State Fault Refusal :=
  act s fun s =>
    let cmp := s.compared
    if !cmp.all s.awake then s
    else match (s.spire s.bodySpire).pg.march with
    | some q =>
      if q.bank = m.bank && q.block = m.block && (q.go || s.sched.cur == 31) then
        let more := Nat.blt (q.block + 1) 64
        let s := if q.preserve then s else s.destroyBlock m.bank m.block
        let s := s.each cmp fun s x => (s.collide x m.bank (m.coll.get x)).marchSpire x m.bank (q.block == 0) (m.faulty.get x) more
        let s := if s.sched.cur = 31 then s else s.each s.compared fun s x => if (s.eng x).run then s.stall x stFence else s
        let s := s.each s.compared fun s x => s.setFlag F.BANK_STAT_FENCED (s.content.banks.getD m.bank 0 == 0) m.bank x
        s.each s.compared fun s x => s.updPg x (fun g => { g with march := if more then some { q with block := q.block + 1, go := false } else none })
      else s
    | none =>
      let pos := (s.spire s.bodySpire).pg.autoPos
      if s.flag F.MT_AUTO_PERIOD s.bodySpire && s.sched.cur == 31 && s.stepFits && pos == m.bank * 64 + m.block then
        let s := s.each cmp fun s x => s.marchSpire x m.bank (m.block == 0) (m.faulty.get x) false
        let last := pos + 1 == 1536
        let s := s.each s.compared fun s x => s.updPg x (fun g => { g with autoPos := if last then 0 else pos + 1 })
        if last then s.each s.compared fun s x => s.bumpReg R.MT_PASS x else s
      else s

/-- R203: banks above 23 and algorithms 2 and 3 are refused. -/
def mtOk (a : Nat) : Bool := Nat.ble (a % 32) 23 && Nat.ble (bits a 8 2) 1

/-- The test that a value written to MT_CTRL asks for. -/
def marchReq (a : Nat) : MarchReq := ⟨a % 32, bits a 8 2, bitOf a 12, 0, false⟩

/-- The effect of a value written to MT_CTRL (R203, R204): the test starts at the next finial barrier, or at once while no task
runs. A START while a test runs, or of a destructive test that R203 does not allow, is refused with RESULT 3. -/
def State.mtSet (s : State) (a : Nat) : State :=
  s.each s.compared fun s x =>
    let s := s.wr R.MT_CTRL (a &&& 0x8000131F) x
    if !bitOf a 31 then s
    else if (s.spire x).pg.march.isSome then s.setFld F.MT_STATUS_RESULT 3 x
    else if !s.mayMarch (marchReq a) then s.wr R.MT_STATUS (6 + a % 32 * 8) x
    else
      let s := s.updPg x (fun g => { g with march := some (marchReq a) })
      if s.sched.cur = 31 then s.marchGo x else s

/-- MT_CTRL_START (R203, R204): access RWM. -/
def execMtCtrlStart (c : Svc) (v : SpireVals) (s : State) : Host.Outcome State Fault Refusal :=
  act s fun s => s.svcRwmSpires c (R.MT_CTRL.key 0 0) (s.rd R.MT_CTRL s.bodySpire) v (fun a _ => mtOk a) fun a s => s.mtSet a

/-- The effect of a value written to PG_CTRL. -/
def State.pgCtrl (s : State) (a : Nat) : State :=
  if !bitOf a 0 then s
  else s.each s.compared fun s x =>
    let s := ((s.wr R.PG_FILLS 0 x).wr R.PG_WBACK 0 x).wr R.PG_DEMAND 0 x
    let s := s.each (List.range 5) fun s k => s.wr R.PG_ST 0 k x
    let s := s.wr R.PG_DRAM_ECC 0 x
    s.each (List.range 24) fun s b => (s.setFld F.BANK_STAT_COLL 0 b x).setFld F.BANK_STAT_ECC_CORR 0 b x

/-- PG_CTRL_CLR_CNT (R204). -/
def execPgCtrlClrCnt (c : Svc) (v : SpireVals) (s : State) : Host.Outcome State Fault Refusal :=
  act s fun s => s.svcWriteSpires c (R.PG_CTRL.key 0 0) v fun a s => s.pgCtrl a

end Sys2Proof.Machine
end

