-- ==== Sys2Proof/Machine/SafeIo.lean ====
section
/-! DEFINITION. The meanings of the I/O plane's commands (spec/16). -/

namespace Sys2Proof.Machine

/-- R109: every local input (or pair value) that differs from that before fires the event tasks of its edge. -/
def State.edgeTriggers (s before : State) : State :=
  s.each (List.range 32) fun s i =>
    let a := before.edgeValue i
    let b := s.edgeValue i
    if a == b then s else s.inputTrigger i (if b then 1 else 2)

/-- spec/02 R47: the last anchor of the sample grid, and the one foreseen after it. -/
def State.gridAnchor (s : State) : Option (Nat × Option Nat) :=
  let k := s.fld F.ANCHOR_CFG_REF
  if k = 7 then some (s.time.cycleNs, if s.time.tbNs = 0 then none else some (s.time.cycleNs + s.time.tbNs))
  else s.wv.anchorNs.map (fun a => (a, if (s.wvRef k).valid then some (a + (s.wvRef k).mean) else none))

/-- The first of `a`, `a` + 1 ms, `a` + 2 ms, … that is not before `now`. -/
def stepFrom (a now : Nat) : Nat := a + (now - a + 999999) / 1000000 * 1000000

/-- R47: clock value of the next sample window: at 1 ms steps from the last anchor, but a window that would begin less than
0.5 ms before the next anchor is omitted. Before any anchor, windows follow the first one at 1 ms steps (DESIGN CHOICE, log
entry 98). -/
def State.nextWindow (s : State) : Nat :=
  let last := s.wv.winNs
  let now := match last with | some w => max s.time.clockNs (w + 1) | none => s.time.clockNs
  match s.gridAnchor with
  | none => match last with | some w => stepFrom w now | none => now
  | some (a, next) =>
    if now ≤ a then
      match last with
      | some w => if a < stepFrom w now + 500000 then a else stepFrom w now
      | none => a
    else
      let g := stepFrom a now
      match next with
      | some b => if g ≤ b ∧ b < g + 500000 then b else g
      | none => g

/-- The next window begins. -/
def State.toWindow (s : State) : State :=
  let n := s.nextWindow
  let s := s.passTo (n - s.time.cycleNs)
  { s with wv := { s.wv with winNs := some n } }

/-- R355, R356: the 32 inputs after a window. Without an IO_MAP every input reads 0 (spec/03 R58). -/
def State.windowInputs (s : State) (w : WindowReads) : List InSt :=
  if s.ioMap.isNone then s.io.inputs.map (fun _ => InSt.idle)
  else s.io.inputs.zipIdx.map (fun e => e.1.window (s.inDef e.2) (windowValue (s.inDef e.2) (w.inputs.getD e.2 [])))

/-- SAMPLE_WINDOW (R354 to R360, R371; spec/02 R47): the next window of the sample grid takes every input, every pair and
RESTART_IN; the delivery fires its triggers. -/
def execSampleWindow (w : WindowReads) (s : State) : Host.Outcome State Fault Refusal :=
  act s fun s =>
    let s := s.toWindow
    let before := s
    let s := ({ s with io := { s.io with inputs := s.windowInputs w } }).wbFaults before.io.inputs
    let s := s.each (match s.ioMap with | some m => m.pairs | none => []) State.pairWindow
    let s := s.restartWindow w.restart
    s.edgeTriggers before

/-- R363: the result of a rest check: 0 normal, 1 high-side bypass, 2 low-side bypass, 3 open load, 4 INDET. -/
def restResult (p n : Nat) : Nat :=
  if 12000 ≤ p then 1
  else if p < 1000 ∧ n ≤ 1000 then 2
  else if p < 1000 ∧ 4000 ≤ n then 3
  else if 1000 < p ∧ p < 4000 ∧ 1000 < n ∧ n < 4000 then 0
  else 4

/-- IO_ORBn: the readback. -/
def State.showReadback (s : State) (r : Readback) : State :=
  (s.setFld F.IO_ORB_P_100MV (min (r.pMv / 100) 511) r.out).setFld F.IO_ORB_N_100MV (min (r.nMv / 100) 511) r.out

/-- R363, R372: the check of an output whose switches are both open: three results in a row take effect, the fault of a freed
output at once. -/
def State.restCheck (s : State) (r : Readback) : State :=
  let c := restResult r.pMv r.nMv
  let old := (s.io.outs.getD r.out OutSt.idle)
  let k := if old.rest.1 = c then old.rest.2 + 1 else 1
  let s := { s with io := { s.io with outs := s.io.outs.modify r.out (fun o => { o with rest := (c, min k 4) }) } }
  let s := if 2 < old.recheck && c ≠ 1 && c ≠ 2 then s.recheckPassed r.out else s
  if 0 < old.recheck ∧ (c = 1 ∨ c = 2) then s.bypass r.out c
  else if k < 3 then s
  else if c = 1 ∨ c = 2 then s.bypass r.out c
  else if c = 3 then s.setFlag F.IO_ORB_OPEN_LOAD true r.out
  else if c = 0 then s.setFlag F.IO_ORB_OPEN_LOAD false r.out
  else if k = 3 then s.bump F.IO_TCNT_INDET
  else s

/-- R364: the check of an energised output. -/
def State.liveCheck (s : State) (r : Readback) : State :=
  if r.pMv < 12000 ∨ 3000 < r.nMv then
    let k := (s.io.outs.getD r.out OutSt.idle).deadCnt + 1
    let s := { s with io := { s.io with outs := s.io.outs.modify r.out (fun o => { o with deadCnt := min k 3 }) } }
    if 3 ≤ k then s.setFlag F.IO_ORB_DEAD true r.out else s
  else
    ({ s with io := { s.io with outs := s.io.outs.modify r.out (fun o => { o with deadCnt := 0 }) } }).setFlag F.IO_ORB_DEAD false r.out

/-- R363: a light pulse of another output runs; what is read meanwhile is judged with that pulse (R365). -/
def State.lightPulse (s : State) (n : Nat) : Bool :=
  (List.range 16).any (fun m => m != n && (s.io.outs.getD m OutSt.idle).pulse.isSome && !s.outCommand s.io.word m)

/-- OUTPUT_REST_CHECK (R363, R364): the 1 ms check of one output outside its own pulse. -/
def execOutputRestCheck (r : Readback) (s : State) : Host.Outcome State Fault Refusal :=
  act s fun s =>
    if 16 ≤ r.out || (s.io.outs.getD r.out OutSt.idle).pulse.isSome then s
    else
      let s := s.showReadback r
      if s.outCommand s.io.word r.out then s.liveCheck r else if s.lightPulse r.out then s else s.restCheck r

/-- TEST_PULSE (R364, R366): slot 2n opens or closes the high side of On, slot 2n + 1 its low side. No two pulses
overlap; a latched output receives none; within 2 ms after a change of bit n the pulse waits until they have passed. -/
def execTestPulse (slot : Nat) (s : State) : Host.Outcome State Fault Refusal :=
  act s fun s =>
    let n := slot / 2
    if 32 ≤ slot || s.outLatched n || s.io.outs.any (fun o => o.pulse.isSome) then s
    else
      let o := s.io.outs.getD n OutSt.idle
      let s := if o.changeNs = 0 then s else s.advanceClockTo (o.changeNs + 2000000)
      let high := slot % 2 == 0
      let live := s.outCommand s.io.word n
      let s := { s with io := { s.io with outs := s.io.outs.modify n (fun o => { o with pulse := some high }) } }
      s.emit (.pulse n high !live)

/-- What a test reading says: as expected, the row's fault, between the thresholds (R364). -/
inductive PulseVerdict where
  | pass | fault | between
deriving DecidableEq, Repr

/-- R364: judge the tested terminal: an energised output with its high side open must read LOW at P, with its low side
open HIGH at N; a light pulse must read HIGH at P, LOW at N. -/
def pulseVerdict (live high : Bool) (r : Readback) : PulseVerdict :=
  let v := if high then r.pMv else r.nMv
  let isHigh := Nat.ble 12000 v
  let isLow := Nat.ble v 3000
  let wantHigh := live != high
  if wantHigh then (if isHigh then .pass else if isLow then .fault else .between)
  else if isLow then .pass else if isHigh then .fault else .between

/-- The fault of a row of R364. -/
def State.pulseFault (s : State) (n : Nat) (live high : Bool) : State :=
  if live then s.bypass n (if high then 1 else 2) else s.setFlag F.IO_ORB_DEAD true n

/-- R365: another output that answers a light pulse of On is cross-connected with it; one that does not return to the
rest band is bypassed. -/
def State.crossCheck (s : State) (n : Nat) (high : Bool) (e : Readback × Bool) : State :=
  let m := e.1.out
  let answers := if high then Nat.ble 12000 e.1.pMv else Nat.ble e.1.nMv 1000
  if m = n || 16 ≤ m || s.outCommand s.io.word m || !answers || !s.fsCounts then s
  else if e.2 then s.latchOutputs [(n, m), (m, n)] 3 n
  else s.bypass m (if high then 1 else 2)

/-- TEST_READBACK (R364, R365): the reading 250 us into the pulse of an output. -/
def execTestReadback (r : PulseRead) (s : State) : Host.Outcome State Fault Refusal :=
  act s fun s =>
    let n := r.own.out
    let o := s.io.outs.getD n OutSt.idle
    match o.pulse with
    | none => s
    | some high =>
      let live := s.outCommand s.io.word n
      let s := (s.showReadback r.own).testDone n
      let amb := if high then o.ambHigh else o.ambLow
      let v := pulseVerdict live high r.own
      let setAmb := fun (b : Bool) (s : State) =>
        { s with io := { s.io with outs := s.io.outs.modify n (fun o => if high then { o with ambHigh := b } else { o with ambLow := b }) } }
      let s := match v with
        | .pass =>
          let s := setAmb false s
          let s := if live then s else s.setFlag F.IO_ORB_DEAD false n
          if 0 < o.recheck && Nat.ble o.recheck 2 then s.recheckPassed n else s
        | .fault => (setAmb false s).pulseFault n live high
        | .between => if amb then (setAmb false s).pulseFault n live high else setAmb true s
      if live then s else s.each r.others fun s e => s.crossCheck n high e

/-- TEST_PULSE_END (R364): the pulse ends at 300 us and the switch takes its command again. -/
def execTestPulseEnd (s : State) : Host.Outcome State Fault Refusal :=
  act s fun s => s.each (List.range 16) fun s n => s.endPulse n

/-- OUTPUT_OVERLOAD (R367): above 0.65 A for 10 ms or at the current limit for 1 ms; a group above 2.2 A for 10 ms. -/
def execOutputOverload (o : OverloadOp) (s : State) : Host.Outcome State Fault Refusal :=
  act s fun s =>
    match o with
    | .output n ma us limit =>
      if n < 16 ∧ ((650 < ma ∧ 10000 ≤ us) ∨ (limit ∧ 1000 ≤ us)) then s.latchOutputs [(n, 0)] 4 n else s
    | .group g ma us =>
      if g < 4 ∧ 2200 < ma ∧ 10000 ≤ us then
        let s := s.setFld F.IO_OLAT_GROUP (s.fld F.IO_OLAT_GROUP ||| 2 ^ g)
        s.latchOutputs ([0, 1, 2, 3].map (fun i => (4 * g + i, 0))) 5 g
      else s

/-- The codes of the field-supply states. -/
def FsState.code : FsState → Nat
  | .normal => 0 | .low => 1 | .fault => 2 | .missing => 3

/-- R368: the state that a measurement gives, with the measurements below 16.8 V and 2.0 V in a row (1 ms apart). -/
def fsStateOf (mv below168 below2 : Nat) : FsState :=
  if 7 ≤ below2 then .missing
  else if 7 ≤ below168 ∧ 2000 ≤ mv then .fault
  else if 19200 ≤ mv then .normal else .low

/-- FS_MEASURE (R368): the 1 ms measurement of the field supply. Above its absolute maximum of +36 V (spec/22 R470)
nothing is defined. -/
def execFsMeasure (mv : Nat) (s : State) : Host.Outcome State Fault Refusal :=
  if 36000 < mv then .fault (.beyondRatings "FS")
  else act s fun s =>
    let b168 := if mv < 16800 then s.io.below168 + 1 else 0
    let b2 := if mv < 2000 then s.io.below2 + 1 else 0
    let st := fsStateOf mv b168 b2
    let old := s.io.fs
    let s := { s with io := { s.io with
      fs := st, below168 := min b168 7, below2 := min b2 7
      fsMin := some (match s.io.fsMin with | none => mv / 100 | some m => min m (mv / 100)) } }
    let s := (s.setFld F.IO_FS_MV mv).setFlag F.IO_FS_MISSING (st == .missing)
    if st = old then s
    else
      let s := s.record .ioFs srcIo mv st.code
      if (st = .fault ∨ st = .missing) ∧ s.fld F.IO_OLAT_FS = 0 then
        (s.setFlag F.IO_OLAT_FS true).latchOutputs ((List.range 16).map (fun n => (n, 0))) 6 0
      else s

/-- LOGIC_SILENCE (R369): LS_MS have passed since the last presentation; the timer runs only with an IO_MAP loaded. -/
def execLogicSilence (s : State) : Host.Outcome State Fault Refusal :=
  act s fun s =>
    match s.ioMap, s.io.present with
    | some m, some t =>
      if s.io.silence then s
      else
        let s := s.advanceClockTo (t + m.lsMs * 1000000)
        let s := { s with io := { s.io with silence := true } }
        (s.record .ioLogicSilence srcIo m.lsMs 0).raise 119
    | _, _ => s

/-- HOLD_PRESENTATION (R369): in every mode that does not control track, from the end of BOOT, a word of zeros marked
HOLD. -/
def execHoldPresentation (s : State) : Host.Outcome State Fault Refusal :=
  act s fun s => if s.mode.cur.track || s.mode.cur == .boot then s else s.presentWord 0 true

/-- RESTART_IN_RISE (R371). -/
def execRestartInRise (s : State) : Host.Outcome State Fault Refusal :=
  act s fun s => ({ s with io := { s.io with restart := true, restartCnt := 0 } }).restartRise

/-- RESTART_IN_FALL (R371). -/
def execRestartInFall (s : State) : Host.Outcome State Fault Refusal :=
  act s fun s => ({ s with io := { s.io with restart := false, restartCnt := 0 } }).restartFall

/-- IO_RESTART_STUCK (R371): the high time exceeds 2 s. -/
def execIoRestartStuck (s : State) : Host.Outcome State Fault Refusal :=
  act s fun s => if s.io.edge = .high then (s.advanceClockTo (s.io.riseNs + 2000000001)).restartStuck else s

/-- IO_RESTART_EXPIRED (R371): 10 s have passed in ARMED. -/
def execIoRestartExpired (s : State) : Host.Outcome State Fault Refusal :=
  act s fun s =>
    if s.io.edge = .armed then
      let s := s.advanceClockTo (s.io.armedNs + 10000000000)
      ({ s with io := { s.io with edge := .idle } }).record .ioRestartExpired srcIo 0 0
    else s

/-- IO_RESTART (R371, R372): accepted in ARMED from a maintainer session; the edge reset is performed. -/
def execIoRestart (c : Svc) (s : State) : Host.Outcome State Fault Refusal :=
  act s fun s => s.authorised c cmdIoRestart 0 0 [.maintainer] (fun s => s.io.edge == .armed) fun _ s =>
    ({ s with io := { s.io with edge := .idle } }).edgeReset

/-- R373, R374: may this value stand in IO_OVR? The overridden output is mapped and non-vital. -/
def State.ovrOk (s : State) (v : Nat) : Bool :=
  !bitOf v 5 || (match s.outMap (bits v 0 4) with | some d => !d.vital | none => false)

/-- The effect of a value written to IO_OVR (R373); a lift is recorded. -/
def State.ovrSet (s : State) (value : Nat) : State :=
  let was := s
  let s := s.wr R.IO_OVR (value % 64 + bits value 8 6 * 256)
  let gone := fun (f g : Field) => was.flag f && (!s.flag f || was.fld g != s.fld g)
  let s := if gone F.IO_OVR_OUT_EN F.IO_OVR_OUT then s.event .overrideLift srcIo (was.fld F.IO_OVR_OUT) 5 else s
  let lifted := gone F.IO_OVR_IN_EN F.IO_OVR_IN
  let s := if lifted then s.event .overrideLift srcIo (was.fld F.IO_OVR_IN) 6 else s
  if lifted && (s.io.inputs.getD (was.fld F.IO_OVR_IN) InSt.idle).wb then s.raise 112 false (was.fld F.IO_OVR_IN) 0 else s

/-- IO_OVR_WRITE (R373): in MAINTENANCE by a maintainer session. -/
def execIoOvrWrite (c : Svc) (value : Nat) (s : State) : Host.Outcome State Fault Refusal :=
  act s fun s => s.svcRwm c R.IO_OVR.addr (s.rd R.IO_OVR) value (fun s => s.ovrOk value) fun s => s.ovrSet value

/-- What IO_CTRL.CLR_CNT clears (R374). -/
def State.ioClear (s : State) : State :=
  let s := { s with io := { s.io with fsMin := none } }
  (s.wr R.IO_CNT 0).wr R.IO_TCNT 0

/-- IO_CTRL_CLR_CNT (R374). -/
def execIoCtrlClrCnt (c : Svc) (s : State) : Host.Outcome State Fault Refusal := act s fun s => s.svcWrite c State.ioClear

end Sys2Proof.Machine
end

