-- ==== Sys2Proof/Machine/Service.lean ====
section
/-! DEFINITION. The service side of the comms plane: login and lockout (spec/21 R456), sessions and confirmations
(R440, R454) and address answers (R455). -/

namespace Sys2Proof.Machine

/-! ### Login (R456) -/

/-- The failed proofs and the lockout of a role on a port. -/
def State.lockout (s : State) (port : Nat) (role : Role) : LockoutSt :=
  (s.svc.lockouts.find? (fun (l : LockoutSt) => l.port == port && l.role == role)).getD ⟨port, role, [], false⟩

/-- The service side with that entry replaced, or dropped where nothing is left to remember. -/
def SvcSt.withLockout (v : SvcSt) (l : LockoutSt) : SvcSt :=
  let rest := v.lockouts.filter (fun (e : LockoutSt) => !(e.port == l.port && e.role == l.role))
  { v with lockouts := if l.fails.isEmpty && !l.locked then rest else l :: rest }

/-- The challenge that waits for a proof of a role on a port. -/
def State.challengeFor (s : State) (port : Nat) (role : Role) : Option LoginSt :=
  s.svc.logins.find? (fun (l : LoginSt) => l.port == port && l.role == role)

/-- The service side without that challenge. -/
def SvcSt.dropLogin (v : SvcSt) (port : Nat) (role : Role) : SvcSt :=
  { v with logins := v.logins.filter (fun (l : LoginSt) => !(l.port == port && l.role == role)) }

/-- LOGIN (R456): answered by CHALLENGE with the salt and a module nonce, which is a free value (log entry 4); a role that
is locked out on the port is refused. A port outside E0 to E15 does not exist. -/
def execLogin (l : LoginOp) (s : State) : Host.Outcome State Fault Refusal :=
  act s fun s =>
    if 16 ≤ l.port then s
    else if (s.lockout l.port l.role).locked then s.emit (.refusal 0 1)
    else
      let (n, s) := s.drawUpTo (2 ^ 128 - 1)
      let v := s.svc.dropLogin l.port l.role
      let e : LoginSt := ⟨l.port, l.role, l.nonce % 2 ^ 128, n⟩
      { s with svc := { v with logins := e :: v.logins } }.emit (.challenge l.port s.settings.salt n)

/-- The proof that R456 asks for. -/
def State.proofFor (s : State) (l : LoginSt) : Nat :=
  let v := beBytes 32 (s.settings.verifiers.getD (l.role.code - 1) 0)
  (Config.hmac v (beBytes 16 l.moduleNonce ++ beBytes 16 l.clientNonce ++ beBytes 1 l.role.code ++ beBytes 8 s.serial)).toNat

/-- The first number from `c` on that no session has; 0 is no session (R454). -/
def State.freeSid (s : State) (c : Nat) : Nat :=
  ((List.range 9).map (fun k => (c + k) % (2 ^ 32 - 1) + 1)).find? (fun k => !s.svc.sessions.any (fun (x : SvcSess) => x.sid == k))
    |>.getD 0

/-- R454: at most 8 sessions. The number of a session is a free value. -/
def State.openService (s : State) (l : LoginSt) : State :=
  if 8 ≤ s.svc.sessions.length then s.emit (.refusal 0 2)
  else
    let (c, s) := s.drawUpTo (2 ^ 32 - 2)
    let sid := s.freeSid c
    let x : SvcSess := ⟨sid, l.role, l.port, 0, s.time.clockNs⟩
    { s with svc := { s.svc with sessions := s.svc.sessions ++ [x] } }.emit (.login l.port sid)

/-- R456: a failed proof; the fifth within 60 s locks the role out on the port. -/
def State.failProof (s : State) (port : Nat) (role : Role) : State :=
  let o := s.lockout port role
  let recent := s.time.clockNs :: o.fails.filter (fun (t : Nat) => Nat.blt s.time.clockNs (t + 60000000000))
  let s := s.emit (.refusal 0 2)
  if Nat.ble 5 recent.length then
    (({ s with svc := s.svc.withLockout ⟨port, role, recent, true⟩ }).bump F.SVC_STATUS_LOCKOUTS).event .svcLockout srcService port role.code
  else { s with svc := s.svc.withLockout ⟨port, role, recent, false⟩ }

/-- PROOF (R456): a proof without a challenge, or for a role that is locked out, is refused. -/
def execProof (p : ProofOp) (s : State) : Host.Outcome State Fault Refusal :=
  act s fun s =>
    if 16 ≤ p.port then s
    else if (s.lockout p.port p.role).locked then s.emit (.refusal 0 2)
    else
      match s.challengeFor p.port p.role with
      | none => s.emit (.refusal 0 2)
      | some l =>
        let s := { s with svc := s.svc.dropLogin p.port p.role }
        if s.proofFor l = p.proof then s.openService l else s.failProof p.port p.role

/-- SVC_LOCKOUT_END (R456): 60 s after the fifth failure. -/
def execSvcLockoutEnd (port : Nat) (role : Role) (s : State) : Host.Outcome State Fault Refusal :=
  act s fun s =>
    let o := s.lockout port role
    if o.locked then
      let s := s.advanceClockTo (o.fails.headD 0 + 60000000000)
      { s with svc := s.svc.withLockout ⟨port, role, [], false⟩ }
    else s

/-! ### Sessions and confirmations (R440, R454) -/

/-- SERVICE_SESSION_TIMEOUT (R454): the session and its recorder subscription end. -/
def execServiceSessionTimeout (sid : Nat) (s : State) : Host.Outcome State Fault Refusal :=
  act s fun s =>
    match s.svc.sessions.find? (fun (x : SvcSess) => x.sid == sid) with
    | none => s
    | some x =>
      let s := s.advanceClockTo (x.lastNs + 300000000000)
      let subs := s.rcd.subs.filter (fun e => e.1 != sid)
      { s with
        svc := { s.svc with sessions := s.svc.sessions.filter (fun (x : SvcSess) => x.sid != sid) }
        rcd := { s.rcd with subs := subs } }

/-- What ends with a confirmation that did not come: R153 BUSY of KP_CMD; R439 a verification that waits for the
auditor fails with code 0x03. -/
def State.lapse (s : State) (code : Nat) : State :=
  if code = cmdKpUnblock then s.each [0, 1, 2] fun s x => s.setFld F.KP_CMD_BUSY 0 x
  else if code = 0x0304 ∧ s.upd.stage = .verifying then
    { s with upd := { s.upd with stage := .complete } }.wr R.UPD_FAIL (3 + 7 * 65536)
  else s

/-- CONFIRMATION_EXPIRY (R153, R399, R408, R440): 60 s after the first use. -/
def execConfirmationExpiry (code : Nat) (s : State) : Host.Outcome State Fault Refusal :=
  act s fun s =>
    match s.svc.confirms.find? (fun (p : Confirm) => p.code == code) with
    | none => s
    | some p =>
      let s := s.advanceClockTo p.untilNs
      { s with svc := { s.svc with confirms := s.svc.confirms.filter (fun (p : Confirm) => p.code != code) } }.lapse code

/-! ### Addresses (R455) -/

/-- The MAC address of a port. -/
def State.macOf (s : State) (port : Nat) : Nat := s.fld F.ETH_MAC_HI_MAC_H port * 2 ^ 32 + s.rd R.ETH_MAC_LO port

/-- The link-local address that the modified EUI-64 rule of RFC 4291 forms from a MAC address: prefix fe80::/64, the MAC's
universal/local bit inverted, FFFE in the middle. -/
def linkLocal (mac : Nat) : Nat :=
  0xFE80 * 2 ^ 112 + Nat.xor (mac / 2 ^ 24) 0x020000 * 2 ^ 40 + 0xFFFE * 2 ^ 24 + mac % 2 ^ 24

/-- Does a port carry the address? -/
def State.carries (s : State) (port : Nat) : EchoTo → Bool
  | .ipv4 a => ((s.settings.ip4.getD port none).map PortAddr.addr == some a) || (port == 15 && a == 0xC0A8FD01)
  | .ipv6 a => ((s.settings.ip6.getD port none).map PortAddr.addr == some a) || a == linkLocal (s.macOf port)

/-- The number of the address. -/
def EchoTo.num : EchoTo → Nat
  | .ipv4 a => a
  | .ipv6 a => a

/-- R455: ARP and ICMP echo name IPv4 addresses, neighbour discovery and ICMPv6 echo IPv6 addresses. -/
def EchoOp.fits (e : EchoOp) : Bool :=
  match e.dst with
  | .ipv4 _ => e.kind == 0 || e.kind == 2
  | .ipv6 _ => e.kind == 1 || e.kind == 3

/-- ARP_AND_ECHO_REQUEST (R455): ARP and neighbour discovery are answered by the MAC address, an echo by its data. -/
def execArpAndEchoRequest (e : EchoOp) (s : State) : Host.Outcome State Fault Refusal :=
  act s fun s =>
    if Nat.blt e.port 16 && e.fits && s.carries e.port e.dst then
      s.emit (.netAnswer e.port e.kind e.dst.num (if e.kind ≤ 1 then s.macOf e.port else e.data))
    else s

end Sys2Proof.Machine
end

