-- ==== Sys2Proof/Machine/Sessions.lean ====
section
/-! DEFINITION. Safe sessions, queues, check-value units and Ethernet ports (spec/15, spec/22 R465). -/

namespace Sys2Proof.Machine

/-- R338: the comms plane acts on a decision of the spires once two compared spires have given it. -/
def State.decides (s : State) : Bool := Nat.ble 2 s.compared.length

/-- A frame of session n arrives: its first port counts it, and its link is up (DEDUCED, log entry 125); `f` handles it in the
modes in which sessions run. -/
def State.arrive (s : State) (n : Nat) (f : SessDef → State → State) : State :=
  match s.sessDef n with
  | none => s
  | some d =>
    let s := match d.ports with | p :: _ => (s.bumpReg R.ETH_RXCNT p).setFlag F.ETH_STATUS_LINK true p | [] => s
    if s.mode.cur.sessions && s.decides then f d s else s

/-- R338: a frame for which the table has no row. -/
def State.noRow (s : State) (n : Nat) : State := s.bump F.SSN_REJ_OTHER n

/-- CONNECT (R338): a session of ROLE 1 opens, from IDLE or anew from OPEN. -/
def execConnect (n : Nat) (f : SFrame) (s : State) : Host.Outcome State Fault Refusal :=
  act s fun s => s.arrive n fun d s =>
    let x := s.sessAt n
    if d.role = 1 && f.type == 1 && (x.st == .idle || x.st == .opened) then
      let bad := s.check123 d f f.conn 0
      let s := s.frameDone d f
      match bad with
      | some c => s.bump c n
      | none =>
        if f.seq = 1 then
          let nR := s.nonceOf d
          (s.enterOpen n f f.conn nR).sendFrame n 2 nR []
        else s.noRow n
    else s.noRow n

/-- CONNECT_ACK (R338): a session of ROLE 0 that connects opens. -/
def execConnectAck (n : Nat) (f : SFrame) (s : State) : Host.Outcome State Fault Refusal :=
  act s fun s => s.arrive n fun d s =>
    let x := s.sessAt n
    if d.role = 0 && f.type == 2 && x.st == .connecting then
      let bad := s.check123 d f x.nI f.conn
      let s := s.frameDone d f
      match bad with
      | some c => s.bump c n
      | none => if f.seq = 1 then s.enterOpen n f x.nI f.conn else s.noRow n
    else s.noRow n

/-- CLOSE (R338): an accepted one ends the connection, cause 2. -/
def execClose (n : Nat) (f : SFrame) (s : State) : Host.Outcome State Fault Refusal :=
  act s fun s => s.arrive n fun d s =>
    if f.type == 4 && (s.sessAt n).st == .opened then
      let v := s.checkFrame d (s.sessAt n) f
      match v with
      | .accept => ((s.frameCounted d f).frameDone d f).leaveOpen n 2 false
      | .reject c => (s.frameDone d f).bump c n
      | .duplicate => s.frameDone d f
    else s.noRow n

/-- R343: a received message becomes a descriptor while the producer holds a credit; an event task that the queue
triggers is released (R109). -/
def State.enqueue (s : State) (q : Nat) (x : Desc) : State :=
  let qs := s.queueAt q
  if qs.free = 0 then
    let s := s.bump F.QU_CNT_DROPPED q
    let s := s.updQueue q (fun k => { k with dropped := k.dropped + 1, fullRec := true })
    if qs.fullRec then s else s.record .queueFull srcComms q 0
  else
    let s := s.updQueue q (fun k => { k with descs := k.descs ++ [x], free := k.free - 1 })
    (s.bump F.QU_CNT_ENQUEUED q).queueTrigger q

/-- SESSION_DATA (R339, R343): DELIVERY 0 holds the 4 newest frames for the freeze; DELIVERY 1 enqueues a descriptor,
only while the session is OPEN (R340). -/
def execSessionData (n : Nat) (f : SFrame) (s : State) : Host.Outcome State Fault Refusal :=
  act s fun s => s.arrive n fun d s =>
    if f.type != 3 then s.noRow n
    else if d.delivery = 0 then
      let held := (s.sessAt n).held ++ [f]
      let s := s.updSess n (fun x => { x with held := held.drop (held.length - 4) })
      if 4 < held.length then s.noRow n else s
    else if (s.sessAt n).st == .opened then
      match s.content.queues.find? (fun q => !q.ring && q.src == n) with
      | some q => s.enqueue q.q (.sess n f)
      | none => s.noRow n
    else s.noRow n

/-- CONNECT_RETRY (R338): TIMEOUT has passed in CONNECTING: a new N_I, CONNECT again. -/
def execConnectRetry (n : Nat) (s : State) : Host.Outcome State Fault Refusal :=
  act s fun s =>
    match s.sessDef n with
    | some d => if (s.sessAt n).st == .connecting && s.mode.cur.sessions then (s.bump F.SSN_STATE_RETRIES n).connect d else s
    | none => s

/-- HOLDOFF_END (R338): TIMEOUT has passed since the entry into HOLDOFF. -/
def execHoldoffEnd (n : Nat) (s : State) : Host.Outcome State Fault Refusal :=
  act s fun s =>
    let x := s.sessAt n
    if x.st == .holdoff && s.mode.cur.sessions then
      (s.updSess n (fun x => { x with st := .idle })).record .sessionClosed srcComms n x.cause
    else s

/-- QUEUE_MESSAGE (R343, R345): a ring queue message of the queue's source reaches its queue; the spires check it at
the consumer's freeze. -/
def execQueueMessage (m : QMsg) (s : State) : Host.Outcome State Fault Refusal :=
  act s fun s =>
    if m.dst == s.own false || m.dst == s.own true || m.dst == s.content.pairAddr || m.dst == 0xFFFF then
      match s.content.queues.find? (fun q => q.ring && q.src == m.src && q.q == m.queue) with
      | some q => if s.mode.cur.track && Nat.ble 1 m.data.length && Nat.ble m.data.length q.descMax then s.enqueue q.q (.ring m) else s
      | none => s
    else s

/-- The counts that SS_CTRL.CLR_CNT clears (R348). -/
def State.ssClear (s : State) : State :=
  let s := s.each (List.range 64) fun s n => ((s.setFld F.SSN_AGE_MAX_MS 0 n).wr R.SSN_CNT 0 n).wr R.SSN_REJ 0 n
  s.each (List.range 64) fun s q => (s.wr R.QU_CNT 0 q).setFld F.QU_CRED_FAILS 0 q

/-- SS_CTRL_CLR_CNT (R348). -/
def execSsCtrlClrCnt (c : Svc) (s : State) : Host.Outcome State Fault Refusal := act s fun s => s.svcWrite c State.ssClear

/-! ### Check-value units of the comms plane (R346, R347, R349) -/

/-- The parameters of unit u: a preset, or its registers' low WIDTH bits. -/
def State.cvParams (s : State) (u : Nat) : CrcParams :=
  match s.fld F.CV_CFG_PRESET u with
  | 1 => crc32
  | 2 => crc32c
  | 3 => crc16ccitt
  | 4 => crc64
  | 5 => triParams (s.fld F.CV_CFG_SET u)
  | _ =>
    let w := s.fld F.CV_CFG_WIDTH u
    let v (hi lo : Reg) := (s.rd hi u * 2 ^ 32 + s.rd lo u) % 2 ^ w
    ⟨w, v R.CV_POLY_HI R.CV_POLY_LO, v R.CV_INIT_HI R.CV_INIT_LO, s.flag F.CV_CFG_REFIN u, s.flag F.CV_CFG_REFOUT u, v R.CV_XOR_HI R.CV_XOR_LO⟩

/-- The remainder of unit u. -/
def State.cvReg (s : State) (u : Nat) : Nat := (Sparse.get (fun _ => CvSt.mk 0) s.cv u).reg

/-- Unit u holds remainder `r`, and CV_RES its value; CV_RES_HI reads 0 for WIDTH 32 or below. -/
def State.cvSet (s : State) (u r : Nat) : State :=
  let p := s.cvParams u
  let s := { s with cv := Sparse.set (fun _ => CvSt.mk 0) s.cv u ⟨r⟩ }
  let v := p.fin r
  (s.wr R.CV_RES_HI (if p.width ≤ 32 then 0 else v / 2 ^ 32) u).wr R.CV_RES_LO v u

/-- Feed bytes to unit u. -/
def State.cvFeed (s : State) (u : Nat) (bs : List Byte) : State := s.cvSet u ((s.cvParams u).feed (s.cvReg u) bs)

/-- A service write to a register of unit u. -/
def State.cvWrite (s : State) (c : Svc) (u : Nat) (r : Reg) (f : State → State) : State :=
  s.service c fun x s => if u < 8 then f (s.answer x) else s.refuse x (r.key u 0)

/-- R346: bit 0 loads INIT and folds the prefix words that PFX counts, W0 first. -/
def State.cvStart (s : State) (u start : Nat) : State :=
  if start % 2 = 1 then
    let n := s.fld F.CV_CFG_PFX u
    let pfx := (beBytes 4 (s.rd R.CV_PFX0 u) ++ beBytes 4 (s.rd R.CV_PFX1 u)).take (4 * n)
    (s.cvSet u (s.cvParams u).init).cvFeed u pfx
  else s

/-- CV_START (R346, R349). -/
def execCvStart (c : Svc) (u start : Nat) (s : State) : Host.Outcome State Fault Refusal :=
  act s fun s => s.cvWrite c u R.CV_START fun s => s.cvStart u start

/-- R349: 4 bytes, [31:24] first; the register reads back. -/
def State.cvData (s : State) (u value : Nat) : State := (s.wr R.CV_DATA value u).cvFeed u (beBytes 4 value)

/-- CV_DATA_WRITE (R349). -/
def execCvDataWrite (c : Svc) (u value : Nat) (s : State) : Host.Outcome State Fault Refusal :=
  act s fun s => s.cvWrite c u R.CV_DATA fun s => s.cvData u value

/-- R349: bits [7:0]; the register reads back. -/
def State.cvByte (s : State) (u value : Nat) : State := (s.wr R.CV_BYTE (value % 256) u).cvFeed u (beBytes 1 value)

/-- CV_BYTE_WRITE (R349). -/
def execCvByteWrite (c : Svc) (u value : Nat) (s : State) : Host.Outcome State Fault Refusal :=
  act s fun s => s.cvWrite c u R.CV_BYTE fun s => s.cvByte u value

/-! ### Ethernet ports (R350, R465) -/

/-- ETH_LINK_LOST (R465): the link is down; a port that a session or PTP uses raises CP_ETH_LINK. -/
def execEthLinkLost (port : Nat) (s : State) : Host.Outcome State Fault Refusal :=
  act s fun s =>
    if port < 16 then
      let s := (s.setFlag F.ETH_STATUS_LINK false port).bump F.ETH_STATUS_DOWNS port
      if s.sessionPort port || s.ptpCarried port then s.raise 99 false port 0 else s
    else s

/-- ETH_CTRL.CLR_CNT (R350): every port's DOWNS, RXCNT, TXCNT and ERR. -/
def State.ethClear (s : State) : State :=
  s.each (List.range 16) fun s p =>
    (((s.setFld F.ETH_STATUS_DOWNS 0 p).wr R.ETH_RXCNT 0 p).wr R.ETH_TXCNT 0 p).wr R.ETH_ERR 0 p

/-- ETH_CTRL_CLR_CNT (R350). -/
def execEthCtrlClrCnt (c : Svc) (s : State) : Host.Outcome State Fault Refusal := act s fun s => s.svcWrite c State.ethClear

end Sys2Proof.Machine
end

