-- ==== Sys2Proof/Machine/Time.lean ====
section
/-! DEFINITION. Cycle angle, angle time, weathervane and civil time (spec/02), and what happens at every base-cycle
boundary. -/

namespace Sys2Proof.Machine

/-! ### References (R39, R40, R46, R47) -/

/-- Change reference k. -/
def State.updRef (s : State) (k : Nat) (f : RefSt → RefSt) : State :=
  { s with wv := { s.wv with refs := Sparse.upd (fun _ => RefSt.idle) s.wv.refs k f } }

/-- R39: a period is that of n pulses per second for a whole n from 1 to `most`, within 2 % (DESIGN CHOICE, log entry 96: the
spec gives no tolerance; this is the lock range of R41). -/
def pulsesIn (most p : Nat) : Bool :=
  let n := (2000000000 + p) / (2 * p)
  Nat.ble 1 n && Nat.ble n most && Nat.ble ((n * p : Int) - 1000000000).natAbs 20000000

/-- R39: the range of input k: 10 Hz to 100 Hz, 1 to 1,000 pulses per second, for PTP 1. -/
def periodIn (k p : Nat) : Bool :=
  if k ≤ 1 then Nat.ble 10000000 p && Nat.ble p 100000000 else pulsesIn (if k ≤ 3 then 1000 else 1) p

/-- R40: the conditions of a reference: fresh, its mean period within the range of R39, the amplitude of an AC input, for
PTP a synchronised slave. The spec does not say what holds before 8 edges have been seen: the mean is over the periods
there are, and can hold from the first period on (DESIGN CHOICE, log entry 96). -/
def State.refHolds (s : State) (k : Nat) : Bool :=
  let r := s.wvRef k
  r.fresh && Nat.ble 1 r.periods.length && periodIn k r.mean
    && (if k ≤ 1 then r.ampOk else if k ≤ 3 then true else s.wv.ptpSynced)

/-- A reference after its conditions `ok`, and with the locked length in range `lk`, have been looked at: what fails makes it
invalid at once (R40, R41). -/
def RefSt.judge (r : RefSt) (ok lk : Bool) : RefSt :=
  { r with
    valid := r.valid && ok, good := if ok then r.good else 0, bad := r.bad || !ok
    lockOk := r.lockOk && lk, lockGood := if lk then r.lockGood else 0, lockBad := r.lockBad || !lk }

/-- A base cycle has ended: one more in which the conditions held throughout; 16 make the reference valid (R40), and usable for
locking (R41). -/
def RefSt.cycle (r : RefSt) (ok lk : Bool) : RefSt :=
  let n := if r.bad then 0 else min (r.good + 1) 16
  let m := if r.lockBad then 0 else min (r.lockGood + 1) 16
  { r with good := n, valid := r.valid || n == 16, bad := !ok, lockGood := m, lockOk := r.lockOk || m == 16, lockBad := !lk }

/-- The registers of reference k: VALID, and the mean period once the reference has been valid (R50). -/
def State.showRef (s : State) (k : Nat) : State :=
  let s := s.setFlag F.REF_PHASE_VALID (s.wvRef k).valid k
  if (s.wvRef k).valid || s.fld F.REF_PERIOD_PERIOD_NS k != 0 then
    s.setFld F.REF_PERIOD_PERIOD_NS (min (s.wvRef k).mean F.REF_PERIOD_PERIOD_NS.max) k
  else s

/-- A reference is invalid from this moment when a condition fails. -/
def State.refCheck (s : State) (k : Nat) : State :=
  let ok := s.refHolds k
  let was := (s.wvRef k).valid
  let s := (s.updRef k (fun r => r.judge ok (ok && s.inLockRange k))).showRef k
  if was && !ok then s.bump F.WV_EVENTS_LOSS_CNT else s

/-- R40, R41: the end of a base cycle for reference k. -/
def State.refCycle (s : State) (k : Nat) : State :=
  let s := (s.setFld F.REF_PHASE_AGE (min (s.fld F.REF_PHASE_AGE k + 1) 255) k).refCheck k
  let ok := s.refHolds k
  (s.updRef k (fun r => r.cycle ok (ok && s.inLockRange k))).showRef k

/-! ### Lock states (R43) -/

/-- R43: the mean length of the last locked cycles; before the first of them has ended, the length of the cycle in progress. -/
def State.meanLocked (s : State) : Nat :=
  if s.wv.hist.isEmpty then s.time.tbNs else s.wv.hist.foldl (· + ·) 0 / s.wv.hist.length

/-- Enter ACQUIRE towards a reference. -/
def State.acquire (s : State) (r : Nat) : State := { s with wv := { s.wv with lock := .acquire, src := r, lockCnt := 0 } }

/-- WV_REF_SWITCH: from one reference to another. -/
def State.switchRef (s : State) (r : Nat) : State := (s.record .wvRefSwitch srcModule s.wv.src r).acquire r

/-- R43 on the time master, as the references' validity stands. -/
def State.wvStep (s : State) : State :=
  if !s.wv.master then s
  else
    match s.wv.lock with
    | .follow => s
    | .free => match s.refPick with | some r => s.acquire r | none => s
    | .holdover =>
      match s.refPick with
      | some r =>
        let s := s.acquire r
        if (s.src 91).cond then s.endCond 91 else s
      | none => s
    | .acquire =>
      if s.refUsable s.wv.src then s
      else
        match s.refPick with
        | some r => s.switchRef r
        | none =>
          if s.wv.lockedSinceFree then s.enterHoldover s.meanLocked
          else { s with wv := { s.wv with lock := .free, src := 7, mhold := false } }
    | .locked =>
      if s.refUsable s.wv.src then
        if s.wv.src ≠ s.fld F.WV_CFG_REF_PRI ∧ s.refUsable (s.fld F.WV_CFG_REF_PRI) then s.switchRef (s.fld F.WV_CFG_REF_PRI) else s
      else
        match s.refPick with
        | some r => s.switchRef r
        | none => (s.enterHoldover s.meanLocked).event .wvHoldover srcModule

/-- PHASE_ERR: signed, saturating; the register shows 0 in FREE and FOLLOW (R50). -/
def State.showPhase (s : State) (e : Int) : State := s.setFld F.WV_STATUS_PHASE_ERR (limitInt e 32767 % 65536).toNat

/-- R43: one cycle of ACQUIRE or LOCKED. -/
def State.lockCycle (s : State) (e : Int) : State :=
  match s.wv.lock with
  | .acquire =>
    let want := s.lockedLen s.wv.src
    let off := ((s.time.tbNs : Int) - want).natAbs
    let n := if e.natAbs ≤ 64 ∧ off * 10000 ≤ want then s.wv.lockCnt + 1 else 0
    if 8 ≤ n then
      { s with wv := { s.wv with lock := .locked, lockCnt := 0, mhold := false, lockedSinceFree := true } }.event .wvLock srcModule
    else { s with wv := { s.wv with lockCnt := n } }
  | .locked => { s with wv := { s.wv with hist := (s.time.tbNs :: s.wv.hist).take 64 } }
  | .holdover => { s with wv := { s.wv with holdNs := s.wv.holdNs + s.time.tbNs } }
  | _ => s

/-- R42 to R44: the length of the next base cycle: the ring's in FOLLOW, nominal in FREE, within 5 ppm of the held one in
HOLDOVER. Towards a reference it slews: while the locked length is farther than one step away, by a free amount in that
direction, else by a free amount either way, as the phase asks. Always within 0.05 % of nominal of the last. -/
def State.nextTb (s : State) : Nat × State :=
  let nom := s.tbMs * 1000000
  let d := s.slewNs
  let prev := s.time.tbNs
  match s.wv.lock with
  | .follow => (clampNat s.wv.ringTb prev d, s)
  | .free => (clampNat nom prev d, s)
  | .holdover =>
    let ppm := s.wv.held * 5 / 1000000
    let q := s.drawUpTo (2 * ppm)
    (clampNat (s.wv.held - ppm + q.1) prev d, q.2)
  | _ =>
    let want := s.lockedLen s.wv.src
    let q := s.drawUpTo (2 * d)
    if prev + d ≤ want then (prev + q.1 / 2, q.2)
    else if want + d ≤ prev then (prev - q.1 / 2, q.2)
    else (prev + q.1 - d, q.2)

/-! ### Reference events -/

/-- R39: an edge that the input delivers: a reference that exists, and for a pulse a width of at least 1 µs. -/
def RefEdge.accepted (e : RefEdge) : Bool := Nat.blt e.ref 5 && (e.ref != 2 && e.ref != 3 || Nat.ble 1000 e.widthNs)

/-- A reference after an edge stamped at clock value `at'` (R39, R40): one more period, and the amplitude within 10 V to 260 V. -/
def RefSt.edge (r : RefSt) (at' ampDv : Nat) : RefSt :=
  { r with
    periods := (match r.edgeNs with | some p => (at' - p) :: r.periods | none => r.periods).take 8
    ampOk := Nat.ble 100 ampDv && Nat.ble ampDv 2600, fresh := true, edgeNs := some at' }

/-- R46: the phase of an edge `t` ns after the start of the base cycle; one at the boundary has phase 0. -/
def State.phaseOf (s : State) (t : Nat) : Nat := angleOf t s.time.tbNs % 65536

/-- REF_EDGE (R39, R40, R46, R47): the edge is stamped in steps of 10 ns. -/
def execRefEdge (e : RefEdge) (s : State) : Host.Outcome State Fault Refusal :=
  act s fun s =>
    if !e.accepted then s
    else
      let t := e.offsetNs / 10 * 10
      let at' := s.time.cycleNs + t
      let s := s.passTo t
      let s := ((s.updRef e.ref (fun r => r.edge at' e.ampDv)).setFld F.REF_PHASE_AGE 0 e.ref).refCheck e.ref
      let s := if (s.wvRef e.ref).valid then
          let s := s.setFld F.REF_PHASE_PHASE (s.phaseOf t) e.ref
          if s.fld F.ANCHOR_CFG_REF = e.ref then
            { s with wv := { s.wv with anchorNs := some (at' + (s.wvRef e.ref).mean * s.fld F.ANCHOR_CFG_OFFSET / 256) } }
          else s
        else s
      s.wvStep

/-- REF_TIMEOUT (R40): no edge within 3 expected periods. -/
def execRefTimeout (ref : Nat) (s : State) : Host.Outcome State Fault Refusal :=
  act s fun s =>
    if 5 ≤ ref then s
    else ((s.updRef ref (fun r => { r with fresh := false })).refCheck ref).wvStep

/-- WV_HOLDOVER_LONG (R43): HOLD_LIMIT minutes in HOLDOVER; recorded once, and source 91. -/
def execWvHoldoverLong (s : State) : Host.Outcome State Fault Refusal :=
  act s fun s =>
    if s.wv.lock == .holdover && !s.wv.holdLong && Nat.ble (s.fld F.HOLD_LIMIT_MINUTES * 60000000000) s.wv.holdNs then
      ({ s with wv := { s.wv with holdLong := true } }.event .wvHoldoverLong srcModule).raise 91
    else s

/-! ### Civil time (R48, R49, spec/18 R400) -/

/-- A step of civil time: TIME_STEP with the old time. -/
def State.stepCivil (s : State) (ns src : Nat) : State :=
  let old := s.time.civil
  let s := { s with time := { s.time with civil := ns % 2 ^ 64, civilOff := 0 } }
  let s := ((s.setFld F.CIVIL_STATUS_SRC src).setFld F.CIVIL_STATUS_VALID 1).setFld F.CIVIL_STATUS_STEPPED 1
  s.recordFull (.num 3) srcModule 0 false false false (old / 2 ^ 32) (old % 2 ^ 32)

/-- PTP_SYNC (R48, R49): a slew for an offset of at most 1 ms, else a step. PTP_PORT 15 takes no PTP; before an image has
selected a port it reads 0, and PTP is taken as on port E0 (DESIGN CHOICE, log entry 97: the spec does not say what PTP does
before LOAD). -/
def execPtpSync (p : PtpSync) (s : State) : Host.Outcome State Fault Refusal :=
  act s fun s =>
    if s.fld F.CIVIL_STATUS_PTP_PORT = 15 then s
    else
      let s := { s with wv := { s.wv with ptpSynced := p.synced } }
      let s := (s.refCheck 4).wvStep
      if !p.synced then s
      else
        let off : Int := (p.tai : Int) - s.time.civil
        if s.flag F.CIVIL_STATUS_VALID ∧ off.natAbs ≤ 1000000 then
          ({ s with time := { s.time with civilOff := off } }).setFld F.CIVIL_STATUS_SRC 1
        else s.stepCivil p.tai 1

/-- TIME_SET (R48, R49). -/
def execTimeSet (c : Svc) (ns : Nat) (s : State) : Host.Outcome State Fault Refusal :=
  act s fun s => s.authorised c cmdTimeSet (ns / 2 ^ 32) (ns % 2 ^ 32) [.engineer] (fun _ => true) fun _ s => s.stepCivil ns 2

/-- AT as AT_LO and AT_HI give it. -/
def State.atRead (s : State) : Nat := s.time.count * 65536 + s.time.angle

/-- Civil time as CIVIL_LO and CIVIL_HI give it: 0 until a source has delivered it. -/
def State.civilRead (s : State) : Nat := if s.flag F.CIVIL_STATUS_VALID then s.time.civil else 0

/-- R50: a read of AT_LO latches AT_HI. -/
def State.latchAt (s : State) : State := s.wr R.AT_HI (s.atRead / 2 ^ 32)

/-- R50: a read of CIVIL_LO latches CIVIL_HI. -/
def State.latchCivil (s : State) : State := s.wr R.CIVIL_HI (s.civilRead / 2 ^ 32)

/-- AT_LO_READ (R50): the answer is the low half; the high half is latched. -/
def execAtLoRead (c : Svc) (s : State) : Host.Outcome State Fault Refusal :=
  act s fun s => s.service c fun x s => s.latchAt.answer x [s.atRead % 2 ^ 32]

/-- CIVIL_LO_READ (R50). -/
def execCivilLoRead (c : Svc) (s : State) : Host.Outcome State Fault Refusal :=
  act s fun s => s.service c fun x s => s.latchCivil.answer x [s.civilRead % 2 ^ 32]

/-! ### The AT mark (R34) -/

/-- AT_MARK_WRITE (R34): COUNT + 1,024 to MRAM; a supply warning defers it; a write that fails leaves the old mark. -/
def execAtMarkWrite (ok : Bool) (s : State) : Host.Outcome State Fault Refusal :=
  act s fun s =>
    if !s.time.atValid then s
    else
      let m := (s.time.count + 1024) % 2 ^ 48
      if s.pwr.warn then { s with time := { s.time with markDeferred := some m } }
      else if ok then { s with time := { s.time with mark := max s.time.mark m, markDeferred := none } }.event .atMarkEvent srcModule
      else s

/-! ### The base-cycle boundary (R30, R35, R37) -/

/-- spec/05 R117: the cycle ends before its seal: SEAL_MISS in every spire's copy, SEAL_MISSED and WD_SEAL, and the hold ends. -/
def State.sealEnd (s : State) : State :=
  let late := !s.sweepMode && (s.sched.sealWaits || s.sched.sealRuns || s.sched.hold)
  if late then
    let s := (s.each [0, 1, 2] fun s c => s.bump F.SCH_EVENTS_SEAL_MISS c).event .sealMissed srcModule
    { s with sched := { s.sched with sealWaits := false, sealRuns := false, hold := false, noDelta := true } }.raise 127
  else s

/-- spec/04: the instruction clocks of the cycle that ends. -/
def State.clockEnd (s : State) : State :=
  s.each [0, 1, 2] fun s x =>
    let n := min (s.eng x).clkCycle 0xFFFFFFFF
    let s := (s.wr R.LE_CLK_LAST n x).wr R.LE_CLK_MAX (max n (s.rd R.LE_CLK_MAX x)) x
    s.updEng x (fun e => { e with clkCycle := 0 })

/-- R35: this module is synchronised to a running ring. -/
def State.synced (s : State) : Bool :=
  let r := s.ring
  (r.st == .integrate || r.st == .sync) && r.unsync == 0 && r.err.isSome

/-- R30, R35: the COUNT of the base cycle that begins: one more; or, when higher, the COUNT that AT_JUMP names, or that of the
ring which a module adopts at the first boundary after it is synchronised. Never less, so AT is never set back (R33). -/
def State.countNext (s : State) : Nat :=
  let one := (s.time.count + 1) % 2 ^ 48
  let jump := match s.time.jumpTo with | some c => c % 2 ^ 48 | none => 0
  let ring := if s.time.adopt && s.synced then (match s.wv.ringCount with | some n => (n + 1) % 2 ^ 48 | none => 0) else 0
  max one (max jump ring)

/-- R30, R35: COUNT goes on and ANGLE returns to 0 in the same step; a jump is recorded. -/
def State.nextCount (s : State) : State :=
  let old := s.time.count
  let c := s.countNext
  let t : TimeSt := { s.time with count := c, angle := 0, jumpTo := none, adopt := s.time.adopt && !s.synced }
  let u := { s with time := t }
  if c = (old + 1) % 2 ^ 48 then u
  else u.recordFull (.num 4) srcModule 0 false false false (old % 2 ^ 32) (c % 2 ^ 32)

/-- R34, R35: a module synchronised to a running ring has adopted its COUNT. -/
def State.adoptCount (s : State) : State := if !s.time.atValid && s.synced then s.resumeAt else s

/-- spec/12 R271: base cycles with accepted references. -/
def RingSt.cycleRefs (r : RingSt) (own : Nat) (ranked : Bool) : RingSt :=
  let r := if ranked then r.updPeer own id else r
  { r with
    clashRec := false
    nodes := r.nodes.map (fun (n : NodeSt) =>
      if r.heardRefs.contains n.addr || r.refsPrev.contains n.addr then { n with refCycles := min (n.refCycles + 1) 65535 } else n) }

/-- What is counted or recorded once per base cycle begins anew. -/
def State.freshCycle (s : State) : State :=
  let sched := if s.sweepMode then s.sched
    else { s.sched with audited := false, auditOk := false, intake := false, firstRel := none, noDelta := false, sealDone := false }
  { s with
    sched := sched
    can := s.can.map (fun (e : Nat × CanCh) => (e.1, { e.2 with fullRec := false }))
    queues := s.queues.map (fun (e : Nat × QueueSt) => (e.1, { e.2 with fullRec := false })) }

/-- The ring's part of a boundary. -/
def State.ringBoundary (s : State) : State :=
  let s := s.updNode false (fun r => r.cycleRefs (s.own false) (s.tmRank false).isSome)
  let s := if s.betaIndep then (s.updNode true (fun r => r.cycleRefs (s.own true) (s.tmRank true).isSome)).switchSched true else s
  s.switchSched false

/-- One cycle more since a locked T_B came. -/
def WvSt.older (w : WvSt) : WvSt := { w with ringLockedAge := w.ringLockedAge.map (fun (n : Nat) => n + 1) }

/-- The clock value of the anchor when the sample grid follows angle 0 (R47). -/
def State.anchorNow (s : State) : Option Nat := if s.fld F.ANCHOR_CFG_REF = 7 then some s.time.clockNs else s.wv.anchorNs

/-- A base cycle of length `tb` begins. -/
def State.beginCycle (s : State) (tb : Nat) : State :=
  let w : WvSt := { s.wv with anchorNs := s.anchorNow }
  let t : TimeSt := { s.time with tbNs := tb, lastNs := s.time.tbNs, corrNs := 0, cycleNs := s.time.clockNs, angle := 0 }
  { s with time := t, wv := w }

/-- The references and the lock at a boundary. -/
def State.wvCycle (s : State) (e : Int) : State :=
  let s : State := s.each [0, 1, 2, 3, 4] State.refCycle
  let s : State := { s with wv := s.wv.older }
  ((s.lockCycle e).wvStep).showPhase e

/-- The weathervane's part of a boundary: TB_MEAS, references, lock, and the next length. -/
def State.wvBoundary (s : State) (e : Int) : State :=
  let s := (s.wr R.TB_MEAS (min s.time.tbNs 0xFFFFFFFF)).wvCycle e
  let q := s.nextTb
  q.2.beginCycle q.1

/-- BASE_CYCLE_BOUNDARY (R30): angle 0 of the next base cycle. Nothing has a base cycle before an image is loaded. -/
def execBaseCycleBoundary (b : Boundary) (s : State) : Host.Outcome State Fault Refusal :=
  act s fun s =>
    if s.img.isNone then s
    else
      let s := s.advanceClockTo (s.time.cycleNs + s.time.tbNs)
      let s := (s.sealEnd.clockEnd.nextCount).wvBoundary b.phaseErr
      let s := (s.adoptCount.ringBoundary).freshCycle
      let s := s.switchOver
      let s := (s.countForces.forceSource).connectIdle
      (if s.sweepMode then s else s.heldReleases).leaveIntegrate false

end Sys2Proof.Machine
end

