-- ==== Sys2Proof/Machine/View.lean ====
section
/-! DEFINITION. What each register reads as (spec/00 R9, R12). A register is a word of `State.regs` in which the
fields that show typed state are replaced by what that state is; and the lamps (spec/22 R467). -/

namespace Sys2Proof.Machine

/-- A set of bits as a number: bit k where `p k` holds, for k below n. -/
def bitSet (n : Nat) (p : Nat → Bool) : Nat := (List.range n).foldl (fun m k => m + if p k then 2 ^ k else 0) 0

/-- A whole register as one field. -/
def Reg.whole (r : Reg) : Field := ⟨r, 0, 32⟩

/-- A signed value in a field of `w` bits, saturating. -/
def signedIn (w : Nat) (v : Int) : Nat :=
  let top : Int := 2 ^ (w - 1) - 1
  ((if top < v then top else if v < -top then -top else v) % (2 ^ w : Int)).toNat

/-! ### Views per block: the fields that show typed state -/

/-- spec/02 R50. -/
def State.viewTime (s : State) (a : Nat) : List (Field × Nat) :=
  if a = R.AT_LO.addr then [(F.AT_LO_COUNT_L, s.time.count), (F.AT_LO_ANGLE, s.time.angle)]
  else if a = R.WV_STATUS.addr then
    [(F.WV_STATUS_STATE, s.wv.lock.code),
     (F.WV_STATUS_SRC, s.wv.src), (F.WV_STATUS_MASTER, b2n s.wv.master), (F.WV_STATUS_MHOLD, b2n s.wv.mhold),
     (F.WV_STATUS_AT_VALID, b2n s.time.atValid),
     (F.WV_STATUS_PHASE_ERR, if s.wv.lock = .free ∨ s.wv.lock = .follow then 0 else s.fld F.WV_STATUS_PHASE_ERR)]
  else if a = R.AT_MARK_LO.addr then [(F.AT_MARK_LO_MARK_L, s.time.mark)]
  else if a = R.AT_MARK_HI.addr then [(F.AT_MARK_HI_MARK_H, s.time.mark / 2 ^ 32)]
  else if a = R.CIVIL_LO.addr then [(R.CIVIL_LO.whole, s.time.civil)]
  else []

/-- spec/19 R422, spec/01 R26 and spec/19 R423. -/
def State.viewMode (s : State) (a : Nat) : List (Field × Nat) :=
  if a = R.MODE.addr then
    [(F.MODE_MODE, s.mode.cur.code), (F.MODE_PREV, s.mode.prev), (F.MODE_CAUSE, s.mode.cause), (F.MODE_TRACK, b2n s.mode.cur.track)]
  else if a = R.MODE_AT_LO.addr then [(F.MODE_AT_LO_AT, s.mode.stamp)]
  else if a = R.MODE_AT_HI.addr then [(F.MODE_AT_HI_AT, s.mode.stamp / 2 ^ 32)]
  else if a = R.RESTART.addr then
    [(F.RESTART_PENDING, b2n s.mode.restartPending), (F.RESTART_BENCH_BLOCK, b2n s.mode.benchBlock),
     (F.RESTART_LEFT_S, if s.mode.restartPending then (s.mode.restartUntil - s.time.clockNs) / 1000000000 else 0)]
  else if a = R.SUP_STATUS.addr then
    let ok (f : FeedSt) : Nat := b2n (Nat.ble 16800 f.mv && Nat.ble f.mv 36000)
    [(F.SUP_STATUS_WARN, b2n s.pwr.warn), (F.SUP_STATUS_A_OK, ok s.pwr.feedA), (F.SUP_STATUS_B_OK, ok s.pwr.feedB),
     (F.SUP_STATUS_DEFER, b2n s.pwr.warn)]
  else if a = R.SUP_FEEDS.addr then [(F.SUP_FEEDS_A_100MV, s.pwr.feedA.mv / 100), (F.SUP_FEEDS_B_100MV, s.pwr.feedB.mv / 100)]
  else if a = R.SUP_HOLDUP.addr then [(F.SUP_HOLDUP_BUS_100MV, s.pwr.busMv / 100)]
  else []

/-- spec/04 R105, spec/05 R125. -/
def State.viewEngine (s : State) (a x : Nat) : List (Field × Nat) :=
  if a = R.LE_STATUS.addr then
    let e := s.eng x
    [(F.LE_STATUS_RUN, b2n e.run), (F.LE_STATUS_STOPPED, b2n e.stopped), (F.LE_STATUS_BARRIER, b2n e.barrier),
     (F.LE_STATUS_DEPTH, e.stack.length - 1), (F.LE_STATUS_EN, (e.stack.headD 0).toNat),
     (F.LE_STATUS_TYPE, if e.run then (s.content.groups.getD e.group ⟨0, 0, []⟩).etype else 0)]
  else if a = R.SCH_STATUS.addr then
    [(F.SCH_STATUS_CUR, s.sched.cur), (F.SCH_STATUS_SEALED, b2n s.sched.sealDone), (F.SCH_STATUS_HOLD, b2n s.sched.hold)]
  else if a = R.SCH_READY.addr then
    [(F.SCH_READY_PER, bitSet 8 (fun t => (s.task t).ready)), (F.SCH_READY_EVT, bitSet 16 (fun t => (s.task (8 + t)).ready || (s.task (8 + t)).pend))]
  else []

/-- spec/06 R152, spec/07 R175, spec/09 R204. -/
def State.viewKeep (s : State) (a x i : Nat) : List (Field × Nat) :=
  let p := (s.spire x).keep
  if a = R.KP_STATUS.addr then
    [(F.KP_STATUS_OPEN, p.openCount), (F.KP_STATUS_AUDIT_RUN, b2n (s.sched.cur == 25)), (F.KP_STATUS_INTAKE_RUN, 0), (F.KP_STATUS_PENDING, min s.kevents.length 255)]
  else if a = R.BT_STATUS.addr then [(F.BT_STATUS_TRANSFER, min p.transfers 256), (F.BT_STATUS_AUTH_REQ, min (p.bt.authReq.map Prod.fst).eraseDups.length 65535)]
  else if a = R.BT_RECON.addr then [(F.BT_RECON_COUNT, (p.tokens.filter Token.recon).length)]
  else if a = R.BT_PEER.addr then
    match s.peers[i]? with
    | none => []
    | some q =>
      [(F.BT_PEER_ADDR, q.addr), (F.BT_PEER_ADMITTED, b2n q.admitted), (F.BT_PEER_REACHABLE, b2n q.reachable),
       (F.BT_PEER_FENCED, b2n (p.bt.fences.any (fun e => e.1 == q.addr)))]
  else if a = R.BT_PEER_EP.addr then
    match s.peers[i]? with
    | none => []
    | some q =>
      [(F.BT_PEER_EP_SEEN, q.seenEpoch),
       (F.BT_PEER_EP_FENCE_EP, ((p.bt.fences.find? (fun e => e.1 == q.addr)).map Prod.snd).getD 0)]
  else if a = R.PG_STATUS.addr then
    let g := (s.spire x).pg
    [(F.PG_STATUS_PINNED, (g.slots.filter PgSlot.pinned).length),
     (F.PG_STATUS_FREE, g.nslots - (g.slots.filter (fun q => !s.slotFree x q)).length)]
  else if a = R.BANK_STAT.addr then [(F.BANK_STAT_SPARES, (s.spire x).pg.sparesOf i)]
  else []

/-- The code of a spire state (spec/10 R234). -/
def SpireState.code : SpireState → Nat
  | .compared => 0 | .selftest => 1 | .quiet => 2 | .copy => 3 | .join => 4 | .latched => 5

/-- spec/10 R234. -/
def State.viewBelfry (s : State) (a : Nat) : List (Field × Nat) :=
  if a = R.BF_STATUS.addr then
    let st (x : Nat) : Nat := if s.bf.entering.get x then SpireState.compared.code else (s.bf.spst.get x).code
    [(F.BF_STATUS_SPA, st 0), (F.BF_STATUS_SPB, st 1), (F.BF_STATUS_SPC, st 2),
     (F.BF_STATUS_SLICE_ISO, bitSet 3 (fun c => s.bf.sliceIso.get c)), (F.BF_STATUS_TWO, b2n (s.joined.length == 2)),
     (F.BF_STATUS_HOLD, b2n s.bf.joinHold)]
  else if a = R.BF_FIFO.addr then
    let n (x : Nat) : Nat := min (s.bf.streams.get x).length 512
    [(F.BF_FIFO_FILL_A, n 0), (F.BF_FIFO_FILL_B, n 1), (F.BF_FIFO_FILL_C, n 2)]
  else if a = R.BF_VOTE.addr then [(F.BF_VOTE_WORD, s.bf.vote.toNat)]
  else []

/-- spec/11 R257. -/
def State.viewPair (s : State) (a : Nat) : List (Field × Nat) :=
  if a = R.PAIR_STATUS.addr then
    let seen := s.pair.missRounds == 0
    let wits := match s.content.pair with | some p => p.witnesses | none => []
    [(F.PAIR_STATUS_PMODE, if seen then s.pair.partner.mode else 0), (F.PAIR_STATUS_PARTNER_SEEN, b2n seen),
     (F.PAIR_STATUS_HANDOVER_RX, b2n (seen && s.pair.partner.handover)), (F.PAIR_STATUS_TAKEOVER_RX, b2n (seen && s.pair.partner.takeover)),
     (F.PAIR_STATUS_UNPROTECTED, b2n (s.content.pair.isSome && s.mode.cur.track && !s.partnerStandby)),
     (F.PAIR_STATUS_WIT_SEEN, (wits.filter s.pair.witPrev.contains).length),
     (F.PAIR_STATUS_WIT_MAJ, b2n (s.content.pair.isSome && (s.witMajority s.pair.witPrev || s.witMajority s.pair.witNow)))]
  else if a = R.PAIR_SEQ.addr then [(F.PAIR_SEQ_SEQ, if s.mode.cur = .shadow then 0 else s.pair.snapSeq)]
  else if a = R.PAIR_PSEQ.addr then [(F.PAIR_PSEQ_SEQ, s.pair.partner.seq)]
  else []

/-- The code of a ring state (spec/13 R289). -/
def RingState.code : RingState → Nat
  | .listen => 0 | .coldstart => 1 | .integrate => 2 | .sync => 3 | .inhibit => 4

/-- RG_HEAL (spec/13 R310, R313): 1 where the east port is lost, 2 where the west port is. -/
def State.healRole (s : State) (b : Bool) : Nat :=
  let p := if b then 2 else 0
  if s.ring.lost.getD p false then 1 else if s.ring.lost.getD (p + 1) false then 2 else 0

/-- The slot counts that RG_SSEL selects. -/
def State.selSlot (s : State) : Nat × Nat × Nat × Nat :=
  let r := if s.fld F.RG_SSEL_RING = 1 then s.ringB else s.ring
  Sparse.get (fun _ => (0, 0, 0, 0)) r.slots (s.fld F.RG_SSEL_SLOT)

/-- spec/12 R288, spec/13 R313. -/
def State.viewRing (s : State) (a : Nat) : List (Field × Nat) :=
  let r := s.ring
  if a = R.RG_SYNC.addr then
    [(F.RG_SYNC_STATE, r.st.code), (F.RG_SYNC_REF, (r.best.map BestRef.rank).getD 0), (F.RG_SYNC_NOREF, b2n (r.err.isNone && Nat.blt 0 r.unsync)),
     (F.RG_SYNC_MASTER, b2n (s.isMaster false)), (F.RG_SYNC_UNSYNC, min r.unsync 255), (F.RG_SYNC_OFFSET, signedIn 16 r.offset)]
  else if a = R.RG_RATE.addr then [(F.RG_RATE_RATE, signedIn 24 r.rate)]
  else if a = R.RG_MASTER.addr then [(F.RG_MASTER_TM, r.tm), (F.RG_MASTER_SM, r.sm)]
  else if a = R.RG_SW.addr then
    [(F.RG_SW_TARGET, r.swTarget), (F.RG_SW_STATE, match r.sw with | .idle => 0 | .voting => 1 | .committed => 2),
     (F.RG_SW_REQ_NO, r.swReq), (F.RG_SW_RESULT, r.swResult)]
  else if a = R.RG_SCNT.addr then [(F.RG_SCNT_EMPTY, s.selSlot.1), (F.RG_SCNT_INVALID, s.selSlot.2.1)]
  else if a = R.RG_SCNT2.addr then [(F.RG_SCNT2_TRUNC, s.selSlot.2.2.1), (F.RG_SCNT2_CLASH, s.selSlot.2.2.2)]
  else if a = R.RG_IMP_STAT.addr then
    [(F.RG_IMP_STAT_VALID, bitSet 16 (fun k => match r.imports[k]? with | some e => Nat.blt e.2 3 | none => false))]
  else if a = R.RG_INTEG.addr then
    [(F.RG_INTEG_ANNOUNCE, b2n r.announcing), (F.RG_INTEG_ADMITTED, b2n r.admitted), (F.RG_INTEG_SYNC_RND, min r.passive 63)]
  else if a = R.RG_PORT.addr then
    (List.range 4).map (fun p => (⟨R.RG_PORT, 8 * p + 6, 1⟩, b2n (s.fwd.looped.getD p false)))
  else if a = R.RG_HEAL.addr then
    [(F.RG_HEAL_LOST, bitSet 4 (fun p => r.lost.getD p false)), (F.RG_HEAL_ROLE_A, s.healRole false), (F.RG_HEAL_ROLE_B, s.healRole true),
     (F.RG_HEAL_HEALED, b2n (r.healed || s.ringB.healed))]
  else []

/-- spec/14 R329; `n` is the channel. -/
def State.viewCan (s : State) (a n : Nat) : List (Field × Nat) :=
  let c := Sparse.get (fun _ => CanCh.idle) s.can n
  if a = R.CAN_TS.addr then [(F.CAN_TS_TS, s.canTs n)]
  else if a = R.CAN_TS_LATCH.addr then [(F.CAN_TS_LATCH_TS, c.latch.1)]
  else if a = R.CAN_TXQ.addr then [(F.CAN_TXQ_FILL, c.queue.length)]
  else []

/-- spec/15 R348, R350; `n` is the session, queue or port. -/
def State.viewSess (s : State) (a n : Nat) : List (Field × Nat) :=
  if a = R.SS_STATUS.addr then [(F.SS_STATUS_OPEN, (s.sess.filter (fun e => e.2.st == .opened)).length)]
  else if a = R.SSN_STATE.addr then [(F.SSN_STATE_STATE, (s.sessAt n).st.code), (F.SSN_STATE_CAUSE, (s.sessAt n).cause)]
  else if a = R.SSN_TXSEQ.addr then [(F.SSN_TXSEQ_SEQ, (s.sessAt n).txSeq)]
  else if a = R.SSN_RXSEQ.addr then [(F.SSN_RXSEQ_SEQ, (s.sessAt n).rxSeq)]
  else if a = R.QU_CRED.addr then
    let q := s.queueAt n
    [(F.QU_CRED_FREE, q.free), (F.QU_CRED_IN_QUEUE, q.descs.length), (F.QU_CRED_HELD, s.compared.foldl (fun m x => max m (q.held.get x)) 0)]
  else if a = R.ETH_STATUS.addr then
    [(F.ETH_STATUS_SESSION, b2n (s.sessionPort n)), (F.ETH_STATUS_PTP, b2n (s.ptpCarried n)),
     (F.ETH_STATUS_SERVICE, b2n (s.svc.sessions.any (fun x => x.port == n)))]
  else if a = R.ETH_IPV4.addr then [(F.ETH_IPV4_ADDR, ((s.settings.ip4.getD n none).map PortAddr.addr).getD 0)]
  else if a = R.ETH_IPCFG.addr then
    let p (o : Option PortAddr) : Nat := (o.map PortAddr.plen).getD 0
    let i4 := s.settings.ip4.getD n none
    let i6 := s.settings.ip6.getD n none
    [(F.ETH_IPCFG_PREFIX4, p i4), (F.ETH_IPCFG_PREFIX6, p i6), (F.ETH_IPCFG_HAS4, b2n i4.isSome), (F.ETH_IPCFG_HAS6, b2n i6.isSome)]
  else []

/-- The code of an edge-reset state (spec/16 R371). -/
def EdgeState.code : EdgeState → Nat
  | .idle => 0 | .high => 1 | .armed => 2 | .stuck => 3

/-- spec/16 R374. -/
def State.viewIo (s : State) (a : Nat) : List (Field × Nat) :=
  if a = R.IO_STATUS.addr then
    [(F.IO_STATUS_FS_STATE, s.io.fs.code), (F.IO_STATUS_SILENCE, b2n s.io.silence), (F.IO_STATUS_EDGE, s.io.edge.code),
     (F.IO_STATUS_SINCE_MS, match s.io.present with | some t => min ((s.time.clockNs - t) / 1000000) 65535 | none => 0)]
  else if a = R.IO_FS.addr then [(F.IO_FS_MIN_100MV, s.io.fsMin.getD 0)]
  else if a = R.IO_IN_VAL.addr then [(R.IO_IN_VAL.whole, bitSet 32 (fun k => (s.io.inputs.getD k InSt.idle).val))]
  else if a = R.IO_IN_WB.addr then [(F.IO_IN_WB_WB, bitSet 32 (fun k => (s.io.inputs.getD k InSt.idle).wb))]
  else if a = R.IO_PAIR.addr then
    [(F.IO_PAIR_VALUE, bitSet 16 (fun k => (s.io.pairs.getD k PairInSt.idle).value)),
     (F.IO_PAIR_LATCH, bitSet 16 (fun k => (s.io.pairs.getD k PairInSt.idle).latch))]
  else if a = R.IO_OUT.addr then [(F.IO_OUT_WORD, s.io.word.toNat), (F.IO_OUT_ON, s.io.on.toNat)]
  else []

/-- The code of a source's state (spec/17 R381). -/
def SrcState.code : SrcState → Nat
  | .clear => 0 | .active => 1 | .quiet => 2 | .latched => 3

/-- The sources in a set of states, in word w. -/
def State.srcWord (s : State) (w : Nat) (p : SrcSt → Bool) : Nat := bitSet 32 (fun j => p (s.src (32 * w + j)))

/-- spec/17 R390; `n` is the source, or the word. -/
def State.viewFaults (s : State) (a n : Nat) : List (Field × Nat) :=
  let hot := s.fc.src.filter (fun e => e.2.st != .clear)
  if a = R.FC_STATUS.addr then
    [(F.FC_STATUS_ACTIVE, (hot.filter (fun e => e.2.st != .latched)).length), (F.FC_STATUS_LATCHED, (hot.filter (fun e => e.2.st == .latched)).length),
     (F.FC_STATUS_MAX_SEV, hot.foldl (fun m e => max m e.2.sev) 0), (F.FC_STATUS_FOUT, b2n s.faultOut)]
  else if a = R.FC_FIRST.addr then
    match s.fc.first with
    | none => []
    | some f =>
      [(F.FC_FIRST_SOURCE, f.source), (F.FC_FIRST_SEV, f.sev), (F.FC_FIRST_VALID, 1), (F.FC_FIRST_SIMUL, b2n f.simul), (F.FC_FIRST_FORCED, b2n f.forced)]
  else if a = R.FC_FIRST_TS.addr then [(F.FC_FIRST_TS_TICK, (s.fc.first.map FirstFault.tick).getD 0)]
  else if a = R.FC_FIRST_AT_LO.addr then [(F.FC_FIRST_AT_LO_AT, (s.fc.first.map FirstFault.stamp).getD 0)]
  else if a = R.FC_FIRST_AT_HI.addr then [(F.FC_FIRST_AT_HI_AT, (s.fc.first.map FirstFault.stamp).getD 0 / 2 ^ 32)]
  else if a = R.FC_STICKY.addr then [(R.FC_STICKY.whole, s.srcWord n SrcSt.sticky)]
  else if a = R.FC_ACTIVE.addr then [(R.FC_ACTIVE.whole, s.srcWord n (fun e => e.st == .active || e.st == .quiet))]
  else if a = R.FC_LATCH.addr then [(R.FC_LATCH.whole, s.srcWord n (fun e => e.st == .latched))]
  else if a = R.FC_FORCE.addr then [(R.FC_FORCE.whole, s.forceWord n)]
  else if a = R.FC_SRC.addr then
    let e := s.src n
    [(F.FC_SRC_STATE, e.st.code), (F.FC_SRC_GONE, b2n e.gone), (F.FC_SRC_FORCED, b2n e.forced), (F.FC_SRC_SEV, e.sev), (F.FC_SRC_OCC, e.occ),
     (F.FC_SRC_QUIET_LEFT, if e.st = .quiet then min ((e.quietEnd - s.time.clockNs) / 10000000) 65535 else 0)]
  else if a = R.FC_REC.addr then
    let e := s.src n
    [(F.FC_REC_REC_CNT, e.recCnt), (F.FC_REC_WIN_CNT, min e.winCnt 255),
     (F.FC_REC_WIN_LEFT, if e.winOpen then min ((e.winEnd - s.time.clockNs + 3599999999999) / 3600000000000) 1023 else 0)]
  else if a = R.FC_DETAIL.addr then
    let e := s.src n
    [(F.FC_DETAIL_UNIT, e.unit), (F.FC_DETAIL_KIND, e.kind), (F.FC_DETAIL_COUNT_L, e.countL)]
  else []

/-- spec/18 R403. -/
def State.viewRec (s : State) (a : Nat) : List (Field × Nat) :=
  let oldest := max 4096 (s.rcd.next - 1044480)
  if a = R.REC_STATUS.addr then
    [(F.REC_STATUS_INTAKE, s.rcd.intake.length), (F.REC_STATUS_ALARM, s.rcd.alarm.length), (F.REC_STATUS_HOLD, b2n s.pwr.warn)]
  else if a = R.REC_NEXT_LO.addr then [(F.REC_NEXT_LO_NUMBER, s.rcd.next)]
  else if a = R.REC_NEXT_HI.addr then [(F.REC_NEXT_HI_NUMBER, s.rcd.next / 2 ^ 32)]
  else if a = R.REC_OLDEST_LO.addr then [(F.REC_OLDEST_LO_NUMBER, oldest)]
  else if a = R.REC_OLDEST_HI.addr then [(F.REC_OLDEST_HI_NUMBER, oldest / 2 ^ 32)]
  else if a = R.CL_NEXT.addr then [(F.CL_NEXT_SEQ, s.chgNext)]
  else []

/-- spec/20 R435, spec/21 R457; `w` is the word of a digest, `x` the spire. -/
def State.viewAtt (s : State) (a x w : Nat) : List (Field × Nat) :=
  let e := (s.att.hist.get x)[s.fld F.ATT_HSEL_ENTRY x]?
  if a = R.ATT_STATUS.addr then [(F.ATT_STATUS_QUEUE, s.att.queue.length)]
  else if a = R.ATT_HINFO.addr then
    match e with
    | some h => [(F.ATT_HINFO_STAGE, h.stage), (F.ATT_HINFO_CAUSE, h.cause), (F.ATT_HINFO_COUNT_L, h.count)]
    | none => []
  else if a = R.ATT_HWIN.addr then
    match e with | some h => [(R.ATT_HWIN.whole, h.digest / 2 ^ (32 * (7 - w)))] | none => []
  else if a = R.UPD_STATUS.addr then [(R.UPD_STATUS.whole, s.upd.status)]
  else if a = R.SVC_STATUS.addr then [(F.SVC_STATUS_SESSIONS, s.svc.sessions.length)]
  else []

/-! ### The register that a service request reads -/

/-- First index of a key in its family, counted as the spec counts it. -/
def Reg.index (r : Reg) (k : Nat) : Nat := r.i0 + (k - r.addr) % r.s2 / r.s1

/-- The second index. -/
def Reg.second (r : Reg) (k : Nat) : Nat := (k - r.addr) / r.s2

/-- What is replaced in the register at key k. The copy of a per-spire register is its first index where the register has
no other, else its second. -/
def State.views (s : State) (r : Reg) (k : Nat) : List (Field × Nat) :=
  let i := r.index k
  let x := if r.n2 = 1 then i else r.second k
  s.viewTime r.addr ++ s.viewMode r.addr ++ s.viewEngine r.addr x ++ s.viewKeep r.addr x i ++ s.viewBelfry r.addr ++ s.viewPair r.addr
    ++ s.viewRing r.addr ++ s.viewCan r.addr i ++ s.viewSess r.addr i ++ s.viewIo r.addr ++ s.viewFaults r.addr i ++ s.viewRec r.addr
    ++ s.viewAtt r.addr x i

/-- The word that register key `k` reads as; none where no register stands (spec/01 R28). -/
def viewReg (s : State) (k : Nat) : Option Word :=
  (regAt k).map (fun r => (s.views r k).foldl (fun w e => e.1.put w e.2) (s.word k))

/-! ### Lamps (spec/22 R467) -/

/-- What a lamp shows. -/
inductive Lamp where
  | off | green | greenSlow | greenFast | amber | amberFlash | red | redFlash
deriving DecidableEq, Repr

/-- PWR. -/
def State.lampPwr (s : State) : Lamp :=
  let ok (f : FeedSt) : Bool := Nat.ble 16800 f.mv && Nat.ble f.mv 36000
  if s.pwr.lampTest then .amber
  else if s.pwr.porHeld then .off
  else if s.pwr.warn then .amberFlash
  else if ok s.pwr.feedA && ok s.pwr.feedB then .green
  else if ok s.pwr.feedA || ok s.pwr.feedB then .amber else .off

/-- MODE. -/
def State.lampMode (s : State) : Lamp :=
  if s.pwr.lampTest then .amber
  else match s.mode.cur with
    | .active => .green | .active2oo2 => .greenSlow | .standby => .greenFast
    | .boot | .selftest | .load | .integrate | .shadow => .amber
    | .maintenance | .update => .amberFlash
    | .safeHalt => .red | .isolated => .redFlash

/-- SPIRES. -/
def State.lampSpires (s : State) : Lamp :=
  if s.pwr.lampTest then .amber
  else if s.mode.cur = .boot ∨ s.mode.cur = .selftest then .off
  else if s.joined.length < 2 ∨ s.liveSlices.length < 3 then .red
  else if s.joined.length = 3 then .green else .amber

/-- RING. -/
def State.lampRing (s : State) : Lamp :=
  if s.pwr.lampTest then .amber
  else if (List.range 4).all (fun p => s.fld ⟨R.RG_PORT, 8 * p + 2, 1⟩ == 0) then .off
  else match s.ring.st with
    | .sync => if s.ring.healed || s.ringB.healed then .amber else .green
    | .listen | .coldstart | .integrate => .amberFlash
    | .inhibit => .redFlash

/-- FAULT. -/
def State.lampFault (s : State) : Lamp :=
  let hot := s.fc.src.filter (fun e => e.2.st == .active || e.2.st == .latched)
  if s.pwr.lampTest then .amber
  else if hot.any (fun e => e.2.st == .latched && e.2.sev == 4) then .redFlash
  else if hot.any (fun e => Nat.ble 2 e.2.sev) then .red
  else if hot.any (fun e => e.2.sev == 1) then .amber else .off

/-- IO. -/
def State.lampIo (s : State) : Lamp :=
  if s.pwr.lampTest then .amber
  else if s.content.io.isNone then .off
  else if s.rd R.IO_OLAT ≠ 0 ∨ s.io.pairs.any PairInSt.latch then .red
  else if s.io.fs = .low ∨ s.io.silence then .amber else .green

/-- PAIR: red is a takeover without quorum or PAIR_NO_STATE, which the last pair records tell. -/
def State.lampPair (s : State) : Lamp :=
  let bad := s.rcd.store.any (fun e => e.2.code == .named .pairNoQuorum || e.2.code == .named .pairNoState)
  if s.pwr.lampTest then .amber
  else if s.content.pair.isNone then .off
  else if s.mode.cur = .shadow then .amberFlash
  else if s.pair.missRounds = 0 ∧ s.pair.partner.mode = 6 then .green
  else if bad && s.mode.cur.track then .red else .amber

end Sys2Proof.Machine
end

