-- ==== Sys2Proof/Machine/RegAccess.lean ====
section
/-! DEFINITION. A service transaction over the register space: which registers it names and in which copies (spec/01 R27,
R28; spec/00 R12), what it may write (R8, R9; spec/03 R73), the change-log entries that go before (spec/18 R401), and
its effects. A register whose write has a row of its own has here the effect of that row. -/

namespace Sys2Proof.Machine

/-! ### Registers and copies -/

/-- How the copies of a register stand: one, per spire by offset, per spire or per slice by selector (R27). -/
inductive Copies where
  | one | byOffset | bySpire | bySlice
deriving DecidableEq, Repr

/-- The copies of the block in which an address lies. -/
def copiesOf (a : Nat) : Copies :=
  if Nat.ble 0x30000 a && Nat.blt a 0x40000 then .byOffset
  else if Nat.ble 0x60000 a && Nat.blt a 0x70000 then .bySlice
  else if perSpire a then .bySpire else .one

/-- The register of copy 0 that an address names, and the copy: its own by offset, else that of the selector. -/
def baseOf (a sel : Nat) : Nat × Nat :=
  match copiesOf a with
  | .one => (a, 0)
  | .byOffset => (0x30000 + (a - 0x30000) % 0x4000, (a - 0x30000) / 0x4000)
  | .bySpire => (a, sel)
  | .bySlice => (a, sel)

/-- The register of copy 0 that a write names, and its copy. -/
def RegWr.base (w : RegWr) : Nat × Nat := baseOf w.addr w.sel

/-- The key of copy `c` of the register whose copy 0 stands at `b`. -/
def keyOfCopy (b c : Nat) : Nat :=
  match copiesOf b with
  | .one => b
  | .byOffset => b + 0x4000 * c
  | .bySpire => b + 2 ^ 24 * c
  | .bySlice => b + 2 ^ 24 * c

/-- The register whose copy 0 stands at `b`. -/
def baseReg (b : Nat) : Option Reg := if b < 2 ^ 24 then regAt b else none

/-- The copies that a write must reach (R12). -/
def State.copiesHit (s : State) (b : Nat) : List Nat :=
  match copiesOf b with
  | .one => [0]
  | .byOffset => s.compared
  | .bySpire => s.compared
  | .bySlice => s.liveSlices

/-! ### May a value be written? -/

/-- R9: may the session write the register now? A register without a writable field refuses every write. -/
def State.mayWrite (s : State) (x : SvcSess) (r : Reg) : Bool :=
  if r.rwl != 0 then s.img.isNone
  else if r.rwm != 0 then s.mayRwm x
  else if r.rwa != 0 then s.mayRwa x
  else r.rw != 0 || r.w1c != 0 || r.w1s != 0

/-- Fields whose range the field tables give, in registers that every image writes: other values are refused at load. -/
def strictRanges : List (Field × Nat × Nat) :=
  [(F.TB_CFG_TB_MS, 10, 500), (F.TB_CFG_TR_SEL, 0, 3), (F.WV_CFG_N_CYC, 1, 255), (F.WV_CFG_N_REF, 1, 65535),
   (F.HOLD_LIMIT_MINUTES, 1, 1440), (F.LE_TYPES_TYPES, 1, 1024), (F.LE_INSTANCES_INSTANCES, 1, 65536), (F.LE_TIMERS_TIMERS, 0, 131072),
   (F.SCH_CFG_NPER, 0, 8), (F.SCH_CFG_NEVT, 0, 16), (F.KP_TOKENS_TOKENS, 0, 65536), (F.KP_TRANS_TRANSACTIONS, 0, 4096),
   (F.KP_TRANS_ROUTES, 0, 32768), (F.PG_CFG_PF_DEPTH, 1, 8), (F.MT_AUTO_PERIOD, 0, 1440), (F.BF_CFG_LAG_US, 20, 2000),
   (F.BF_CFG_SIG_US, 20, 1000), (F.FC_CFG_REC_WIN, 1, 720), (F.FC_REACT_QUIET, 0, 5), (F.FC_REACT_REC_LIMIT, 1, 3),
   (F.PWR_CFG_ACT_MAX, 0, 3), (F.PWR_CFG_STBY_MAX, 0, 4), (F.BANK_USE_USE0, 0, 6), (F.BANK_USE_USE1, 0, 6), (F.BANK_USE_USE2, 0, 6),
   (F.BANK_USE_USE3, 0, 6), (F.RG_RANK_CS_ROLE, 0, 2), (F.RG_RANK_BETA, 0, 2)]

/-- The same in registers of members and sections that an image may leave out: those stay all 0. -/
def memberRanges : List (Field × Nat × Nat) :=
  [(F.SWEEP_CFG_BOUND, 1, 4), (F.SWEEP_CFG_NSTART, 1, 4), (F.SWEEP_CFG_NOUT, 1, 4), (F.PT_CFG_PERIOD_EXP, 0, 4), (F.PT_CFG_PRIO, 0, 23),
   (F.ET_CFG_PRIO, 0, 23), (F.PT_GROUPS_COUNT, 1, 8192), (F.ET_GROUPS_COUNT, 1, 8192), (F.BT_CFG_PEERS, 0, 16), (F.BT_CFG_T_OFFER, 2, 255),
   (F.BT_CFG_T_CONF, 2, 255), (F.BT_CFG_T_FRESH, 2, 16), (F.BT_LONG_T_LONG, 10, 3600), (F.PAIR_CONF_WITNESSES, 1, 3),
   (F.PAIR_LIMITS_DELTA_MAX, 64, 1024), (F.RG_EXPORT_EXW, 0, 8), (F.RG_IMP_WORDS, 1, 8), (F.CAN_CFG_DATA, 0, 4), (F.CAN_CFG_NOM_SP, 0, 5),
   (F.CAN_CFG_DATA_SP, 0, 4), (F.CAN_CTL_CNT_CONTROLLERS, 0, 30), (F.SS_CFG_QUEUES, 0, 64), (F.SSN_CFG_TIMEOUT, 10, 200),
   (F.SSN_CFG_PORT, 0, 14), (F.SSN_CFG_POLY_A, 0, 5), (F.SSN_CFG_POLY_B, 0, 5), (F.SSN_CFG_POLY_C, 0, 5), (F.QU_CFG_CREDITS, 1, 32),
   (F.QU_CFG_DEPTH, 1, 8), (F.QU_WIN_DESC_MAX, 4, 256), (F.IO_CFG_LS_MS, 20, 2000), (F.IO_IN_DEB, 0, 65), (F.IO_DISC_DT, 1, 200)]

/-- Every field of the list that stands in `r` has a value in its range. -/
def inRanges (l : List (Field × Nat × Nat)) (r : Reg) (w : Word) : Bool :=
  l.all (fun e => e.1.reg.addr != r.addr || (Nat.ble e.2.1 (e.1.get w) && Nat.ble (e.1.get w) e.2.2))

/-- A rank of a master: 0 to 3, or 7 for none. -/
def rankOk (k : Nat) : Bool := Nat.ble k 3 || k == 7

/-- R73: the word is one that the spec does not refuse at load: the ranges, whole rounds in a base cycle (R29), no reserved
reference (R39), a phase inside the period and an edge that fits the kind of trigger (R107, R109), ranks. -/
def Reg.loadable (r : Reg) (w : Word) : Bool :=
  let is (q : Reg) : Bool := r.addr == q.addr
  let g (f : Field) : Nat := f.get w
  inRanges strictRanges r w && (w == 0 || inRanges memberRanges r w)
    && (!is R.TB_CFG || g F.TB_CFG_TB_MS % trMs (g F.TB_CFG_TR_SEL) == 0)
    && (!is R.WV_CFG || !(refBad (g F.WV_CFG_REF_PRI) || refBad (g F.WV_CFG_REF_SEC)))
    && (!is R.ANCHOR_CFG || !refBad (g F.ANCHOR_CFG_REF))
    && (!is R.PT_CFG || Nat.blt (g F.PT_CFG_PHASE) (2 ^ g F.PT_CFG_PERIOD_EXP))
    && (!is R.ET_CFG || w == 0 || (g F.ET_CFG_EDGE == 0) == (g F.ET_CFG_KIND == 0))
    && (!is R.RG_RANK || (rankOk (g F.RG_RANK_TM_A) && rankOk (g F.RG_RANK_TM_B) && rankOk (g F.RG_RANK_SM)))

/-- The word that a register takes: writable bits from the value, W1C bits cleared by ones, the rest as it was (R8). -/
def Reg.written (r : Reg) (old : Word) (v : Nat) : Word :=
  let m := BitVec.ofNat 32 (r.rw ||| r.rwl ||| r.rwm ||| r.rwa)
  let v : Word := BitVec.ofNat 32 v
  ((old &&& ~~~m) ||| (v &&& m)) &&& ~~~(v &&& BitVec.ofNat 32 r.w1c)

/-- What the rule of a register's own row asks of a value; every other register takes any. -/
def State.ownOk (s : State) (r : Reg) (b v : Nat) : Bool :=
  let is (q : Reg) : Bool := r.addr == q.addr
  if is R.FORCE then s.forceOk (r.index b) v
  else if is R.MT_CTRL then mtOk v
  else if is R.BF_CMD then s.bfIsolateOk v || bfInjectOk v
  else if is R.IO_OVR then s.ovrOk v
  else if is R.FC_INJ then s.injectOk v
  else if is R.FC_FORCE then forceWordOk (r.index b) v
  else if is R.FC_STICKY then forceWordOk (r.index b) v
  else if is R.RST_CMD then brstBlock (v % 256)
  else if is R.KP_CMD then s.kpCmdOk 1 v || s.kpCmdOk 2 v
  else true

/-- R9, R73 and the register's own rule: may value `v` be written to the register at `b`? -/
def State.valueOk (s : State) (r : Reg) (b v : Nat) : Bool :=
  roOk b (s.word (keyOfCopy b ((s.copiesHit b).headD 0))) v && (r.rwl == 0 || r.loadable (r.written 0 v)) && s.ownOk r b v

/-- R12, R28: the value that a register receives in the transaction: the register exists, the session may write it, and
every copy that must be reached receives one same value. -/
def State.writeValue (s : State) (x : SvcSess) (ws : List RegWr) (b : Nat) : Option (Reg × Nat) :=
  match baseReg b with
  | none => none
  | some r =>
    let got := ws.filter (fun (w : RegWr) => w.base.1 == b)
    match got with
    | [] => none
    | w :: _ =>
      if s.mayWrite x r && s.valueOk r b w.value && got.all (fun (e : RegWr) => e.value == w.value && Nat.blt e.base.2 3)
          && (s.copiesHit b).all (fun c => got.any (fun (e : RegWr) => e.base.2 == c))
      then some (r, w.value) else none

/-- The registers of a transaction, each once. -/
def writeBases (ws : List RegWr) : List Nat := (ws.map (fun (w : RegWr) => w.base.1)).eraseDups

/-- The address of the first write that is refused, as it was written. -/
def State.badWrite (s : State) (x : SvcSess) (ws : List RegWr) : Option Nat :=
  (ws.find? (fun (w : RegWr) => (s.writeValue x ws w.base.1).isNone)).map RegWr.addr

/-! ### Reads -/

/-- What a read of address `a` with selector `sel` answers; none where no register stands there (R28). -/
def State.readReg (s : State) (a sel : Nat) : Option Nat :=
  let q := baseOf a sel
  if (baseReg q.1).isSome && Nat.blt q.2 3 then (viewReg s (keyOfCopy q.1 q.2)).map BitVec.toNat else none

/-- The address of the first read that names no register. -/
def State.badRead (s : State) (rs : List (Nat × Nat)) : Option Nat :=
  (rs.find? (fun (e : Nat × Nat) => (s.readReg e.1 e.2).isNone)).map Prod.fst

/-- Reads of AT_LO and CIVIL_LO latch the other half (spec/02 R50). -/
def State.latchReads (s : State) (rs : List (Nat × Nat)) : State :=
  s.each rs fun s e =>
    if e.1 = R.AT_LO.addr then s.latchAt else if e.1 = R.CIVIL_LO.addr then s.latchCivil else s

/-! ### The change log (R10, R401) -/

/-- Does the register's access ask for a change-log entry (R10)? -/
def Reg.logged (r : Reg) : Bool := r.rwl != 0 || r.rwm != 0 || r.rwa != 0

/-- R401: one entry per logged register, all before any change; `fail` is the entry whose read-back fails. Answers the
state with the entries written, and whether all were. -/
def State.logWrites (s : State) (x : SvcSess) (ws : List RegWr) (fail : Option Nat) : State × Bool :=
  let bs := (writeBases ws).filter (fun b => match s.writeValue x ws b with | some e => e.1.logged | none => false)
  bs.zipIdx.foldl (fun (a : State × Bool) e =>
    match a.2, s.writeValue x ws e.1 with
    | true, some (r, v) =>
      let c := (s.copiesHit e.1).headD 0
      let old := ((viewReg s (keyOfCopy e.1 c)).getD 0).toNat
      let new := if r.rwl != 0 then (r.written (s.word (keyOfCopy e.1 c)) v).toNat else v
      match a.1.chgWrite (fail != some e.2) x.role.code x.port 1 (if copiesOf e.1 = .one then 0 else spireMask (s.copiesHit e.1)) e.1 old new 0 with
      | some t => (t, true)
      | none => (a.1, false)
    | _, _ => a) (s, true)

/-! ### Effects -/

/-- A register without a behaviour of its own takes the value in every copy that the write reaches. -/
def State.writePlain (s : State) (r : Reg) (b v : Nat) : State :=
  (s.copiesHit b).foldl (fun (t : State) c => t.setWord (keyOfCopy b c) (r.written (t.word (keyOfCopy b c)) v)) s

/-- The effect of an accepted write of value `v` to the register at `b`: that of its own row where it has one. -/
def State.writeReg (s : State) (e : WrEnv) (r : Reg) (b v : Nat) : State :=
  let is (q : Reg) : Bool := r.addr == q.addr
  let i := r.index b
  if is R.FORCE then s.forceSet i v
  else if is R.LE_CTRL then s.leCtrl v
  else if is R.SCH_CTRL then s.schCtrl v
  else if is R.KP_CMD then s.kpSet v
  else if is R.KP_TSEL then s.selectToken v
  else if is R.KP_XSEL then s.selectSlot v
  else if is R.KP_CTRL then s.kpCtrl v
  else if is R.BT_CTRL then s.btCtrl v
  else if is R.PG_CTRL then s.pgCtrl v
  else if is R.MT_CTRL then s.mtSet v
  else if is R.BF_CTRL then s.bfCtrl v
  else if is R.BF_CMD then (if bfCmdIs 1 v then s.bfIsolate v else s.bfInject v e.inject)
  else if is R.PAIR_CTRL then s.when (bitOf v 0) State.pairClear
  else if is R.RG_CTRL then s.when (bitOf v 0) State.rgClear
  else if is R.RG_GCTRL then s.when (bitOf v 0) State.rgGClear
  else if is R.CAN_CTRL then s.when (bitOf v 0) (fun s => s.canClear i)
  else if is R.SS_CTRL then s.when (bitOf v 0) State.ssClear
  else if is R.CV_START then s.cvStart i v
  else if is R.CV_DATA then s.cvData i v
  else if is R.CV_BYTE then s.cvByte i v
  else if is R.ETH_CTRL then s.when (bitOf v 0) State.ethClear
  else if is R.IO_CTRL then s.when (bitOf v 0) State.ioClear
  else if is R.IO_OVR then s.ovrSet v
  else if is R.FC_STICKY then s.each (wordSources i v) State.clearSticky
  else if is R.FC_CTRL then s.fcCtrl v
  else if is R.FC_INJ then s.arm v
  else if is R.FC_FORCE then s.forceWrite i v
  else if is R.REC_SEL_LO then s.selectRecord v e.crcOk
  else if is R.REC_DIRSEL then s.selectCode v
  else if is R.CL_SEL then s.selectEntry v
  else if is R.RST_CMD then s.rstSet v
  else if is R.PWR_CTRL then s.when (bitOf v 0) State.pwrClear
  else if is R.ATT_CTRL then s.attCtrl v
  else s.writePlain r b v

/-- A service request to a spire block wakes the spires (spec/19 R417). -/
def State.wakeFor (s : State) (l : List Nat) : State := if l.any perSpire then s.wakeSpires else s

/-- The changes of an accepted transaction, register by register. -/
def State.applyWrites (s : State) (x : SvcSess) (ws : List RegWr) (e : WrEnv) (t : State) : State :=
  (writeBases ws).foldl (fun (t : State) b => match s.writeValue x ws b with | some (r, v) => t.writeReg e r b v | none => t) t

/-- REGISTER_WRITE (R10): all of one transaction or none of it. Its reads are answered as the transaction finds the
registers (log entry 99). A change-log entry that cannot be written refuses the whole, and the record names the first
entry that took no effect (R401). -/
def execRegisterWrite (c : Svc) (rs : List (Nat × Nat)) (ws : List RegWr) (e : WrEnv) (s : State) : Host.Outcome State Fault Refusal :=
  act s fun s => s.service c fun x s =>
    match s.badWrite x ws, s.badRead rs with
    | some a, _ => s.refuse x a
    | none, some a => s.refuse x a
    | none, none =>
      let q := s.logWrites x ws e.chgFail
      if q.2 then
        let data := rs.filterMap (fun (r : Nat × Nat) => s.readReg r.1 r.2)
        s.applyWrites x ws e (((q.1.latchReads rs).answer x data).wakeFor (writeBases ws ++ rs.map (fun r => r.1)))
      else if q.1.chgNext = s.chgNext then s.refuse x ((writeBases ws).headD 0)
      else q.1.refuseLogged x ((writeBases ws).headD 0) s.chgNext

end Sys2Proof.Machine
end

