-- ==== Sys2Proof/Machine/Dispatch.lean ====
section
/-! DEFINITION. The dispatch of commands to their meanings: one arm per constructor of `Instr`. -/

namespace Sys2Proof.Machine

def exec (i : Instr) (s : State) : Host.Outcome State Fault Refusal :=
  match i with
  | .baseCycleBoundary b => Sys2Proof.Machine.execBaseCycleBoundary b s
  | .atMarkWrite ok => Sys2Proof.Machine.execAtMarkWrite ok s
  | .atLoRead c => Sys2Proof.Machine.execAtLoRead c s
  | .civilLoRead c => Sys2Proof.Machine.execCivilLoRead c s
  | .refEdge e => Sys2Proof.Machine.execRefEdge e s
  | .refTimeout ref => Sys2Proof.Machine.execRefTimeout ref s
  | .wvHoldoverLong => Sys2Proof.Machine.execWvHoldoverLong s
  | .ptpSync p => Sys2Proof.Machine.execPtpSync p s
  | .timeSet c ns => Sys2Proof.Machine.execTimeSet c ns s
  | .tickWindow w => Sys2Proof.Machine.execTickWindow w s
  | .serviceWindowClose id w => Sys2Proof.Machine.execServiceWindowClose id w s
  | .imageLoad docs => Sys2Proof.Machine.execImageLoad docs s
  | .registerWrite c rs ws e => Sys2Proof.Machine.execRegisterWrite c rs ws e s
  | .benchRingJoin addr => Sys2Proof.Machine.execBenchRingJoin addr s
  | .ld o => Sys2Proof.Machine.execLd o s
  | .ldn o => Sys2Proof.Machine.execLdn o s
  | .andI o => Sys2Proof.Machine.execAndI o s
  | .andn o => Sys2Proof.Machine.execAndn o s
  | .orI o => Sys2Proof.Machine.execOrI o s
  | .orn o => Sys2Proof.Machine.execOrn o s
  | .xorI o => Sys2Proof.Machine.execXorI o s
  | .st o => Sys2Proof.Machine.execSt o s
  | .setI o => Sys2Proof.Machine.execSetI o s
  | .clr o => Sys2Proof.Machine.execClr o s
  | .edr o => Sys2Proof.Machine.execEdr o s
  | .edf o => Sys2Proof.Machine.execEdf o s
  | .ifI o => Sys2Proof.Machine.execIfI o s
  | .elseI o => Sys2Proof.Machine.execElseI o s
  | .endif o => Sys2Proof.Machine.execEndif o s
  | .skipz o => Sys2Proof.Machine.execSkipz o s
  | .wld o => Sys2Proof.Machine.execWld o s
  | .wst o => Sys2Proof.Machine.execWst o s
  | .wadd o => Sys2Proof.Machine.execWadd o s
  | .wsub o => Sys2Proof.Machine.execWsub o s
  | .wcmp o => Sys2Proof.Machine.execWcmp o s
  | .wmin o => Sys2Proof.Machine.execWmin o s
  | .wmax o => Sys2Proof.Machine.execWmax o s
  | .ton o => Sys2Proof.Machine.execTon o s
  | .tof o => Sys2Proof.Machine.execTof o s
  | .tpl o => Sys2Proof.Machine.execTpl o s
  | .ttst o => Sys2Proof.Machine.execTtst o s
  | .claim o => Sys2Proof.Machine.execClaim o s
  | .relsK o => Sys2Proof.Machine.execRelsK o s
  | .relsV o => Sys2Proof.Machine.execRelsV o s
  | .share o => Sys2Proof.Machine.execShare o s
  | .unshare o => Sys2Proof.Machine.execUnshare o s
  | .qry o => Sys2Proof.Machine.execQry o s
  | .offer o => Sys2Proof.Machine.execOffer o s
  | .acpt o => Sys2Proof.Machine.execAcpt o s
  | .inI o => Sys2Proof.Machine.execInI o s
  | .outI o => Sys2Proof.Machine.execOutI o s
  | .emit o => Sys2Proof.Machine.execEmit o s
  | .finI o => Sys2Proof.Machine.execFinI o s
  | .forceWrite c k v => Sys2Proof.Machine.execForceWrite c k v s
  | .leCtrlClrMax c v => Sys2Proof.Machine.execLeCtrlClrMax c v s
  | .leCtrlClrCnt c v => Sys2Proof.Machine.execLeCtrlClrCnt c v s
  | .inputFreeze task => Sys2Proof.Machine.execInputFreeze task s
  | .periodicRelease task => Sys2Proof.Machine.execPeriodicRelease task s
  | .minSepElapsed task => Sys2Proof.Machine.execMinSepElapsed task s
  | .finialBarrierComplete angle => Sys2Proof.Machine.execFinialBarrierComplete angle s
  | .outputAngle task v => Sys2Proof.Machine.execOutputAngle task v s
  | .sealAngle => Sys2Proof.Machine.execSealAngle s
  | .sealComplete meets => Sys2Proof.Machine.execSealComplete meets s
  | .sweepStart k => Sys2Proof.Machine.execSweepStart k s
  | .sweepOutput k v => Sys2Proof.Machine.execSweepOutput k v s
  | .watchdogTrip task => Sys2Proof.Machine.execWatchdogTrip task s
  | .schCtrlClrStats c v => Sys2Proof.Machine.execSchCtrlClrStats c v s
  | .keepIntake => Sys2Proof.Machine.execKeepIntake s
  | .kpCmdBlock c v => Sys2Proof.Machine.execKpCmdBlock c v s
  | .kpCmdUnblock c v => Sys2Proof.Machine.execKpCmdUnblock c v s
  | .kpTselWrite c v => Sys2Proof.Machine.execKpTselWrite c v s
  | .kpXselWrite c v => Sys2Proof.Machine.execKpXselWrite c v s
  | .kpCtrlClrCnt c v => Sys2Proof.Machine.execKpCtrlClrCnt c v s
  | .offerTimeout token => Sys2Proof.Machine.execOfferTimeout token s
  | .confirmTimeout token => Sys2Proof.Machine.execConfirmTimeout token s
  | .completionTimeout token => Sys2Proof.Machine.execCompletionTimeout token s
  | .retryTimeout token => Sys2Proof.Machine.execRetryTimeout token s
  | .longPartitionTimeout token => Sys2Proof.Machine.execLongPartitionTimeout token s
  | .boundaryTransmit => Sys2Proof.Machine.execBoundaryTransmit s
  | .settle c o => Sys2Proof.Machine.execSettle c o s
  | .settleTimeout => Sys2Proof.Machine.execSettleTimeout s
  | .fence c o => Sys2Proof.Machine.execFence c o s
  | .admissionLapse peer cause => Sys2Proof.Machine.execAdmissionLapse peer cause s
  | .btCtrlClrCnt c v => Sys2Proof.Machine.execBtCtrlClrCnt c v s
  | .pageFill spire page err => Sys2Proof.Machine.execPageFill spire page err s
  | .writeBack spire group p => Sys2Proof.Machine.execWriteBack spire group p s
  | .scrubRead spire p => Sys2Proof.Machine.execScrubRead spire p s
  | .snapshotCopyComplete spire err => Sys2Proof.Machine.execSnapshotCopyComplete spire err s
  | .marchStep m => Sys2Proof.Machine.execMarchStep m s
  | .mtCtrlStart c v => Sys2Proof.Machine.execMtCtrlStart c v s
  | .pgCtrlClrCnt c v => Sys2Proof.Machine.execPgCtrlClrCnt c v s
  | .recordCompare o mate => Sys2Proof.Machine.execRecordCompare o mate s
  | .lagTimeout => Sys2Proof.Machine.execLagTimeout s
  | .spireSelftestEnd t => Sys2Proof.Machine.execSpireSelftestEnd t s
  | .selftestTimeout spire test => Sys2Proof.Machine.execSelftestTimeout spire test s
  | .reintCopyComplete spire mismatch => Sys2Proof.Machine.execReintCopyComplete spire mismatch s
  | .spireRejoined spire mismatch => Sys2Proof.Machine.execSpireRejoined spire mismatch s
  | .reintJoinTimeout spire => Sys2Proof.Machine.execReintJoinTimeout spire s
  | .bfCmdIsolate c v => Sys2Proof.Machine.execBfCmdIsolate c v s
  | .bfCmdInject c v fail => Sys2Proof.Machine.execBfCmdInject c v fail s
  | .bfCtrlClrCnt c v => Sys2Proof.Machine.execBfCtrlClrCnt c v s
  | .pairChunk k => Sys2Proof.Machine.execPairChunk k s
  | .deltaApply => Sys2Proof.Machine.execDeltaApply s
  | .pairFramesMissing => Sys2Proof.Machine.execPairFramesMissing s
  | .takeoverEntry => Sys2Proof.Machine.execTakeoverEntry s
  | .pairSwitch c => Sys2Proof.Machine.execPairSwitch c s
  | .pairSwitchTimeout => Sys2Proof.Machine.execPairSwitchTimeout s
  | .pairCtrlClrCnt c => Sys2Proof.Machine.execPairCtrlClrCnt c s
  | .roundStart r => Sys2Proof.Machine.execRoundStart r s
  | .staticSlotTransmit beta slot => Sys2Proof.Machine.execStaticSlotTransmit beta slot s
  | .dynamicTransmit d => Sys2Proof.Machine.execDynamicTransmit d s
  | .referenceFrame f => Sys2Proof.Machine.execReferenceFrame f s
  | .staticFrame f => Sys2Proof.Machine.execStaticFrame f s
  | .syncCorrection beta => Sys2Proof.Machine.execSyncCorrection beta s
  | .timeMasterTakeover beta => Sys2Proof.Machine.execTimeMasterTakeover beta s
  | .timeMasterReturn beta => Sys2Proof.Machine.execTimeMasterReturn beta s
  | .ringSwitch c sched => Sys2Proof.Machine.execRingSwitch c sched s
  | .ringSwitchTimeout => Sys2Proof.Machine.execRingSwitchTimeout s
  | .sfpInsert o => Sys2Proof.Machine.execSfpInsert o s
  | .rgCtrlClrCnt c => Sys2Proof.Machine.execRgCtrlClrCnt c s
  | .coldstartTrigger beta => Sys2Proof.Machine.execColdstartTrigger beta s
  | .coldstartFrame f => Sys2Proof.Machine.execColdstartFrame f s
  | .coldstartRound r => Sys2Proof.Machine.execColdstartRound r s
  | .coldstartBackoffEnd beta => Sys2Proof.Machine.execColdstartBackoffEnd beta s
  | .integrateAnnounce beta => Sys2Proof.Machine.execIntegrateAnnounce beta s
  | .integrationFrame f => Sys2Proof.Machine.execIntegrationFrame f s
  | .admissionMessage m => Sys2Proof.Machine.execAdmissionMessage m s
  | .ringAdmitTimeout beta => Sys2Proof.Machine.execRingAdmitTimeout beta s
  | .admitRepeat => Sys2Proof.Machine.execAdmitRepeat s
  | .ringSyncLost beta => Sys2Proof.Machine.execRingSyncLost beta s
  | .guardianTruncate g => Sys2Proof.Machine.execGuardianTruncate g s
  | .portLost port => Sys2Proof.Machine.execPortLost port s
  | .ringRestored port => Sys2Proof.Machine.execRingRestored port s
  | .rgGctrlClrCnt c => Sys2Proof.Machine.execRgGctrlClrCnt c s
  | .canFrameRx f => Sys2Proof.Machine.execCanFrameRx f s
  | .canTransmitEnd ch e => Sys2Proof.Machine.execCanTransmitEnd ch e s
  | .canBusoff ch => Sys2Proof.Machine.execCanBusoff ch s
  | .canBusoffRecovery ch => Sys2Proof.Machine.execCanBusoffRecovery ch s
  | .canGroupFail g => Sys2Proof.Machine.execCanGroupFail g s
  | .canWake ch e => Sys2Proof.Machine.execCanWake ch e s
  | .canCtrlClrCnt c ch => Sys2Proof.Machine.execCanCtrlClrCnt c ch s
  | .connect n f => Sys2Proof.Machine.execConnect n f s
  | .connectAck n f => Sys2Proof.Machine.execConnectAck n f s
  | .close n f => Sys2Proof.Machine.execClose n f s
  | .sessionData n f => Sys2Proof.Machine.execSessionData n f s
  | .connectRetry n => Sys2Proof.Machine.execConnectRetry n s
  | .holdoffEnd n => Sys2Proof.Machine.execHoldoffEnd n s
  | .queueMessage m => Sys2Proof.Machine.execQueueMessage m s
  | .ssCtrlClrCnt c => Sys2Proof.Machine.execSsCtrlClrCnt c s
  | .cvStart c u start => Sys2Proof.Machine.execCvStart c u start s
  | .cvDataWrite c u value => Sys2Proof.Machine.execCvDataWrite c u value s
  | .cvByteWrite c u value => Sys2Proof.Machine.execCvByteWrite c u value s
  | .ethLinkLost port => Sys2Proof.Machine.execEthLinkLost port s
  | .ethCtrlClrCnt c => Sys2Proof.Machine.execEthCtrlClrCnt c s
  | .sampleWindow w => Sys2Proof.Machine.execSampleWindow w s
  | .outputRestCheck r => Sys2Proof.Machine.execOutputRestCheck r s
  | .testPulse slot => Sys2Proof.Machine.execTestPulse slot s
  | .testReadback r => Sys2Proof.Machine.execTestReadback r s
  | .testPulseEnd => Sys2Proof.Machine.execTestPulseEnd s
  | .outputOverload o => Sys2Proof.Machine.execOutputOverload o s
  | .fsMeasure mv => Sys2Proof.Machine.execFsMeasure mv s
  | .logicSilence => Sys2Proof.Machine.execLogicSilence s
  | .holdPresentation => Sys2Proof.Machine.execHoldPresentation s
  | .restartInRise => Sys2Proof.Machine.execRestartInRise s
  | .restartInFall => Sys2Proof.Machine.execRestartInFall s
  | .ioRestartStuck => Sys2Proof.Machine.execIoRestartStuck s
  | .ioRestartExpired => Sys2Proof.Machine.execIoRestartExpired s
  | .ioRestart c => Sys2Proof.Machine.execIoRestart c s
  | .ioOvrWrite c value => Sys2Proof.Machine.execIoOvrWrite c value s
  | .ioCtrlClrCnt c => Sys2Proof.Machine.execIoCtrlClrCnt c s
  | .faultRaise rs => Sys2Proof.Machine.execFaultRaise rs s
  | .conditionEnd source => Sys2Proof.Machine.execConditionEnd source s
  | .quietExpiry source => Sys2Proof.Machine.execQuietExpiry source s
  | .recoveryWindowClose source => Sys2Proof.Machine.execRecoveryWindowClose source s
  | .fcStickyClear c w mask => Sys2Proof.Machine.execFcStickyClear c w mask s
  | .fcCtrlClrFirst c => Sys2Proof.Machine.execFcCtrlClrFirst c s
  | .fcCtrlClrOcc c => Sys2Proof.Machine.execFcCtrlClrOcc c s
  | .fcForceWrite c w value => Sys2Proof.Machine.execFcForceWrite c w value s
  | .fcInjWrite c value => Sys2Proof.Machine.execFcInjWrite c value s
  | .fcRecClear c => Sys2Proof.Machine.execFcRecClear c s
  | .recordStore ok => Sys2Proof.Machine.execRecordStore ok s
  | .alarmForward => Sys2Proof.Machine.execAlarmForward s
  | .holdup13v mv => Sys2Proof.Machine.execHoldup13v mv s
  | .recClear c => Sys2Proof.Machine.execRecClear c s
  | .recSelWrite c lo crcOk => Sys2Proof.Machine.execRecSelWrite c lo crcOk s
  | .recDirselWrite c code => Sys2Proof.Machine.execRecDirselWrite c code s
  | .clSelWrite c seq => Sys2Proof.Machine.execClSelWrite c seq s
  | .modeHalt c => Sys2Proof.Machine.execModeHalt c s
  | .modeRestart c partnerToo => Sys2Proof.Machine.execModeRestart c partnerToo s
  | .restartExpired => Sys2Proof.Machine.execRestartExpired s
  | .maintEnter c => Sys2Proof.Machine.execMaintEnter c s
  | .maintExit c => Sys2Proof.Machine.execMaintExit c s
  | .updateEnter c => Sys2Proof.Machine.execUpdateEnter c s
  | .updateExit c => Sys2Proof.Machine.execUpdateExit c s
  | .moduleReset c => Sys2Proof.Machine.execModuleReset c s
  | .powerOnReset p => Sys2Proof.Machine.execPowerOnReset p s
  | .resetN lowUs => Sys2Proof.Machine.execResetN lowUs s
  | .rstCmdWrite c value => Sys2Proof.Machine.execRstCmdWrite c value s
  | .measuredStartEnd m => Sys2Proof.Machine.execMeasuredStartEnd m s
  | .bootTimeout m => Sys2Proof.Machine.execBootTimeout m s
  | .selftestEnd t => Sys2Proof.Machine.execSelftestEnd t s
  | .spireIdle spire march => Sys2Proof.Machine.execSpireIdle spire march s
  | .scheduledWake spire late => Sys2Proof.Machine.execScheduledWake spire late s
  | .unscheduledWake spire task => Sys2Proof.Machine.execUnscheduledWake spire task s
  | .feedFault feed mv => Sys2Proof.Machine.execFeedFault feed mv s
  | .supplyWarning aMv bMv busMv => Sys2Proof.Machine.execSupplyWarning aMv bMv busMv s
  | .supplyDip aMv bMv busMv minMv us => Sys2Proof.Machine.execSupplyDip aMv bMv busMv minMv us s
  | .holdupTest ms => Sys2Proof.Machine.execHoldupTest ms s
  | .feedOvervoltage feed mv => Sys2Proof.Machine.execFeedOvervoltage feed mv s
  | .feedReconnect feed mv => Sys2Proof.Machine.execFeedReconnect feed mv s
  | .pwrCtrlClrCnt c => Sys2Proof.Machine.execPwrCtrlClrCnt c s
  | .quoteRequest q => Sys2Proof.Machine.execQuoteRequest q s
  | .quoteSign => Sys2Proof.Machine.execQuoteSign s
  | .quoteResponse q => Sys2Proof.Machine.execQuoteResponse q s
  | .attCtrlClrCnt c v => Sys2Proof.Machine.execAttCtrlClrCnt c v s
  | .updBegin c m => Sys2Proof.Machine.execUpdBegin c m s
  | .updBlock c b => Sys2Proof.Machine.execUpdBlock c b s
  | .updStatus c => Sys2Proof.Machine.execUpdStatus c s
  | .updVerify c v => Sys2Proof.Machine.execUpdVerify c v s
  | .updActivate c written => Sys2Proof.Machine.execUpdActivate c written s
  | .updConfirm c => Sys2Proof.Machine.execUpdConfirm c s
  | .updAbort c => Sys2Proof.Machine.execUpdAbort c s
  | .trialDeadline => Sys2Proof.Machine.execTrialDeadline s
  | .olBegin c h => Sys2Proof.Machine.execOlBegin c h s
  | .stagedImageCheck docs removed => Sys2Proof.Machine.execStagedImageCheck docs removed s
  | .olActivate c count => Sys2Proof.Machine.execOlActivate c count s
  | .olActivation => Sys2Proof.Machine.execOlActivation s
  | .olCancel c => Sys2Proof.Machine.execOlCancel c s
  | .login l => Sys2Proof.Machine.execLogin l s
  | .proof p => Sys2Proof.Machine.execProof p s
  | .svcLockoutEnd port role => Sys2Proof.Machine.execSvcLockoutEnd port role s
  | .serviceSessionTimeout sid => Sys2Proof.Machine.execServiceSessionTimeout sid s
  | .admissionQuoteTimeout addr => Sys2Proof.Machine.execAdmissionQuoteTimeout addr s
  | .announcePauseEnd beta => Sys2Proof.Machine.execAnnouncePauseEnd beta s
  | .peerQuoteRequest addr => Sys2Proof.Machine.execPeerQuoteRequest addr s
  | .confirmationExpiry code => Sys2Proof.Machine.execConfirmationExpiry code s
  | .alarmSubscribe c prio => Sys2Proof.Machine.execAlarmSubscribe c prio s
  | .arpAndEchoRequest e => Sys2Proof.Machine.execArpAndEchoRequest e s
  | .lampAmberEnd => Sys2Proof.Machine.execLampAmberEnd s
  | .qPageCopy spire q p => Sys2Proof.Machine.execQPageCopy spire q p s
  | .leadFillStart task => Sys2Proof.Machine.execLeadFillStart task s

end Sys2Proof.Machine
end

