-- ==== Sys2Proof/Laws/Sparse.lean ====
section
/-! SUPPORT. Sparse storage: what a write changes, and that every operation keeps the canonical form. -/

namespace Sys2Proof.Machine

variable {α : Type}

/-! ### Read after write -/

theorem Sparse.get_insert_self (d : Nat → α) (k : Nat) (v : α) (m : List (Nat × α)) (h : ∀ e ∈ m, e.1 ≠ k) :
    Sparse.get d (Sparse.insert k v m) k = v := by
  induction m with
  | nil => simp [Sparse.insert, Sparse.get]
  | cons e t ih =>
    have hk : k ≠ e.1 := fun x => h e (by simp) x.symm
    by_cases hl : k < e.1
    · simp [Sparse.insert, hl, Sparse.get]
    · simp [Sparse.insert, hl, Sparse.get, hk, ih (fun a ha => h a (by simp [ha]))]

theorem Sparse.get_insert_other (d : Nat → α) (k k' : Nat) (v : α) (m : List (Nat × α)) (h : k' ≠ k) :
    Sparse.get d (Sparse.insert k v m) k' = Sparse.get d m k' := by
  induction m with
  | nil => simp [Sparse.insert, Sparse.get, h]
  | cons e t ih =>
    by_cases hl : k < e.1
    · simp [Sparse.insert, hl, Sparse.get, h]
    · simp [Sparse.insert, hl, Sparse.get, ih]

theorem Sparse.get_erase_self (d : Nat → α) (k : Nat) (m : List (Nat × α)) :
    Sparse.get d (Sparse.erase m k) k = d k := by
  induction m with
  | nil => simp [Sparse.erase, Sparse.get]
  | cons e t ih =>
    by_cases h : e.1 = k
    · simpa [Sparse.erase, h] using ih
    · have : k ≠ e.1 := fun x => h x.symm
      simpa [Sparse.erase, h, Sparse.get, this] using ih

theorem Sparse.get_erase_other (d : Nat → α) (k k' : Nat) (m : List (Nat × α)) (h : k' ≠ k) :
    Sparse.get d (Sparse.erase m k) k' = Sparse.get d m k' := by
  induction m with
  | nil => simp [Sparse.erase]
  | cons e t ih =>
    by_cases he : e.1 = k
    · have : k' ≠ e.1 := fun x => h (x.trans he)
      simpa [Sparse.erase, he, Sparse.get, this, h] using ih
    · by_cases hk : k' = e.1
      · simp [Sparse.erase, he, Sparse.get, hk]
      · simpa [Sparse.erase, he, Sparse.get, hk] using ih

theorem Sparse.erase_ne (k : Nat) (m : List (Nat × α)) : ∀ e ∈ Sparse.erase m k, e.1 ≠ k := by
  intro e he
  simpa [Sparse.erase] using (List.mem_filter.mp he).2

theorem Sparse.get_set_self [DecidableEq α] (d : Nat → α) (m : List (Nat × α)) (k : Nat) (v : α) :
    Sparse.get d (Sparse.set d m k v) k = v := by
  unfold Sparse.set
  split
  · next h => rw [Sparse.get_erase_self, h]
  · exact Sparse.get_insert_self d k v _ (Sparse.erase_ne k m)

theorem Sparse.get_set_other [DecidableEq α] (d : Nat → α) (m : List (Nat × α)) (k k' : Nat) (v : α) (h : k' ≠ k) :
    Sparse.get d (Sparse.set d m k v) k' = Sparse.get d m k' := by
  unfold Sparse.set
  split
  · exact Sparse.get_erase_other d k k' m h
  · rw [Sparse.get_insert_other d k k' v _ h, Sparse.get_erase_other d k k' m h]

/-- The law of a write: the written key reads as the value, every other key as before. -/
theorem Sparse.get_set [DecidableEq α] (d : Nat → α) (m : List (Nat × α)) (k k' : Nat) (v : α) :
    Sparse.get d (Sparse.set d m k v) k' = if k' = k then v else Sparse.get d m k' := by
  split
  · next h => rw [h, Sparse.get_set_self]
  · next h => exact Sparse.get_set_other d m k k' v h

/-! ### The canonical form -/

theorem Sparse.above_mono {k k' : Nat} {m : List (Nat × α)} (h : Sparse.above k' m) (hk : k ≤ k') : Sparse.above k m := by
  simp only [Sparse.above, List.all_eq_true, decide_eq_true_eq] at *
  exact fun e he => Nat.lt_of_le_of_lt hk (h e he)

theorem Sparse.above_erase {k k' : Nat} {m : List (Nat × α)} (h : Sparse.above k' m) : Sparse.above k' (Sparse.erase m k) := by
  simp only [Sparse.above, List.all_eq_true, decide_eq_true_eq] at *
  exact fun e he => h e (List.mem_filter.mp he).1

theorem Sparse.above_insert {k k' : Nat} {v : α} {m : List (Nat × α)} (h : Sparse.above k' m) (hk : k' < k) :
    Sparse.above k' (Sparse.insert k v m) := by
  induction m with
  | nil => simp [Sparse.insert, Sparse.above, hk]
  | cons e t ih =>
    have h' : k' < e.1 ∧ Sparse.above k' t := by simpa [Sparse.above] using h
    by_cases hl : k < e.1
    · simp only [Sparse.insert, hl, if_true]
      simpa [Sparse.above, hk] using h
    · have := ih h'.2
      simp only [Sparse.insert, hl, if_false]
      simpa [Sparse.above, h'.1] using this

theorem Sparse.erase_wf [DecidableEq α] {d : Nat → α} {m : List (Nat × α)} (k : Nat) (h : Sparse.wf d m) :
    Sparse.wf d (Sparse.erase m k) := by
  induction m with
  | nil => simpa [Sparse.erase] using h
  | cons e t ih =>
    obtain ⟨⟨hv, ha⟩, ht⟩ : (e.2 ≠ d e.1 ∧ Sparse.above e.1 t) ∧ Sparse.wf d t := by simpa [Sparse.wf] using h
    by_cases he : e.1 = k
    · simpa [Sparse.erase, he] using ih ht
    · have h1 := ih ht
      have h2 : Sparse.above e.1 (Sparse.erase t k) := Sparse.above_erase ha
      have : Sparse.erase (e :: t) k = e :: Sparse.erase t k := by simp [Sparse.erase, he]
      rw [this]
      simp [Sparse.wf, hv, h1, h2]

theorem Sparse.insert_wf [DecidableEq α] {d : Nat → α} {m : List (Nat × α)} {k : Nat} {v : α} (h : Sparse.wf d m)
    (hk : ∀ e ∈ m, e.1 ≠ k) (hv : v ≠ d k) : Sparse.wf d (Sparse.insert k v m) := by
  induction m with
  | nil => simp [Sparse.insert, Sparse.wf, Sparse.above, hv]
  | cons e t ih =>
    obtain ⟨⟨hev, ha⟩, ht⟩ : (e.2 ≠ d e.1 ∧ Sparse.above e.1 t) ∧ Sparse.wf d t := by simpa [Sparse.wf] using h
    by_cases hl : k < e.1
    · have h1 : Sparse.above k (e :: t) := by
        have := Sparse.above_mono ha (Nat.le_of_lt hl)
        simp only [Sparse.above, List.all_cons, Bool.and_eq_true, decide_eq_true_eq] at *
        exact ⟨hl, this⟩
      simp only [Sparse.insert, hl, if_true, Sparse.wf, Bool.and_eq_true, decide_eq_true_eq]
      exact ⟨⟨hv, h1⟩, ⟨hev, ha⟩, ht⟩
    · have h1 := ih ht (fun a b => hk a (by simp [b]))
      have hne : e.1 ≠ k := hk e (by simp)
      have h2 : Sparse.above e.1 (Sparse.insert k v t) := Sparse.above_insert ha (by omega)
      simp only [Sparse.insert, hl, if_false, Sparse.wf, Bool.and_eq_true, decide_eq_true_eq]
      exact ⟨⟨hev, h2⟩, h1⟩

/-- Every write keeps the canonical form. -/
theorem Sparse.set_wf [DecidableEq α] {d : Nat → α} {m : List (Nat × α)} (k : Nat) (v : α) (h : Sparse.wf d m) :
    Sparse.wf d (Sparse.set d m k v) := by
  unfold Sparse.set
  split
  · exact Sparse.erase_wf k h
  · next hv => exact Sparse.insert_wf (Sparse.erase_wf k h) (Sparse.erase_ne k m) hv

theorem Sparse.upd_wf [DecidableEq α] {d : Nat → α} {m : List (Nat × α)} (k : Nat) (f : α → α) (h : Sparse.wf d m) :
    Sparse.wf d (Sparse.upd d m k f) := Sparse.set_wf k _ h

theorem Sparse.filter_above {k : Nat} {m : List (Nat × α)} (p : Nat × α → Bool) (h : Sparse.above k m) : Sparse.above k (m.filter p) := by
  simp only [Sparse.above, List.all_eq_true, decide_eq_true_eq] at *
  exact fun e he => h e (List.mem_filter.mp he).1

/-- Keeping some of the entries keeps the canonical form. -/
theorem Sparse.filter_wf [DecidableEq α] {d : Nat → α} {m : List (Nat × α)} (p : Nat × α → Bool) (h : Sparse.wf d m) :
    Sparse.wf d (m.filter p) := by
  induction m with
  | nil => simpa using h
  | cons e t ih =>
    obtain ⟨⟨hv, ha⟩, ht⟩ : (e.2 ≠ d e.1 ∧ Sparse.above e.1 t) ∧ Sparse.wf d t := by simpa [Sparse.wf] using h
    by_cases hp : p e
    · have h2 := Sparse.filter_above (k := e.1) p ha
      simp [hp, Sparse.wf, hv, ih ht, h2]
    · simpa [hp] using ih ht

/-! ### Three of a kind -/

@[simp] theorem Three.get_set_self (t : Three α) (i : Nat) (v : α) : (t.set i v).get i = v := by
  unfold Three.set Three.get
  split
  · rfl
  · split <;> rfl

/-- Replacing one of the three leaves the others. -/
theorem Three.get_set_other (t : Three α) {i j : Nat} (v : α) (hi : i < 3) (hj : j < 3) (h : i ≠ j) : (t.set i v).get j = t.get j := by
  have hi' : i = 0 ∨ i = 1 ∨ i = 2 := by omega
  have hj' : j = 0 ∨ j = 1 ∨ j = 2 := by omega
  rcases hi' with rfl | rfl | rfl <;> rcases hj' with rfl | rfl | rfl <;> first | rfl | exact absurd rfl h

@[simp] theorem Three.get_upd_self (t : Three α) (i : Nat) (f : α → α) : (t.upd i f).get i = f (t.get i) := Three.get_set_self t i _

theorem Three.get_upd_other (t : Three α) {i j : Nat} (f : α → α) (hi : i < 3) (hj : j < 3) (h : i ≠ j) : (t.upd i f).get j = t.get j :=
  Three.get_set_other t _ hi hj h

end Sys2Proof.Machine
end

