-- ==== Sys2Proof/Laws/State.lean ====
section
/-! SUPPORT. What each shared operation leaves alone, one lemma per operation and field of the state, and what a write of a
register changes. -/

namespace Sys2Proof.Machine

/-! ### setWord -/

@[simp] theorem State.setWord_pending (s : State) (k : Nat) (v : Word) : (s.setWord k v).pending = s.pending := rfl
@[simp] theorem State.setWord_out (s : State) (k : Nat) (v : Word) : (s.setWord k v).out = s.out := rfl
@[simp] theorem State.setWord_free (s : State) (k : Nat) (v : Word) : (s.setWord k v).free = s.free := rfl
@[simp] theorem State.setWord_time (s : State) (k : Nat) (v : Word) : (s.setWord k v).time = s.time := rfl
@[simp] theorem State.setWord_wv (s : State) (k : Nat) (v : Word) : (s.setWord k v).wv = s.wv := rfl
@[simp] theorem State.setWord_mode (s : State) (k : Nat) (v : Word) : (s.setWord k v).mode = s.mode := rfl
@[simp] theorem State.setWord_fc (s : State) (k : Nat) (v : Word) : (s.setWord k v).fc = s.fc := rfl
@[simp] theorem State.setWord_rcd (s : State) (k : Nat) (v : Word) : (s.setWord k v).rcd = s.rcd := rfl
@[simp] theorem State.setWord_chg (s : State) (k : Nat) (v : Word) : (s.setWord k v).chg = s.chg := rfl
@[simp] theorem State.setWord_chgNext (s : State) (k : Nat) (v : Word) : (s.setWord k v).chgNext = s.chgNext := rfl
@[simp] theorem State.setWord_svc (s : State) (k : Nat) (v : Word) : (s.setWord k v).svc = s.svc := rfl
@[simp] theorem State.setWord_pwr (s : State) (k : Nat) (v : Word) : (s.setWord k v).pwr = s.pwr := rfl
@[simp] theorem State.setWord_sp (s : State) (k : Nat) (v : Word) : (s.setWord k v).sp = s.sp := rfl
@[simp] theorem State.setWord_sched (s : State) (k : Nat) (v : Word) : (s.setWord k v).sched = s.sched := rfl
@[simp] theorem State.setWord_kevents (s : State) (k : Nat) (v : Word) : (s.setWord k v).kevents = s.kevents := rfl
@[simp] theorem State.setWord_peers (s : State) (k : Nat) (v : Word) : (s.setWord k v).peers = s.peers := rfl
@[simp] theorem State.setWord_bf (s : State) (k : Nat) (v : Word) : (s.setWord k v).bf = s.bf := rfl
@[simp] theorem State.setWord_img (s : State) (k : Nat) (v : Word) : (s.setWord k v).img = s.img := rfl
@[simp] theorem State.setWord_fwVersion (s : State) (k : Nat) (v : Word) : (s.setWord k v).fwVersion = s.fwVersion := rfl
@[simp] theorem State.setWord_pair (s : State) (k : Nat) (v : Word) : (s.setWord k v).pair = s.pair := rfl
@[simp] theorem State.setWord_ring (s : State) (k : Nat) (v : Word) : (s.setWord k v).ring = s.ring := rfl
@[simp] theorem State.setWord_ringB (s : State) (k : Nat) (v : Word) : (s.setWord k v).ringB = s.ringB := rfl
@[simp] theorem State.setWord_fwd (s : State) (k : Nat) (v : Word) : (s.setWord k v).fwd = s.fwd := rfl
@[simp] theorem State.setWord_can (s : State) (k : Nat) (v : Word) : (s.setWord k v).can = s.can := rfl
@[simp] theorem State.setWord_ctls (s : State) (k : Nat) (v : Word) : (s.setWord k v).ctls = s.ctls := rfl
@[simp] theorem State.setWord_txSeq (s : State) (k : Nat) (v : Word) : (s.setWord k v).txSeq = s.txSeq := rfl
@[simp] theorem State.setWord_sess (s : State) (k : Nat) (v : Word) : (s.setWord k v).sess = s.sess := rfl
@[simp] theorem State.setWord_queues (s : State) (k : Nat) (v : Word) : (s.setWord k v).queues = s.queues := rfl
@[simp] theorem State.setWord_cv (s : State) (k : Nat) (v : Word) : (s.setWord k v).cv = s.cv := rfl
@[simp] theorem State.setWord_io (s : State) (k : Nat) (v : Word) : (s.setWord k v).io = s.io := rfl
@[simp] theorem State.setWord_att (s : State) (k : Nat) (v : Word) : (s.setWord k v).att = s.att := rfl
@[simp] theorem State.setWord_upd (s : State) (k : Nat) (v : Word) : (s.setWord k v).upd = s.upd := rfl
@[simp] theorem State.setWord_settings (s : State) (k : Nat) (v : Word) : (s.setWord k v).settings = s.settings := rfl

/-! ### wr -/

@[simp] theorem State.wr_pending (s : State) (r : Reg) (v i j : Nat) : (s.wr r v i j).pending = s.pending := rfl
@[simp] theorem State.wr_out (s : State) (r : Reg) (v i j : Nat) : (s.wr r v i j).out = s.out := rfl
@[simp] theorem State.wr_free (s : State) (r : Reg) (v i j : Nat) : (s.wr r v i j).free = s.free := rfl
@[simp] theorem State.wr_time (s : State) (r : Reg) (v i j : Nat) : (s.wr r v i j).time = s.time := rfl
@[simp] theorem State.wr_wv (s : State) (r : Reg) (v i j : Nat) : (s.wr r v i j).wv = s.wv := rfl
@[simp] theorem State.wr_mode (s : State) (r : Reg) (v i j : Nat) : (s.wr r v i j).mode = s.mode := rfl
@[simp] theorem State.wr_fc (s : State) (r : Reg) (v i j : Nat) : (s.wr r v i j).fc = s.fc := rfl
@[simp] theorem State.wr_rcd (s : State) (r : Reg) (v i j : Nat) : (s.wr r v i j).rcd = s.rcd := rfl
@[simp] theorem State.wr_chg (s : State) (r : Reg) (v i j : Nat) : (s.wr r v i j).chg = s.chg := rfl
@[simp] theorem State.wr_chgNext (s : State) (r : Reg) (v i j : Nat) : (s.wr r v i j).chgNext = s.chgNext := rfl
@[simp] theorem State.wr_svc (s : State) (r : Reg) (v i j : Nat) : (s.wr r v i j).svc = s.svc := rfl
@[simp] theorem State.wr_pwr (s : State) (r : Reg) (v i j : Nat) : (s.wr r v i j).pwr = s.pwr := rfl
@[simp] theorem State.wr_sp (s : State) (r : Reg) (v i j : Nat) : (s.wr r v i j).sp = s.sp := rfl
@[simp] theorem State.wr_sched (s : State) (r : Reg) (v i j : Nat) : (s.wr r v i j).sched = s.sched := rfl
@[simp] theorem State.wr_kevents (s : State) (r : Reg) (v i j : Nat) : (s.wr r v i j).kevents = s.kevents := rfl
@[simp] theorem State.wr_peers (s : State) (r : Reg) (v i j : Nat) : (s.wr r v i j).peers = s.peers := rfl
@[simp] theorem State.wr_bf (s : State) (r : Reg) (v i j : Nat) : (s.wr r v i j).bf = s.bf := rfl
@[simp] theorem State.wr_img (s : State) (r : Reg) (v i j : Nat) : (s.wr r v i j).img = s.img := rfl
@[simp] theorem State.wr_fwVersion (s : State) (r : Reg) (v i j : Nat) : (s.wr r v i j).fwVersion = s.fwVersion := rfl
@[simp] theorem State.wr_pair (s : State) (r : Reg) (v i j : Nat) : (s.wr r v i j).pair = s.pair := rfl
@[simp] theorem State.wr_ring (s : State) (r : Reg) (v i j : Nat) : (s.wr r v i j).ring = s.ring := rfl
@[simp] theorem State.wr_ringB (s : State) (r : Reg) (v i j : Nat) : (s.wr r v i j).ringB = s.ringB := rfl
@[simp] theorem State.wr_fwd (s : State) (r : Reg) (v i j : Nat) : (s.wr r v i j).fwd = s.fwd := rfl
@[simp] theorem State.wr_can (s : State) (r : Reg) (v i j : Nat) : (s.wr r v i j).can = s.can := rfl
@[simp] theorem State.wr_ctls (s : State) (r : Reg) (v i j : Nat) : (s.wr r v i j).ctls = s.ctls := rfl
@[simp] theorem State.wr_txSeq (s : State) (r : Reg) (v i j : Nat) : (s.wr r v i j).txSeq = s.txSeq := rfl
@[simp] theorem State.wr_sess (s : State) (r : Reg) (v i j : Nat) : (s.wr r v i j).sess = s.sess := rfl
@[simp] theorem State.wr_queues (s : State) (r : Reg) (v i j : Nat) : (s.wr r v i j).queues = s.queues := rfl
@[simp] theorem State.wr_cv (s : State) (r : Reg) (v i j : Nat) : (s.wr r v i j).cv = s.cv := rfl
@[simp] theorem State.wr_io (s : State) (r : Reg) (v i j : Nat) : (s.wr r v i j).io = s.io := rfl
@[simp] theorem State.wr_att (s : State) (r : Reg) (v i j : Nat) : (s.wr r v i j).att = s.att := rfl
@[simp] theorem State.wr_upd (s : State) (r : Reg) (v i j : Nat) : (s.wr r v i j).upd = s.upd := rfl
@[simp] theorem State.wr_settings (s : State) (r : Reg) (v i j : Nat) : (s.wr r v i j).settings = s.settings := rfl

/-! ### setFld -/

@[simp] theorem State.setFld_pending (s : State) (f : Field) (v i j : Nat) : (s.setFld f v i j).pending = s.pending := rfl
@[simp] theorem State.setFld_out (s : State) (f : Field) (v i j : Nat) : (s.setFld f v i j).out = s.out := rfl
@[simp] theorem State.setFld_free (s : State) (f : Field) (v i j : Nat) : (s.setFld f v i j).free = s.free := rfl
@[simp] theorem State.setFld_time (s : State) (f : Field) (v i j : Nat) : (s.setFld f v i j).time = s.time := rfl
@[simp] theorem State.setFld_wv (s : State) (f : Field) (v i j : Nat) : (s.setFld f v i j).wv = s.wv := rfl
@[simp] theorem State.setFld_mode (s : State) (f : Field) (v i j : Nat) : (s.setFld f v i j).mode = s.mode := rfl
@[simp] theorem State.setFld_fc (s : State) (f : Field) (v i j : Nat) : (s.setFld f v i j).fc = s.fc := rfl
@[simp] theorem State.setFld_rcd (s : State) (f : Field) (v i j : Nat) : (s.setFld f v i j).rcd = s.rcd := rfl
@[simp] theorem State.setFld_chg (s : State) (f : Field) (v i j : Nat) : (s.setFld f v i j).chg = s.chg := rfl
@[simp] theorem State.setFld_chgNext (s : State) (f : Field) (v i j : Nat) : (s.setFld f v i j).chgNext = s.chgNext := rfl
@[simp] theorem State.setFld_svc (s : State) (f : Field) (v i j : Nat) : (s.setFld f v i j).svc = s.svc := rfl
@[simp] theorem State.setFld_pwr (s : State) (f : Field) (v i j : Nat) : (s.setFld f v i j).pwr = s.pwr := rfl
@[simp] theorem State.setFld_sp (s : State) (f : Field) (v i j : Nat) : (s.setFld f v i j).sp = s.sp := rfl
@[simp] theorem State.setFld_sched (s : State) (f : Field) (v i j : Nat) : (s.setFld f v i j).sched = s.sched := rfl
@[simp] theorem State.setFld_kevents (s : State) (f : Field) (v i j : Nat) : (s.setFld f v i j).kevents = s.kevents := rfl
@[simp] theorem State.setFld_peers (s : State) (f : Field) (v i j : Nat) : (s.setFld f v i j).peers = s.peers := rfl
@[simp] theorem State.setFld_bf (s : State) (f : Field) (v i j : Nat) : (s.setFld f v i j).bf = s.bf := rfl
@[simp] theorem State.setFld_img (s : State) (f : Field) (v i j : Nat) : (s.setFld f v i j).img = s.img := rfl
@[simp] theorem State.setFld_fwVersion (s : State) (f : Field) (v i j : Nat) : (s.setFld f v i j).fwVersion = s.fwVersion := rfl
@[simp] theorem State.setFld_pair (s : State) (f : Field) (v i j : Nat) : (s.setFld f v i j).pair = s.pair := rfl
@[simp] theorem State.setFld_ring (s : State) (f : Field) (v i j : Nat) : (s.setFld f v i j).ring = s.ring := rfl
@[simp] theorem State.setFld_ringB (s : State) (f : Field) (v i j : Nat) : (s.setFld f v i j).ringB = s.ringB := rfl
@[simp] theorem State.setFld_fwd (s : State) (f : Field) (v i j : Nat) : (s.setFld f v i j).fwd = s.fwd := rfl
@[simp] theorem State.setFld_can (s : State) (f : Field) (v i j : Nat) : (s.setFld f v i j).can = s.can := rfl
@[simp] theorem State.setFld_ctls (s : State) (f : Field) (v i j : Nat) : (s.setFld f v i j).ctls = s.ctls := rfl
@[simp] theorem State.setFld_txSeq (s : State) (f : Field) (v i j : Nat) : (s.setFld f v i j).txSeq = s.txSeq := rfl
@[simp] theorem State.setFld_sess (s : State) (f : Field) (v i j : Nat) : (s.setFld f v i j).sess = s.sess := rfl
@[simp] theorem State.setFld_queues (s : State) (f : Field) (v i j : Nat) : (s.setFld f v i j).queues = s.queues := rfl
@[simp] theorem State.setFld_cv (s : State) (f : Field) (v i j : Nat) : (s.setFld f v i j).cv = s.cv := rfl
@[simp] theorem State.setFld_io (s : State) (f : Field) (v i j : Nat) : (s.setFld f v i j).io = s.io := rfl
@[simp] theorem State.setFld_att (s : State) (f : Field) (v i j : Nat) : (s.setFld f v i j).att = s.att := rfl
@[simp] theorem State.setFld_upd (s : State) (f : Field) (v i j : Nat) : (s.setFld f v i j).upd = s.upd := rfl
@[simp] theorem State.setFld_settings (s : State) (f : Field) (v i j : Nat) : (s.setFld f v i j).settings = s.settings := rfl

/-! ### setFlag -/

@[simp] theorem State.setFlag_pending (s : State) (f : Field) (b : Bool) (i j : Nat) : (s.setFlag f b i j).pending = s.pending := rfl
@[simp] theorem State.setFlag_out (s : State) (f : Field) (b : Bool) (i j : Nat) : (s.setFlag f b i j).out = s.out := rfl
@[simp] theorem State.setFlag_free (s : State) (f : Field) (b : Bool) (i j : Nat) : (s.setFlag f b i j).free = s.free := rfl
@[simp] theorem State.setFlag_time (s : State) (f : Field) (b : Bool) (i j : Nat) : (s.setFlag f b i j).time = s.time := rfl
@[simp] theorem State.setFlag_wv (s : State) (f : Field) (b : Bool) (i j : Nat) : (s.setFlag f b i j).wv = s.wv := rfl
@[simp] theorem State.setFlag_mode (s : State) (f : Field) (b : Bool) (i j : Nat) : (s.setFlag f b i j).mode = s.mode := rfl
@[simp] theorem State.setFlag_fc (s : State) (f : Field) (b : Bool) (i j : Nat) : (s.setFlag f b i j).fc = s.fc := rfl
@[simp] theorem State.setFlag_rcd (s : State) (f : Field) (b : Bool) (i j : Nat) : (s.setFlag f b i j).rcd = s.rcd := rfl
@[simp] theorem State.setFlag_chg (s : State) (f : Field) (b : Bool) (i j : Nat) : (s.setFlag f b i j).chg = s.chg := rfl
@[simp] theorem State.setFlag_chgNext (s : State) (f : Field) (b : Bool) (i j : Nat) : (s.setFlag f b i j).chgNext = s.chgNext := rfl
@[simp] theorem State.setFlag_svc (s : State) (f : Field) (b : Bool) (i j : Nat) : (s.setFlag f b i j).svc = s.svc := rfl
@[simp] theorem State.setFlag_pwr (s : State) (f : Field) (b : Bool) (i j : Nat) : (s.setFlag f b i j).pwr = s.pwr := rfl
@[simp] theorem State.setFlag_sp (s : State) (f : Field) (b : Bool) (i j : Nat) : (s.setFlag f b i j).sp = s.sp := rfl
@[simp] theorem State.setFlag_sched (s : State) (f : Field) (b : Bool) (i j : Nat) : (s.setFlag f b i j).sched = s.sched := rfl
@[simp] theorem State.setFlag_kevents (s : State) (f : Field) (b : Bool) (i j : Nat) : (s.setFlag f b i j).kevents = s.kevents := rfl
@[simp] theorem State.setFlag_peers (s : State) (f : Field) (b : Bool) (i j : Nat) : (s.setFlag f b i j).peers = s.peers := rfl
@[simp] theorem State.setFlag_bf (s : State) (f : Field) (b : Bool) (i j : Nat) : (s.setFlag f b i j).bf = s.bf := rfl
@[simp] theorem State.setFlag_img (s : State) (f : Field) (b : Bool) (i j : Nat) : (s.setFlag f b i j).img = s.img := rfl
@[simp] theorem State.setFlag_fwVersion (s : State) (f : Field) (b : Bool) (i j : Nat) : (s.setFlag f b i j).fwVersion = s.fwVersion := rfl
@[simp] theorem State.setFlag_pair (s : State) (f : Field) (b : Bool) (i j : Nat) : (s.setFlag f b i j).pair = s.pair := rfl
@[simp] theorem State.setFlag_ring (s : State) (f : Field) (b : Bool) (i j : Nat) : (s.setFlag f b i j).ring = s.ring := rfl
@[simp] theorem State.setFlag_ringB (s : State) (f : Field) (b : Bool) (i j : Nat) : (s.setFlag f b i j).ringB = s.ringB := rfl
@[simp] theorem State.setFlag_fwd (s : State) (f : Field) (b : Bool) (i j : Nat) : (s.setFlag f b i j).fwd = s.fwd := rfl
@[simp] theorem State.setFlag_can (s : State) (f : Field) (b : Bool) (i j : Nat) : (s.setFlag f b i j).can = s.can := rfl
@[simp] theorem State.setFlag_ctls (s : State) (f : Field) (b : Bool) (i j : Nat) : (s.setFlag f b i j).ctls = s.ctls := rfl
@[simp] theorem State.setFlag_txSeq (s : State) (f : Field) (b : Bool) (i j : Nat) : (s.setFlag f b i j).txSeq = s.txSeq := rfl
@[simp] theorem State.setFlag_sess (s : State) (f : Field) (b : Bool) (i j : Nat) : (s.setFlag f b i j).sess = s.sess := rfl
@[simp] theorem State.setFlag_queues (s : State) (f : Field) (b : Bool) (i j : Nat) : (s.setFlag f b i j).queues = s.queues := rfl
@[simp] theorem State.setFlag_cv (s : State) (f : Field) (b : Bool) (i j : Nat) : (s.setFlag f b i j).cv = s.cv := rfl
@[simp] theorem State.setFlag_io (s : State) (f : Field) (b : Bool) (i j : Nat) : (s.setFlag f b i j).io = s.io := rfl
@[simp] theorem State.setFlag_att (s : State) (f : Field) (b : Bool) (i j : Nat) : (s.setFlag f b i j).att = s.att := rfl
@[simp] theorem State.setFlag_upd (s : State) (f : Field) (b : Bool) (i j : Nat) : (s.setFlag f b i j).upd = s.upd := rfl
@[simp] theorem State.setFlag_settings (s : State) (f : Field) (b : Bool) (i j : Nat) : (s.setFlag f b i j).settings = s.settings := rfl

/-! ### bump -/

@[simp] theorem State.bump_pending (s : State) (f : Field) (i j : Nat) : (s.bump f i j).pending = s.pending := rfl
@[simp] theorem State.bump_out (s : State) (f : Field) (i j : Nat) : (s.bump f i j).out = s.out := rfl
@[simp] theorem State.bump_free (s : State) (f : Field) (i j : Nat) : (s.bump f i j).free = s.free := rfl
@[simp] theorem State.bump_time (s : State) (f : Field) (i j : Nat) : (s.bump f i j).time = s.time := rfl
@[simp] theorem State.bump_wv (s : State) (f : Field) (i j : Nat) : (s.bump f i j).wv = s.wv := rfl
@[simp] theorem State.bump_mode (s : State) (f : Field) (i j : Nat) : (s.bump f i j).mode = s.mode := rfl
@[simp] theorem State.bump_fc (s : State) (f : Field) (i j : Nat) : (s.bump f i j).fc = s.fc := rfl
@[simp] theorem State.bump_rcd (s : State) (f : Field) (i j : Nat) : (s.bump f i j).rcd = s.rcd := rfl
@[simp] theorem State.bump_chg (s : State) (f : Field) (i j : Nat) : (s.bump f i j).chg = s.chg := rfl
@[simp] theorem State.bump_chgNext (s : State) (f : Field) (i j : Nat) : (s.bump f i j).chgNext = s.chgNext := rfl
@[simp] theorem State.bump_svc (s : State) (f : Field) (i j : Nat) : (s.bump f i j).svc = s.svc := rfl
@[simp] theorem State.bump_pwr (s : State) (f : Field) (i j : Nat) : (s.bump f i j).pwr = s.pwr := rfl
@[simp] theorem State.bump_sp (s : State) (f : Field) (i j : Nat) : (s.bump f i j).sp = s.sp := rfl
@[simp] theorem State.bump_sched (s : State) (f : Field) (i j : Nat) : (s.bump f i j).sched = s.sched := rfl
@[simp] theorem State.bump_kevents (s : State) (f : Field) (i j : Nat) : (s.bump f i j).kevents = s.kevents := rfl
@[simp] theorem State.bump_peers (s : State) (f : Field) (i j : Nat) : (s.bump f i j).peers = s.peers := rfl
@[simp] theorem State.bump_bf (s : State) (f : Field) (i j : Nat) : (s.bump f i j).bf = s.bf := rfl
@[simp] theorem State.bump_img (s : State) (f : Field) (i j : Nat) : (s.bump f i j).img = s.img := rfl
@[simp] theorem State.bump_fwVersion (s : State) (f : Field) (i j : Nat) : (s.bump f i j).fwVersion = s.fwVersion := rfl
@[simp] theorem State.bump_pair (s : State) (f : Field) (i j : Nat) : (s.bump f i j).pair = s.pair := rfl
@[simp] theorem State.bump_ring (s : State) (f : Field) (i j : Nat) : (s.bump f i j).ring = s.ring := rfl
@[simp] theorem State.bump_ringB (s : State) (f : Field) (i j : Nat) : (s.bump f i j).ringB = s.ringB := rfl
@[simp] theorem State.bump_fwd (s : State) (f : Field) (i j : Nat) : (s.bump f i j).fwd = s.fwd := rfl
@[simp] theorem State.bump_can (s : State) (f : Field) (i j : Nat) : (s.bump f i j).can = s.can := rfl
@[simp] theorem State.bump_ctls (s : State) (f : Field) (i j : Nat) : (s.bump f i j).ctls = s.ctls := rfl
@[simp] theorem State.bump_txSeq (s : State) (f : Field) (i j : Nat) : (s.bump f i j).txSeq = s.txSeq := rfl
@[simp] theorem State.bump_sess (s : State) (f : Field) (i j : Nat) : (s.bump f i j).sess = s.sess := rfl
@[simp] theorem State.bump_queues (s : State) (f : Field) (i j : Nat) : (s.bump f i j).queues = s.queues := rfl
@[simp] theorem State.bump_cv (s : State) (f : Field) (i j : Nat) : (s.bump f i j).cv = s.cv := rfl
@[simp] theorem State.bump_io (s : State) (f : Field) (i j : Nat) : (s.bump f i j).io = s.io := rfl
@[simp] theorem State.bump_att (s : State) (f : Field) (i j : Nat) : (s.bump f i j).att = s.att := rfl
@[simp] theorem State.bump_upd (s : State) (f : Field) (i j : Nat) : (s.bump f i j).upd = s.upd := rfl
@[simp] theorem State.bump_settings (s : State) (f : Field) (i j : Nat) : (s.bump f i j).settings = s.settings := rfl

/-! ### bumpBy -/

@[simp] theorem State.bumpBy_pending (s : State) (f : Field) (n i j : Nat) : (s.bumpBy f n i j).pending = s.pending := rfl
@[simp] theorem State.bumpBy_out (s : State) (f : Field) (n i j : Nat) : (s.bumpBy f n i j).out = s.out := rfl
@[simp] theorem State.bumpBy_free (s : State) (f : Field) (n i j : Nat) : (s.bumpBy f n i j).free = s.free := rfl
@[simp] theorem State.bumpBy_time (s : State) (f : Field) (n i j : Nat) : (s.bumpBy f n i j).time = s.time := rfl
@[simp] theorem State.bumpBy_wv (s : State) (f : Field) (n i j : Nat) : (s.bumpBy f n i j).wv = s.wv := rfl
@[simp] theorem State.bumpBy_mode (s : State) (f : Field) (n i j : Nat) : (s.bumpBy f n i j).mode = s.mode := rfl
@[simp] theorem State.bumpBy_fc (s : State) (f : Field) (n i j : Nat) : (s.bumpBy f n i j).fc = s.fc := rfl
@[simp] theorem State.bumpBy_rcd (s : State) (f : Field) (n i j : Nat) : (s.bumpBy f n i j).rcd = s.rcd := rfl
@[simp] theorem State.bumpBy_chg (s : State) (f : Field) (n i j : Nat) : (s.bumpBy f n i j).chg = s.chg := rfl
@[simp] theorem State.bumpBy_chgNext (s : State) (f : Field) (n i j : Nat) : (s.bumpBy f n i j).chgNext = s.chgNext := rfl
@[simp] theorem State.bumpBy_svc (s : State) (f : Field) (n i j : Nat) : (s.bumpBy f n i j).svc = s.svc := rfl
@[simp] theorem State.bumpBy_pwr (s : State) (f : Field) (n i j : Nat) : (s.bumpBy f n i j).pwr = s.pwr := rfl
@[simp] theorem State.bumpBy_sp (s : State) (f : Field) (n i j : Nat) : (s.bumpBy f n i j).sp = s.sp := rfl
@[simp] theorem State.bumpBy_sched (s : State) (f : Field) (n i j : Nat) : (s.bumpBy f n i j).sched = s.sched := rfl
@[simp] theorem State.bumpBy_kevents (s : State) (f : Field) (n i j : Nat) : (s.bumpBy f n i j).kevents = s.kevents := rfl
@[simp] theorem State.bumpBy_peers (s : State) (f : Field) (n i j : Nat) : (s.bumpBy f n i j).peers = s.peers := rfl
@[simp] theorem State.bumpBy_bf (s : State) (f : Field) (n i j : Nat) : (s.bumpBy f n i j).bf = s.bf := rfl
@[simp] theorem State.bumpBy_img (s : State) (f : Field) (n i j : Nat) : (s.bumpBy f n i j).img = s.img := rfl
@[simp] theorem State.bumpBy_fwVersion (s : State) (f : Field) (n i j : Nat) : (s.bumpBy f n i j).fwVersion = s.fwVersion := rfl
@[simp] theorem State.bumpBy_pair (s : State) (f : Field) (n i j : Nat) : (s.bumpBy f n i j).pair = s.pair := rfl
@[simp] theorem State.bumpBy_ring (s : State) (f : Field) (n i j : Nat) : (s.bumpBy f n i j).ring = s.ring := rfl
@[simp] theorem State.bumpBy_ringB (s : State) (f : Field) (n i j : Nat) : (s.bumpBy f n i j).ringB = s.ringB := rfl
@[simp] theorem State.bumpBy_fwd (s : State) (f : Field) (n i j : Nat) : (s.bumpBy f n i j).fwd = s.fwd := rfl
@[simp] theorem State.bumpBy_can (s : State) (f : Field) (n i j : Nat) : (s.bumpBy f n i j).can = s.can := rfl
@[simp] theorem State.bumpBy_ctls (s : State) (f : Field) (n i j : Nat) : (s.bumpBy f n i j).ctls = s.ctls := rfl
@[simp] theorem State.bumpBy_txSeq (s : State) (f : Field) (n i j : Nat) : (s.bumpBy f n i j).txSeq = s.txSeq := rfl
@[simp] theorem State.bumpBy_sess (s : State) (f : Field) (n i j : Nat) : (s.bumpBy f n i j).sess = s.sess := rfl
@[simp] theorem State.bumpBy_queues (s : State) (f : Field) (n i j : Nat) : (s.bumpBy f n i j).queues = s.queues := rfl
@[simp] theorem State.bumpBy_cv (s : State) (f : Field) (n i j : Nat) : (s.bumpBy f n i j).cv = s.cv := rfl
@[simp] theorem State.bumpBy_io (s : State) (f : Field) (n i j : Nat) : (s.bumpBy f n i j).io = s.io := rfl
@[simp] theorem State.bumpBy_att (s : State) (f : Field) (n i j : Nat) : (s.bumpBy f n i j).att = s.att := rfl
@[simp] theorem State.bumpBy_upd (s : State) (f : Field) (n i j : Nat) : (s.bumpBy f n i j).upd = s.upd := rfl
@[simp] theorem State.bumpBy_settings (s : State) (f : Field) (n i j : Nat) : (s.bumpBy f n i j).settings = s.settings := rfl

/-! ### peak -/

@[simp] theorem State.peak_pending (s : State) (f : Field) (v i j : Nat) : (s.peak f v i j).pending = s.pending := rfl
@[simp] theorem State.peak_out (s : State) (f : Field) (v i j : Nat) : (s.peak f v i j).out = s.out := rfl
@[simp] theorem State.peak_free (s : State) (f : Field) (v i j : Nat) : (s.peak f v i j).free = s.free := rfl
@[simp] theorem State.peak_time (s : State) (f : Field) (v i j : Nat) : (s.peak f v i j).time = s.time := rfl
@[simp] theorem State.peak_wv (s : State) (f : Field) (v i j : Nat) : (s.peak f v i j).wv = s.wv := rfl
@[simp] theorem State.peak_mode (s : State) (f : Field) (v i j : Nat) : (s.peak f v i j).mode = s.mode := rfl
@[simp] theorem State.peak_fc (s : State) (f : Field) (v i j : Nat) : (s.peak f v i j).fc = s.fc := rfl
@[simp] theorem State.peak_rcd (s : State) (f : Field) (v i j : Nat) : (s.peak f v i j).rcd = s.rcd := rfl
@[simp] theorem State.peak_chg (s : State) (f : Field) (v i j : Nat) : (s.peak f v i j).chg = s.chg := rfl
@[simp] theorem State.peak_chgNext (s : State) (f : Field) (v i j : Nat) : (s.peak f v i j).chgNext = s.chgNext := rfl
@[simp] theorem State.peak_svc (s : State) (f : Field) (v i j : Nat) : (s.peak f v i j).svc = s.svc := rfl
@[simp] theorem State.peak_pwr (s : State) (f : Field) (v i j : Nat) : (s.peak f v i j).pwr = s.pwr := rfl
@[simp] theorem State.peak_sp (s : State) (f : Field) (v i j : Nat) : (s.peak f v i j).sp = s.sp := rfl
@[simp] theorem State.peak_sched (s : State) (f : Field) (v i j : Nat) : (s.peak f v i j).sched = s.sched := rfl
@[simp] theorem State.peak_kevents (s : State) (f : Field) (v i j : Nat) : (s.peak f v i j).kevents = s.kevents := rfl
@[simp] theorem State.peak_peers (s : State) (f : Field) (v i j : Nat) : (s.peak f v i j).peers = s.peers := rfl
@[simp] theorem State.peak_bf (s : State) (f : Field) (v i j : Nat) : (s.peak f v i j).bf = s.bf := rfl
@[simp] theorem State.peak_img (s : State) (f : Field) (v i j : Nat) : (s.peak f v i j).img = s.img := rfl
@[simp] theorem State.peak_fwVersion (s : State) (f : Field) (v i j : Nat) : (s.peak f v i j).fwVersion = s.fwVersion := rfl
@[simp] theorem State.peak_pair (s : State) (f : Field) (v i j : Nat) : (s.peak f v i j).pair = s.pair := rfl
@[simp] theorem State.peak_ring (s : State) (f : Field) (v i j : Nat) : (s.peak f v i j).ring = s.ring := rfl
@[simp] theorem State.peak_ringB (s : State) (f : Field) (v i j : Nat) : (s.peak f v i j).ringB = s.ringB := rfl
@[simp] theorem State.peak_fwd (s : State) (f : Field) (v i j : Nat) : (s.peak f v i j).fwd = s.fwd := rfl
@[simp] theorem State.peak_can (s : State) (f : Field) (v i j : Nat) : (s.peak f v i j).can = s.can := rfl
@[simp] theorem State.peak_ctls (s : State) (f : Field) (v i j : Nat) : (s.peak f v i j).ctls = s.ctls := rfl
@[simp] theorem State.peak_txSeq (s : State) (f : Field) (v i j : Nat) : (s.peak f v i j).txSeq = s.txSeq := rfl
@[simp] theorem State.peak_sess (s : State) (f : Field) (v i j : Nat) : (s.peak f v i j).sess = s.sess := rfl
@[simp] theorem State.peak_queues (s : State) (f : Field) (v i j : Nat) : (s.peak f v i j).queues = s.queues := rfl
@[simp] theorem State.peak_cv (s : State) (f : Field) (v i j : Nat) : (s.peak f v i j).cv = s.cv := rfl
@[simp] theorem State.peak_io (s : State) (f : Field) (v i j : Nat) : (s.peak f v i j).io = s.io := rfl
@[simp] theorem State.peak_att (s : State) (f : Field) (v i j : Nat) : (s.peak f v i j).att = s.att := rfl
@[simp] theorem State.peak_upd (s : State) (f : Field) (v i j : Nat) : (s.peak f v i j).upd = s.upd := rfl
@[simp] theorem State.peak_settings (s : State) (f : Field) (v i j : Nat) : (s.peak f v i j).settings = s.settings := rfl

/-! ### bumpReg -/

@[simp] theorem State.bumpReg_pending (s : State) (r : Reg) (i j n : Nat) : (s.bumpReg r i j n).pending = s.pending := rfl
@[simp] theorem State.bumpReg_out (s : State) (r : Reg) (i j n : Nat) : (s.bumpReg r i j n).out = s.out := rfl
@[simp] theorem State.bumpReg_free (s : State) (r : Reg) (i j n : Nat) : (s.bumpReg r i j n).free = s.free := rfl
@[simp] theorem State.bumpReg_time (s : State) (r : Reg) (i j n : Nat) : (s.bumpReg r i j n).time = s.time := rfl
@[simp] theorem State.bumpReg_wv (s : State) (r : Reg) (i j n : Nat) : (s.bumpReg r i j n).wv = s.wv := rfl
@[simp] theorem State.bumpReg_mode (s : State) (r : Reg) (i j n : Nat) : (s.bumpReg r i j n).mode = s.mode := rfl
@[simp] theorem State.bumpReg_fc (s : State) (r : Reg) (i j n : Nat) : (s.bumpReg r i j n).fc = s.fc := rfl
@[simp] theorem State.bumpReg_rcd (s : State) (r : Reg) (i j n : Nat) : (s.bumpReg r i j n).rcd = s.rcd := rfl
@[simp] theorem State.bumpReg_chg (s : State) (r : Reg) (i j n : Nat) : (s.bumpReg r i j n).chg = s.chg := rfl
@[simp] theorem State.bumpReg_chgNext (s : State) (r : Reg) (i j n : Nat) : (s.bumpReg r i j n).chgNext = s.chgNext := rfl
@[simp] theorem State.bumpReg_svc (s : State) (r : Reg) (i j n : Nat) : (s.bumpReg r i j n).svc = s.svc := rfl
@[simp] theorem State.bumpReg_pwr (s : State) (r : Reg) (i j n : Nat) : (s.bumpReg r i j n).pwr = s.pwr := rfl
@[simp] theorem State.bumpReg_sp (s : State) (r : Reg) (i j n : Nat) : (s.bumpReg r i j n).sp = s.sp := rfl
@[simp] theorem State.bumpReg_sched (s : State) (r : Reg) (i j n : Nat) : (s.bumpReg r i j n).sched = s.sched := rfl
@[simp] theorem State.bumpReg_kevents (s : State) (r : Reg) (i j n : Nat) : (s.bumpReg r i j n).kevents = s.kevents := rfl
@[simp] theorem State.bumpReg_peers (s : State) (r : Reg) (i j n : Nat) : (s.bumpReg r i j n).peers = s.peers := rfl
@[simp] theorem State.bumpReg_bf (s : State) (r : Reg) (i j n : Nat) : (s.bumpReg r i j n).bf = s.bf := rfl
@[simp] theorem State.bumpReg_img (s : State) (r : Reg) (i j n : Nat) : (s.bumpReg r i j n).img = s.img := rfl
@[simp] theorem State.bumpReg_fwVersion (s : State) (r : Reg) (i j n : Nat) : (s.bumpReg r i j n).fwVersion = s.fwVersion := rfl
@[simp] theorem State.bumpReg_pair (s : State) (r : Reg) (i j n : Nat) : (s.bumpReg r i j n).pair = s.pair := rfl
@[simp] theorem State.bumpReg_ring (s : State) (r : Reg) (i j n : Nat) : (s.bumpReg r i j n).ring = s.ring := rfl
@[simp] theorem State.bumpReg_ringB (s : State) (r : Reg) (i j n : Nat) : (s.bumpReg r i j n).ringB = s.ringB := rfl
@[simp] theorem State.bumpReg_fwd (s : State) (r : Reg) (i j n : Nat) : (s.bumpReg r i j n).fwd = s.fwd := rfl
@[simp] theorem State.bumpReg_can (s : State) (r : Reg) (i j n : Nat) : (s.bumpReg r i j n).can = s.can := rfl
@[simp] theorem State.bumpReg_ctls (s : State) (r : Reg) (i j n : Nat) : (s.bumpReg r i j n).ctls = s.ctls := rfl
@[simp] theorem State.bumpReg_txSeq (s : State) (r : Reg) (i j n : Nat) : (s.bumpReg r i j n).txSeq = s.txSeq := rfl
@[simp] theorem State.bumpReg_sess (s : State) (r : Reg) (i j n : Nat) : (s.bumpReg r i j n).sess = s.sess := rfl
@[simp] theorem State.bumpReg_queues (s : State) (r : Reg) (i j n : Nat) : (s.bumpReg r i j n).queues = s.queues := rfl
@[simp] theorem State.bumpReg_cv (s : State) (r : Reg) (i j n : Nat) : (s.bumpReg r i j n).cv = s.cv := rfl
@[simp] theorem State.bumpReg_io (s : State) (r : Reg) (i j n : Nat) : (s.bumpReg r i j n).io = s.io := rfl
@[simp] theorem State.bumpReg_att (s : State) (r : Reg) (i j n : Nat) : (s.bumpReg r i j n).att = s.att := rfl
@[simp] theorem State.bumpReg_upd (s : State) (r : Reg) (i j n : Nat) : (s.bumpReg r i j n).upd = s.upd := rfl
@[simp] theorem State.bumpReg_settings (s : State) (r : Reg) (i j n : Nat) : (s.bumpReg r i j n).settings = s.settings := rfl

/-! ### emit -/

@[simp] theorem State.emit_pending (s : State) (o : Output) : (s.emit o).pending = s.pending := rfl
@[simp] theorem State.emit_free (s : State) (o : Output) : (s.emit o).free = s.free := rfl
@[simp] theorem State.emit_regs (s : State) (o : Output) : (s.emit o).regs = s.regs := rfl
@[simp] theorem State.emit_time (s : State) (o : Output) : (s.emit o).time = s.time := rfl
@[simp] theorem State.emit_wv (s : State) (o : Output) : (s.emit o).wv = s.wv := rfl
@[simp] theorem State.emit_mode (s : State) (o : Output) : (s.emit o).mode = s.mode := rfl
@[simp] theorem State.emit_fc (s : State) (o : Output) : (s.emit o).fc = s.fc := rfl
@[simp] theorem State.emit_rcd (s : State) (o : Output) : (s.emit o).rcd = s.rcd := rfl
@[simp] theorem State.emit_chg (s : State) (o : Output) : (s.emit o).chg = s.chg := rfl
@[simp] theorem State.emit_chgNext (s : State) (o : Output) : (s.emit o).chgNext = s.chgNext := rfl
@[simp] theorem State.emit_svc (s : State) (o : Output) : (s.emit o).svc = s.svc := rfl
@[simp] theorem State.emit_pwr (s : State) (o : Output) : (s.emit o).pwr = s.pwr := rfl
@[simp] theorem State.emit_sp (s : State) (o : Output) : (s.emit o).sp = s.sp := rfl
@[simp] theorem State.emit_sched (s : State) (o : Output) : (s.emit o).sched = s.sched := rfl
@[simp] theorem State.emit_kevents (s : State) (o : Output) : (s.emit o).kevents = s.kevents := rfl
@[simp] theorem State.emit_peers (s : State) (o : Output) : (s.emit o).peers = s.peers := rfl
@[simp] theorem State.emit_bf (s : State) (o : Output) : (s.emit o).bf = s.bf := rfl
@[simp] theorem State.emit_img (s : State) (o : Output) : (s.emit o).img = s.img := rfl
@[simp] theorem State.emit_fwVersion (s : State) (o : Output) : (s.emit o).fwVersion = s.fwVersion := rfl
@[simp] theorem State.emit_pair (s : State) (o : Output) : (s.emit o).pair = s.pair := rfl
@[simp] theorem State.emit_ring (s : State) (o : Output) : (s.emit o).ring = s.ring := rfl
@[simp] theorem State.emit_ringB (s : State) (o : Output) : (s.emit o).ringB = s.ringB := rfl
@[simp] theorem State.emit_fwd (s : State) (o : Output) : (s.emit o).fwd = s.fwd := rfl
@[simp] theorem State.emit_can (s : State) (o : Output) : (s.emit o).can = s.can := rfl
@[simp] theorem State.emit_ctls (s : State) (o : Output) : (s.emit o).ctls = s.ctls := rfl
@[simp] theorem State.emit_txSeq (s : State) (o : Output) : (s.emit o).txSeq = s.txSeq := rfl
@[simp] theorem State.emit_sess (s : State) (o : Output) : (s.emit o).sess = s.sess := rfl
@[simp] theorem State.emit_queues (s : State) (o : Output) : (s.emit o).queues = s.queues := rfl
@[simp] theorem State.emit_cv (s : State) (o : Output) : (s.emit o).cv = s.cv := rfl
@[simp] theorem State.emit_io (s : State) (o : Output) : (s.emit o).io = s.io := rfl
@[simp] theorem State.emit_att (s : State) (o : Output) : (s.emit o).att = s.att := rfl
@[simp] theorem State.emit_upd (s : State) (o : Output) : (s.emit o).upd = s.upd := rfl
@[simp] theorem State.emit_settings (s : State) (o : Output) : (s.emit o).settings = s.settings := rfl

/-! ### answer -/

@[simp] theorem State.answer_pending (s : State) (x : SvcSess) (d : List Nat) : (s.answer x d).pending = s.pending := rfl
@[simp] theorem State.answer_free (s : State) (x : SvcSess) (d : List Nat) : (s.answer x d).free = s.free := rfl
@[simp] theorem State.answer_regs (s : State) (x : SvcSess) (d : List Nat) : (s.answer x d).regs = s.regs := rfl
@[simp] theorem State.answer_time (s : State) (x : SvcSess) (d : List Nat) : (s.answer x d).time = s.time := rfl
@[simp] theorem State.answer_wv (s : State) (x : SvcSess) (d : List Nat) : (s.answer x d).wv = s.wv := rfl
@[simp] theorem State.answer_mode (s : State) (x : SvcSess) (d : List Nat) : (s.answer x d).mode = s.mode := rfl
@[simp] theorem State.answer_fc (s : State) (x : SvcSess) (d : List Nat) : (s.answer x d).fc = s.fc := rfl
@[simp] theorem State.answer_rcd (s : State) (x : SvcSess) (d : List Nat) : (s.answer x d).rcd = s.rcd := rfl
@[simp] theorem State.answer_chg (s : State) (x : SvcSess) (d : List Nat) : (s.answer x d).chg = s.chg := rfl
@[simp] theorem State.answer_chgNext (s : State) (x : SvcSess) (d : List Nat) : (s.answer x d).chgNext = s.chgNext := rfl
@[simp] theorem State.answer_svc (s : State) (x : SvcSess) (d : List Nat) : (s.answer x d).svc = s.svc := rfl
@[simp] theorem State.answer_pwr (s : State) (x : SvcSess) (d : List Nat) : (s.answer x d).pwr = s.pwr := rfl
@[simp] theorem State.answer_sp (s : State) (x : SvcSess) (d : List Nat) : (s.answer x d).sp = s.sp := rfl
@[simp] theorem State.answer_sched (s : State) (x : SvcSess) (d : List Nat) : (s.answer x d).sched = s.sched := rfl
@[simp] theorem State.answer_kevents (s : State) (x : SvcSess) (d : List Nat) : (s.answer x d).kevents = s.kevents := rfl
@[simp] theorem State.answer_peers (s : State) (x : SvcSess) (d : List Nat) : (s.answer x d).peers = s.peers := rfl
@[simp] theorem State.answer_bf (s : State) (x : SvcSess) (d : List Nat) : (s.answer x d).bf = s.bf := rfl
@[simp] theorem State.answer_img (s : State) (x : SvcSess) (d : List Nat) : (s.answer x d).img = s.img := rfl
@[simp] theorem State.answer_fwVersion (s : State) (x : SvcSess) (d : List Nat) : (s.answer x d).fwVersion = s.fwVersion := rfl
@[simp] theorem State.answer_pair (s : State) (x : SvcSess) (d : List Nat) : (s.answer x d).pair = s.pair := rfl
@[simp] theorem State.answer_ring (s : State) (x : SvcSess) (d : List Nat) : (s.answer x d).ring = s.ring := rfl
@[simp] theorem State.answer_ringB (s : State) (x : SvcSess) (d : List Nat) : (s.answer x d).ringB = s.ringB := rfl
@[simp] theorem State.answer_fwd (s : State) (x : SvcSess) (d : List Nat) : (s.answer x d).fwd = s.fwd := rfl
@[simp] theorem State.answer_can (s : State) (x : SvcSess) (d : List Nat) : (s.answer x d).can = s.can := rfl
@[simp] theorem State.answer_ctls (s : State) (x : SvcSess) (d : List Nat) : (s.answer x d).ctls = s.ctls := rfl
@[simp] theorem State.answer_txSeq (s : State) (x : SvcSess) (d : List Nat) : (s.answer x d).txSeq = s.txSeq := rfl
@[simp] theorem State.answer_sess (s : State) (x : SvcSess) (d : List Nat) : (s.answer x d).sess = s.sess := rfl
@[simp] theorem State.answer_queues (s : State) (x : SvcSess) (d : List Nat) : (s.answer x d).queues = s.queues := rfl
@[simp] theorem State.answer_cv (s : State) (x : SvcSess) (d : List Nat) : (s.answer x d).cv = s.cv := rfl
@[simp] theorem State.answer_io (s : State) (x : SvcSess) (d : List Nat) : (s.answer x d).io = s.io := rfl
@[simp] theorem State.answer_att (s : State) (x : SvcSess) (d : List Nat) : (s.answer x d).att = s.att := rfl
@[simp] theorem State.answer_upd (s : State) (x : SvcSess) (d : List Nat) : (s.answer x d).upd = s.upd := rfl
@[simp] theorem State.answer_settings (s : State) (x : SvcSess) (d : List Nat) : (s.answer x d).settings = s.settings := rfl

/-! ### draw -/

@[simp] theorem State.draw_pending (s : State) : (s.draw.2).pending = s.pending := rfl
@[simp] theorem State.draw_out (s : State) : (s.draw.2).out = s.out := rfl
@[simp] theorem State.draw_regs (s : State) : (s.draw.2).regs = s.regs := rfl
@[simp] theorem State.draw_time (s : State) : (s.draw.2).time = s.time := rfl
@[simp] theorem State.draw_wv (s : State) : (s.draw.2).wv = s.wv := rfl
@[simp] theorem State.draw_mode (s : State) : (s.draw.2).mode = s.mode := rfl
@[simp] theorem State.draw_fc (s : State) : (s.draw.2).fc = s.fc := rfl
@[simp] theorem State.draw_rcd (s : State) : (s.draw.2).rcd = s.rcd := rfl
@[simp] theorem State.draw_chg (s : State) : (s.draw.2).chg = s.chg := rfl
@[simp] theorem State.draw_chgNext (s : State) : (s.draw.2).chgNext = s.chgNext := rfl
@[simp] theorem State.draw_svc (s : State) : (s.draw.2).svc = s.svc := rfl
@[simp] theorem State.draw_pwr (s : State) : (s.draw.2).pwr = s.pwr := rfl
@[simp] theorem State.draw_sp (s : State) : (s.draw.2).sp = s.sp := rfl
@[simp] theorem State.draw_sched (s : State) : (s.draw.2).sched = s.sched := rfl
@[simp] theorem State.draw_kevents (s : State) : (s.draw.2).kevents = s.kevents := rfl
@[simp] theorem State.draw_peers (s : State) : (s.draw.2).peers = s.peers := rfl
@[simp] theorem State.draw_bf (s : State) : (s.draw.2).bf = s.bf := rfl
@[simp] theorem State.draw_img (s : State) : (s.draw.2).img = s.img := rfl
@[simp] theorem State.draw_fwVersion (s : State) : (s.draw.2).fwVersion = s.fwVersion := rfl
@[simp] theorem State.draw_pair (s : State) : (s.draw.2).pair = s.pair := rfl
@[simp] theorem State.draw_ring (s : State) : (s.draw.2).ring = s.ring := rfl
@[simp] theorem State.draw_ringB (s : State) : (s.draw.2).ringB = s.ringB := rfl
@[simp] theorem State.draw_fwd (s : State) : (s.draw.2).fwd = s.fwd := rfl
@[simp] theorem State.draw_can (s : State) : (s.draw.2).can = s.can := rfl
@[simp] theorem State.draw_ctls (s : State) : (s.draw.2).ctls = s.ctls := rfl
@[simp] theorem State.draw_txSeq (s : State) : (s.draw.2).txSeq = s.txSeq := rfl
@[simp] theorem State.draw_sess (s : State) : (s.draw.2).sess = s.sess := rfl
@[simp] theorem State.draw_queues (s : State) : (s.draw.2).queues = s.queues := rfl
@[simp] theorem State.draw_cv (s : State) : (s.draw.2).cv = s.cv := rfl
@[simp] theorem State.draw_io (s : State) : (s.draw.2).io = s.io := rfl
@[simp] theorem State.draw_att (s : State) : (s.draw.2).att = s.att := rfl
@[simp] theorem State.draw_upd (s : State) : (s.draw.2).upd = s.upd := rfl
@[simp] theorem State.draw_settings (s : State) : (s.draw.2).settings = s.settings := rfl

/-! ### drawUpTo -/

@[simp] theorem State.drawUpTo_pending (s : State) (n : Nat) : ((s.drawUpTo n).2).pending = s.pending := rfl
@[simp] theorem State.drawUpTo_out (s : State) (n : Nat) : ((s.drawUpTo n).2).out = s.out := rfl
@[simp] theorem State.drawUpTo_regs (s : State) (n : Nat) : ((s.drawUpTo n).2).regs = s.regs := rfl
@[simp] theorem State.drawUpTo_time (s : State) (n : Nat) : ((s.drawUpTo n).2).time = s.time := rfl
@[simp] theorem State.drawUpTo_wv (s : State) (n : Nat) : ((s.drawUpTo n).2).wv = s.wv := rfl
@[simp] theorem State.drawUpTo_mode (s : State) (n : Nat) : ((s.drawUpTo n).2).mode = s.mode := rfl
@[simp] theorem State.drawUpTo_fc (s : State) (n : Nat) : ((s.drawUpTo n).2).fc = s.fc := rfl
@[simp] theorem State.drawUpTo_rcd (s : State) (n : Nat) : ((s.drawUpTo n).2).rcd = s.rcd := rfl
@[simp] theorem State.drawUpTo_chg (s : State) (n : Nat) : ((s.drawUpTo n).2).chg = s.chg := rfl
@[simp] theorem State.drawUpTo_chgNext (s : State) (n : Nat) : ((s.drawUpTo n).2).chgNext = s.chgNext := rfl
@[simp] theorem State.drawUpTo_svc (s : State) (n : Nat) : ((s.drawUpTo n).2).svc = s.svc := rfl
@[simp] theorem State.drawUpTo_pwr (s : State) (n : Nat) : ((s.drawUpTo n).2).pwr = s.pwr := rfl
@[simp] theorem State.drawUpTo_sp (s : State) (n : Nat) : ((s.drawUpTo n).2).sp = s.sp := rfl
@[simp] theorem State.drawUpTo_sched (s : State) (n : Nat) : ((s.drawUpTo n).2).sched = s.sched := rfl
@[simp] theorem State.drawUpTo_kevents (s : State) (n : Nat) : ((s.drawUpTo n).2).kevents = s.kevents := rfl
@[simp] theorem State.drawUpTo_peers (s : State) (n : Nat) : ((s.drawUpTo n).2).peers = s.peers := rfl
@[simp] theorem State.drawUpTo_bf (s : State) (n : Nat) : ((s.drawUpTo n).2).bf = s.bf := rfl
@[simp] theorem State.drawUpTo_img (s : State) (n : Nat) : ((s.drawUpTo n).2).img = s.img := rfl
@[simp] theorem State.drawUpTo_fwVersion (s : State) (n : Nat) : ((s.drawUpTo n).2).fwVersion = s.fwVersion := rfl
@[simp] theorem State.drawUpTo_pair (s : State) (n : Nat) : ((s.drawUpTo n).2).pair = s.pair := rfl
@[simp] theorem State.drawUpTo_ring (s : State) (n : Nat) : ((s.drawUpTo n).2).ring = s.ring := rfl
@[simp] theorem State.drawUpTo_ringB (s : State) (n : Nat) : ((s.drawUpTo n).2).ringB = s.ringB := rfl
@[simp] theorem State.drawUpTo_fwd (s : State) (n : Nat) : ((s.drawUpTo n).2).fwd = s.fwd := rfl
@[simp] theorem State.drawUpTo_can (s : State) (n : Nat) : ((s.drawUpTo n).2).can = s.can := rfl
@[simp] theorem State.drawUpTo_ctls (s : State) (n : Nat) : ((s.drawUpTo n).2).ctls = s.ctls := rfl
@[simp] theorem State.drawUpTo_txSeq (s : State) (n : Nat) : ((s.drawUpTo n).2).txSeq = s.txSeq := rfl
@[simp] theorem State.drawUpTo_sess (s : State) (n : Nat) : ((s.drawUpTo n).2).sess = s.sess := rfl
@[simp] theorem State.drawUpTo_queues (s : State) (n : Nat) : ((s.drawUpTo n).2).queues = s.queues := rfl
@[simp] theorem State.drawUpTo_cv (s : State) (n : Nat) : ((s.drawUpTo n).2).cv = s.cv := rfl
@[simp] theorem State.drawUpTo_io (s : State) (n : Nat) : ((s.drawUpTo n).2).io = s.io := rfl
@[simp] theorem State.drawUpTo_att (s : State) (n : Nat) : ((s.drawUpTo n).2).att = s.att := rfl
@[simp] theorem State.drawUpTo_upd (s : State) (n : Nat) : ((s.drawUpTo n).2).upd = s.upd := rfl
@[simp] theorem State.drawUpTo_settings (s : State) (n : Nat) : ((s.drawUpTo n).2).settings = s.settings := rfl

/-! ### svcTouch -/

@[simp] theorem State.svcTouch_pending (s : State) (c : Svc) : (s.svcTouch c).pending = s.pending := rfl
@[simp] theorem State.svcTouch_out (s : State) (c : Svc) : (s.svcTouch c).out = s.out := rfl
@[simp] theorem State.svcTouch_free (s : State) (c : Svc) : (s.svcTouch c).free = s.free := rfl
@[simp] theorem State.svcTouch_regs (s : State) (c : Svc) : (s.svcTouch c).regs = s.regs := rfl
@[simp] theorem State.svcTouch_time (s : State) (c : Svc) : (s.svcTouch c).time = s.time := rfl
@[simp] theorem State.svcTouch_wv (s : State) (c : Svc) : (s.svcTouch c).wv = s.wv := rfl
@[simp] theorem State.svcTouch_mode (s : State) (c : Svc) : (s.svcTouch c).mode = s.mode := rfl
@[simp] theorem State.svcTouch_fc (s : State) (c : Svc) : (s.svcTouch c).fc = s.fc := rfl
@[simp] theorem State.svcTouch_rcd (s : State) (c : Svc) : (s.svcTouch c).rcd = s.rcd := rfl
@[simp] theorem State.svcTouch_chg (s : State) (c : Svc) : (s.svcTouch c).chg = s.chg := rfl
@[simp] theorem State.svcTouch_chgNext (s : State) (c : Svc) : (s.svcTouch c).chgNext = s.chgNext := rfl
@[simp] theorem State.svcTouch_pwr (s : State) (c : Svc) : (s.svcTouch c).pwr = s.pwr := rfl
@[simp] theorem State.svcTouch_sp (s : State) (c : Svc) : (s.svcTouch c).sp = s.sp := rfl
@[simp] theorem State.svcTouch_sched (s : State) (c : Svc) : (s.svcTouch c).sched = s.sched := rfl
@[simp] theorem State.svcTouch_kevents (s : State) (c : Svc) : (s.svcTouch c).kevents = s.kevents := rfl
@[simp] theorem State.svcTouch_peers (s : State) (c : Svc) : (s.svcTouch c).peers = s.peers := rfl
@[simp] theorem State.svcTouch_bf (s : State) (c : Svc) : (s.svcTouch c).bf = s.bf := rfl
@[simp] theorem State.svcTouch_img (s : State) (c : Svc) : (s.svcTouch c).img = s.img := rfl
@[simp] theorem State.svcTouch_fwVersion (s : State) (c : Svc) : (s.svcTouch c).fwVersion = s.fwVersion := rfl
@[simp] theorem State.svcTouch_pair (s : State) (c : Svc) : (s.svcTouch c).pair = s.pair := rfl
@[simp] theorem State.svcTouch_ring (s : State) (c : Svc) : (s.svcTouch c).ring = s.ring := rfl
@[simp] theorem State.svcTouch_ringB (s : State) (c : Svc) : (s.svcTouch c).ringB = s.ringB := rfl
@[simp] theorem State.svcTouch_fwd (s : State) (c : Svc) : (s.svcTouch c).fwd = s.fwd := rfl
@[simp] theorem State.svcTouch_can (s : State) (c : Svc) : (s.svcTouch c).can = s.can := rfl
@[simp] theorem State.svcTouch_ctls (s : State) (c : Svc) : (s.svcTouch c).ctls = s.ctls := rfl
@[simp] theorem State.svcTouch_txSeq (s : State) (c : Svc) : (s.svcTouch c).txSeq = s.txSeq := rfl
@[simp] theorem State.svcTouch_sess (s : State) (c : Svc) : (s.svcTouch c).sess = s.sess := rfl
@[simp] theorem State.svcTouch_queues (s : State) (c : Svc) : (s.svcTouch c).queues = s.queues := rfl
@[simp] theorem State.svcTouch_cv (s : State) (c : Svc) : (s.svcTouch c).cv = s.cv := rfl
@[simp] theorem State.svcTouch_io (s : State) (c : Svc) : (s.svcTouch c).io = s.io := rfl
@[simp] theorem State.svcTouch_att (s : State) (c : Svc) : (s.svcTouch c).att = s.att := rfl
@[simp] theorem State.svcTouch_upd (s : State) (c : Svc) : (s.svcTouch c).upd = s.upd := rfl
@[simp] theorem State.svcTouch_settings (s : State) (c : Svc) : (s.svcTouch c).settings = s.settings := rfl

/-! ### recordFull -/

@[simp] theorem State.recordFull_pending (s : State) (c : RecCode) (a b : Nat) (x y z : Bool) (p q : Nat) : (s.recordFull c a b x y z p q).pending = s.pending := by
  unfold State.recordFull; dsimp only; split <;> split <;> rfl
@[simp] theorem State.recordFull_out (s : State) (c : RecCode) (a b : Nat) (x y z : Bool) (p q : Nat) : (s.recordFull c a b x y z p q).out = s.out := by
  unfold State.recordFull; dsimp only; split <;> split <;> rfl
@[simp] theorem State.recordFull_free (s : State) (c : RecCode) (a b : Nat) (x y z : Bool) (p q : Nat) : (s.recordFull c a b x y z p q).free = s.free := by
  unfold State.recordFull; dsimp only; split <;> split <;> rfl
@[simp] theorem State.recordFull_time (s : State) (c : RecCode) (a b : Nat) (x y z : Bool) (p q : Nat) : (s.recordFull c a b x y z p q).time = s.time := by
  unfold State.recordFull; dsimp only; split <;> split <;> rfl
@[simp] theorem State.recordFull_wv (s : State) (c : RecCode) (a b : Nat) (x y z : Bool) (p q : Nat) : (s.recordFull c a b x y z p q).wv = s.wv := by
  unfold State.recordFull; dsimp only; split <;> split <;> rfl
@[simp] theorem State.recordFull_mode (s : State) (c : RecCode) (a b : Nat) (x y z : Bool) (p q : Nat) : (s.recordFull c a b x y z p q).mode = s.mode := by
  unfold State.recordFull; dsimp only; split <;> split <;> rfl
@[simp] theorem State.recordFull_fc (s : State) (c : RecCode) (a b : Nat) (x y z : Bool) (p q : Nat) : (s.recordFull c a b x y z p q).fc = s.fc := by
  unfold State.recordFull; dsimp only; split <;> split <;> rfl
@[simp] theorem State.recordFull_chg (s : State) (c : RecCode) (a b : Nat) (x y z : Bool) (p q : Nat) : (s.recordFull c a b x y z p q).chg = s.chg := by
  unfold State.recordFull; dsimp only; split <;> split <;> rfl
@[simp] theorem State.recordFull_chgNext (s : State) (c : RecCode) (a b : Nat) (x y z : Bool) (p q : Nat) : (s.recordFull c a b x y z p q).chgNext = s.chgNext := by
  unfold State.recordFull; dsimp only; split <;> split <;> rfl
@[simp] theorem State.recordFull_svc (s : State) (c : RecCode) (a b : Nat) (x y z : Bool) (p q : Nat) : (s.recordFull c a b x y z p q).svc = s.svc := by
  unfold State.recordFull; dsimp only; split <;> split <;> rfl
@[simp] theorem State.recordFull_pwr (s : State) (c : RecCode) (a b : Nat) (x y z : Bool) (p q : Nat) : (s.recordFull c a b x y z p q).pwr = s.pwr := by
  unfold State.recordFull; dsimp only; split <;> split <;> rfl
@[simp] theorem State.recordFull_sp (s : State) (c : RecCode) (a b : Nat) (x y z : Bool) (p q : Nat) : (s.recordFull c a b x y z p q).sp = s.sp := by
  unfold State.recordFull; dsimp only; split <;> split <;> rfl
@[simp] theorem State.recordFull_sched (s : State) (c : RecCode) (a b : Nat) (x y z : Bool) (p q : Nat) : (s.recordFull c a b x y z p q).sched = s.sched := by
  unfold State.recordFull; dsimp only; split <;> split <;> rfl
@[simp] theorem State.recordFull_kevents (s : State) (c : RecCode) (a b : Nat) (x y z : Bool) (p q : Nat) : (s.recordFull c a b x y z p q).kevents = s.kevents := by
  unfold State.recordFull; dsimp only; split <;> split <;> rfl
@[simp] theorem State.recordFull_peers (s : State) (c : RecCode) (a b : Nat) (x y z : Bool) (p q : Nat) : (s.recordFull c a b x y z p q).peers = s.peers := by
  unfold State.recordFull; dsimp only; split <;> split <;> rfl
@[simp] theorem State.recordFull_bf (s : State) (c : RecCode) (a b : Nat) (x y z : Bool) (p q : Nat) : (s.recordFull c a b x y z p q).bf = s.bf := by
  unfold State.recordFull; dsimp only; split <;> split <;> rfl
@[simp] theorem State.recordFull_img (s : State) (c : RecCode) (a b : Nat) (x y z : Bool) (p q : Nat) : (s.recordFull c a b x y z p q).img = s.img := by
  unfold State.recordFull; dsimp only; split <;> split <;> rfl
@[simp] theorem State.recordFull_fwVersion (s : State) (c : RecCode) (a b : Nat) (x y z : Bool) (p q : Nat) : (s.recordFull c a b x y z p q).fwVersion = s.fwVersion := by
  unfold State.recordFull; dsimp only; split <;> split <;> rfl
@[simp] theorem State.recordFull_pair (s : State) (c : RecCode) (a b : Nat) (x y z : Bool) (p q : Nat) : (s.recordFull c a b x y z p q).pair = s.pair := by
  unfold State.recordFull; dsimp only; split <;> split <;> rfl
@[simp] theorem State.recordFull_ring (s : State) (c : RecCode) (a b : Nat) (x y z : Bool) (p q : Nat) : (s.recordFull c a b x y z p q).ring = s.ring := by
  unfold State.recordFull; dsimp only; split <;> split <;> rfl
@[simp] theorem State.recordFull_ringB (s : State) (c : RecCode) (a b : Nat) (x y z : Bool) (p q : Nat) : (s.recordFull c a b x y z p q).ringB = s.ringB := by
  unfold State.recordFull; dsimp only; split <;> split <;> rfl
@[simp] theorem State.recordFull_fwd (s : State) (c : RecCode) (a b : Nat) (x y z : Bool) (p q : Nat) : (s.recordFull c a b x y z p q).fwd = s.fwd := by
  unfold State.recordFull; dsimp only; split <;> split <;> rfl
@[simp] theorem State.recordFull_can (s : State) (c : RecCode) (a b : Nat) (x y z : Bool) (p q : Nat) : (s.recordFull c a b x y z p q).can = s.can := by
  unfold State.recordFull; dsimp only; split <;> split <;> rfl
@[simp] theorem State.recordFull_ctls (s : State) (c : RecCode) (a b : Nat) (x y z : Bool) (p q : Nat) : (s.recordFull c a b x y z p q).ctls = s.ctls := by
  unfold State.recordFull; dsimp only; split <;> split <;> rfl
@[simp] theorem State.recordFull_txSeq (s : State) (c : RecCode) (a b : Nat) (x y z : Bool) (p q : Nat) : (s.recordFull c a b x y z p q).txSeq = s.txSeq := by
  unfold State.recordFull; dsimp only; split <;> split <;> rfl
@[simp] theorem State.recordFull_sess (s : State) (c : RecCode) (a b : Nat) (x y z : Bool) (p q : Nat) : (s.recordFull c a b x y z p q).sess = s.sess := by
  unfold State.recordFull; dsimp only; split <;> split <;> rfl
@[simp] theorem State.recordFull_queues (s : State) (c : RecCode) (a b : Nat) (x y z : Bool) (p q : Nat) : (s.recordFull c a b x y z p q).queues = s.queues := by
  unfold State.recordFull; dsimp only; split <;> split <;> rfl
@[simp] theorem State.recordFull_cv (s : State) (c : RecCode) (a b : Nat) (x y z : Bool) (p q : Nat) : (s.recordFull c a b x y z p q).cv = s.cv := by
  unfold State.recordFull; dsimp only; split <;> split <;> rfl
@[simp] theorem State.recordFull_io (s : State) (c : RecCode) (a b : Nat) (x y z : Bool) (p q : Nat) : (s.recordFull c a b x y z p q).io = s.io := by
  unfold State.recordFull; dsimp only; split <;> split <;> rfl
@[simp] theorem State.recordFull_att (s : State) (c : RecCode) (a b : Nat) (x y z : Bool) (p q : Nat) : (s.recordFull c a b x y z p q).att = s.att := by
  unfold State.recordFull; dsimp only; split <;> split <;> rfl
@[simp] theorem State.recordFull_upd (s : State) (c : RecCode) (a b : Nat) (x y z : Bool) (p q : Nat) : (s.recordFull c a b x y z p q).upd = s.upd := by
  unfold State.recordFull; dsimp only; split <;> split <;> rfl
@[simp] theorem State.recordFull_settings (s : State) (c : RecCode) (a b : Nat) (x y z : Bool) (p q : Nat) : (s.recordFull c a b x y z p q).settings = s.settings := by
  unfold State.recordFull; dsimp only; split <;> split <;> rfl

/-! ### record -/

@[simp] theorem State.record_pending (s : State) (n : RecName) (a p q : Nat) : (s.record n a p q).pending = s.pending := State.recordFull_pending ..
@[simp] theorem State.record_out (s : State) (n : RecName) (a p q : Nat) : (s.record n a p q).out = s.out := State.recordFull_out ..
@[simp] theorem State.record_free (s : State) (n : RecName) (a p q : Nat) : (s.record n a p q).free = s.free := State.recordFull_free ..
@[simp] theorem State.record_time (s : State) (n : RecName) (a p q : Nat) : (s.record n a p q).time = s.time := State.recordFull_time ..
@[simp] theorem State.record_wv (s : State) (n : RecName) (a p q : Nat) : (s.record n a p q).wv = s.wv := State.recordFull_wv ..
@[simp] theorem State.record_mode (s : State) (n : RecName) (a p q : Nat) : (s.record n a p q).mode = s.mode := State.recordFull_mode ..
@[simp] theorem State.record_fc (s : State) (n : RecName) (a p q : Nat) : (s.record n a p q).fc = s.fc := State.recordFull_fc ..
@[simp] theorem State.record_chg (s : State) (n : RecName) (a p q : Nat) : (s.record n a p q).chg = s.chg := State.recordFull_chg ..
@[simp] theorem State.record_chgNext (s : State) (n : RecName) (a p q : Nat) : (s.record n a p q).chgNext = s.chgNext := State.recordFull_chgNext ..
@[simp] theorem State.record_svc (s : State) (n : RecName) (a p q : Nat) : (s.record n a p q).svc = s.svc := State.recordFull_svc ..
@[simp] theorem State.record_pwr (s : State) (n : RecName) (a p q : Nat) : (s.record n a p q).pwr = s.pwr := State.recordFull_pwr ..
@[simp] theorem State.record_sp (s : State) (n : RecName) (a p q : Nat) : (s.record n a p q).sp = s.sp := State.recordFull_sp ..
@[simp] theorem State.record_sched (s : State) (n : RecName) (a p q : Nat) : (s.record n a p q).sched = s.sched := State.recordFull_sched ..
@[simp] theorem State.record_kevents (s : State) (n : RecName) (a p q : Nat) : (s.record n a p q).kevents = s.kevents := State.recordFull_kevents ..
@[simp] theorem State.record_peers (s : State) (n : RecName) (a p q : Nat) : (s.record n a p q).peers = s.peers := State.recordFull_peers ..
@[simp] theorem State.record_bf (s : State) (n : RecName) (a p q : Nat) : (s.record n a p q).bf = s.bf := State.recordFull_bf ..
@[simp] theorem State.record_img (s : State) (n : RecName) (a p q : Nat) : (s.record n a p q).img = s.img := State.recordFull_img ..
@[simp] theorem State.record_fwVersion (s : State) (n : RecName) (a p q : Nat) : (s.record n a p q).fwVersion = s.fwVersion := State.recordFull_fwVersion ..
@[simp] theorem State.record_pair (s : State) (n : RecName) (a p q : Nat) : (s.record n a p q).pair = s.pair := State.recordFull_pair ..
@[simp] theorem State.record_ring (s : State) (n : RecName) (a p q : Nat) : (s.record n a p q).ring = s.ring := State.recordFull_ring ..
@[simp] theorem State.record_ringB (s : State) (n : RecName) (a p q : Nat) : (s.record n a p q).ringB = s.ringB := State.recordFull_ringB ..
@[simp] theorem State.record_fwd (s : State) (n : RecName) (a p q : Nat) : (s.record n a p q).fwd = s.fwd := State.recordFull_fwd ..
@[simp] theorem State.record_can (s : State) (n : RecName) (a p q : Nat) : (s.record n a p q).can = s.can := State.recordFull_can ..
@[simp] theorem State.record_ctls (s : State) (n : RecName) (a p q : Nat) : (s.record n a p q).ctls = s.ctls := State.recordFull_ctls ..
@[simp] theorem State.record_txSeq (s : State) (n : RecName) (a p q : Nat) : (s.record n a p q).txSeq = s.txSeq := State.recordFull_txSeq ..
@[simp] theorem State.record_sess (s : State) (n : RecName) (a p q : Nat) : (s.record n a p q).sess = s.sess := State.recordFull_sess ..
@[simp] theorem State.record_queues (s : State) (n : RecName) (a p q : Nat) : (s.record n a p q).queues = s.queues := State.recordFull_queues ..
@[simp] theorem State.record_cv (s : State) (n : RecName) (a p q : Nat) : (s.record n a p q).cv = s.cv := State.recordFull_cv ..
@[simp] theorem State.record_io (s : State) (n : RecName) (a p q : Nat) : (s.record n a p q).io = s.io := State.recordFull_io ..
@[simp] theorem State.record_att (s : State) (n : RecName) (a p q : Nat) : (s.record n a p q).att = s.att := State.recordFull_att ..
@[simp] theorem State.record_upd (s : State) (n : RecName) (a p q : Nat) : (s.record n a p q).upd = s.upd := State.recordFull_upd ..
@[simp] theorem State.record_settings (s : State) (n : RecName) (a p q : Nat) : (s.record n a p q).settings = s.settings := State.recordFull_settings ..

/-! ### event -/

@[simp] theorem State.event_pending (s : State) (n : RecName) (a u k : Nat) : (s.event n a u k).pending = s.pending := State.recordFull_pending ..
@[simp] theorem State.event_out (s : State) (n : RecName) (a u k : Nat) : (s.event n a u k).out = s.out := State.recordFull_out ..
@[simp] theorem State.event_free (s : State) (n : RecName) (a u k : Nat) : (s.event n a u k).free = s.free := State.recordFull_free ..
@[simp] theorem State.event_time (s : State) (n : RecName) (a u k : Nat) : (s.event n a u k).time = s.time := State.recordFull_time ..
@[simp] theorem State.event_wv (s : State) (n : RecName) (a u k : Nat) : (s.event n a u k).wv = s.wv := State.recordFull_wv ..
@[simp] theorem State.event_mode (s : State) (n : RecName) (a u k : Nat) : (s.event n a u k).mode = s.mode := State.recordFull_mode ..
@[simp] theorem State.event_fc (s : State) (n : RecName) (a u k : Nat) : (s.event n a u k).fc = s.fc := State.recordFull_fc ..
@[simp] theorem State.event_chg (s : State) (n : RecName) (a u k : Nat) : (s.event n a u k).chg = s.chg := State.recordFull_chg ..
@[simp] theorem State.event_chgNext (s : State) (n : RecName) (a u k : Nat) : (s.event n a u k).chgNext = s.chgNext := State.recordFull_chgNext ..
@[simp] theorem State.event_svc (s : State) (n : RecName) (a u k : Nat) : (s.event n a u k).svc = s.svc := State.recordFull_svc ..
@[simp] theorem State.event_pwr (s : State) (n : RecName) (a u k : Nat) : (s.event n a u k).pwr = s.pwr := State.recordFull_pwr ..
@[simp] theorem State.event_sp (s : State) (n : RecName) (a u k : Nat) : (s.event n a u k).sp = s.sp := State.recordFull_sp ..
@[simp] theorem State.event_sched (s : State) (n : RecName) (a u k : Nat) : (s.event n a u k).sched = s.sched := State.recordFull_sched ..
@[simp] theorem State.event_kevents (s : State) (n : RecName) (a u k : Nat) : (s.event n a u k).kevents = s.kevents := State.recordFull_kevents ..
@[simp] theorem State.event_peers (s : State) (n : RecName) (a u k : Nat) : (s.event n a u k).peers = s.peers := State.recordFull_peers ..
@[simp] theorem State.event_bf (s : State) (n : RecName) (a u k : Nat) : (s.event n a u k).bf = s.bf := State.recordFull_bf ..
@[simp] theorem State.event_img (s : State) (n : RecName) (a u k : Nat) : (s.event n a u k).img = s.img := State.recordFull_img ..
@[simp] theorem State.event_fwVersion (s : State) (n : RecName) (a u k : Nat) : (s.event n a u k).fwVersion = s.fwVersion := State.recordFull_fwVersion ..
@[simp] theorem State.event_pair (s : State) (n : RecName) (a u k : Nat) : (s.event n a u k).pair = s.pair := State.recordFull_pair ..
@[simp] theorem State.event_ring (s : State) (n : RecName) (a u k : Nat) : (s.event n a u k).ring = s.ring := State.recordFull_ring ..
@[simp] theorem State.event_ringB (s : State) (n : RecName) (a u k : Nat) : (s.event n a u k).ringB = s.ringB := State.recordFull_ringB ..
@[simp] theorem State.event_fwd (s : State) (n : RecName) (a u k : Nat) : (s.event n a u k).fwd = s.fwd := State.recordFull_fwd ..
@[simp] theorem State.event_can (s : State) (n : RecName) (a u k : Nat) : (s.event n a u k).can = s.can := State.recordFull_can ..
@[simp] theorem State.event_ctls (s : State) (n : RecName) (a u k : Nat) : (s.event n a u k).ctls = s.ctls := State.recordFull_ctls ..
@[simp] theorem State.event_txSeq (s : State) (n : RecName) (a u k : Nat) : (s.event n a u k).txSeq = s.txSeq := State.recordFull_txSeq ..
@[simp] theorem State.event_sess (s : State) (n : RecName) (a u k : Nat) : (s.event n a u k).sess = s.sess := State.recordFull_sess ..
@[simp] theorem State.event_queues (s : State) (n : RecName) (a u k : Nat) : (s.event n a u k).queues = s.queues := State.recordFull_queues ..
@[simp] theorem State.event_cv (s : State) (n : RecName) (a u k : Nat) : (s.event n a u k).cv = s.cv := State.recordFull_cv ..
@[simp] theorem State.event_io (s : State) (n : RecName) (a u k : Nat) : (s.event n a u k).io = s.io := State.recordFull_io ..
@[simp] theorem State.event_att (s : State) (n : RecName) (a u k : Nat) : (s.event n a u k).att = s.att := State.recordFull_att ..
@[simp] theorem State.event_upd (s : State) (n : RecName) (a u k : Nat) : (s.event n a u k).upd = s.upd := State.recordFull_upd ..
@[simp] theorem State.event_settings (s : State) (n : RecName) (a u k : Nat) : (s.event n a u k).settings = s.settings := State.recordFull_settings ..

/-! ### refuse -/

@[simp] theorem State.refuse_pending (s : State) (x : SvcSess) (a p : Nat) : (s.refuse x a p).pending = s.pending := State.recordFull_pending ..
@[simp] theorem State.refuse_free (s : State) (x : SvcSess) (a p : Nat) : (s.refuse x a p).free = s.free := State.recordFull_free ..
@[simp] theorem State.refuse_time (s : State) (x : SvcSess) (a p : Nat) : (s.refuse x a p).time = s.time := State.recordFull_time ..
@[simp] theorem State.refuse_wv (s : State) (x : SvcSess) (a p : Nat) : (s.refuse x a p).wv = s.wv := State.recordFull_wv ..
@[simp] theorem State.refuse_mode (s : State) (x : SvcSess) (a p : Nat) : (s.refuse x a p).mode = s.mode := State.recordFull_mode ..
@[simp] theorem State.refuse_fc (s : State) (x : SvcSess) (a p : Nat) : (s.refuse x a p).fc = s.fc := State.recordFull_fc ..
@[simp] theorem State.refuse_chg (s : State) (x : SvcSess) (a p : Nat) : (s.refuse x a p).chg = s.chg := State.recordFull_chg ..
@[simp] theorem State.refuse_chgNext (s : State) (x : SvcSess) (a p : Nat) : (s.refuse x a p).chgNext = s.chgNext := State.recordFull_chgNext ..
@[simp] theorem State.refuse_svc (s : State) (x : SvcSess) (a p : Nat) : (s.refuse x a p).svc = s.svc := State.recordFull_svc ..
@[simp] theorem State.refuse_pwr (s : State) (x : SvcSess) (a p : Nat) : (s.refuse x a p).pwr = s.pwr := State.recordFull_pwr ..
@[simp] theorem State.refuse_sp (s : State) (x : SvcSess) (a p : Nat) : (s.refuse x a p).sp = s.sp := State.recordFull_sp ..
@[simp] theorem State.refuse_sched (s : State) (x : SvcSess) (a p : Nat) : (s.refuse x a p).sched = s.sched := State.recordFull_sched ..
@[simp] theorem State.refuse_kevents (s : State) (x : SvcSess) (a p : Nat) : (s.refuse x a p).kevents = s.kevents := State.recordFull_kevents ..
@[simp] theorem State.refuse_peers (s : State) (x : SvcSess) (a p : Nat) : (s.refuse x a p).peers = s.peers := State.recordFull_peers ..
@[simp] theorem State.refuse_bf (s : State) (x : SvcSess) (a p : Nat) : (s.refuse x a p).bf = s.bf := State.recordFull_bf ..
@[simp] theorem State.refuse_img (s : State) (x : SvcSess) (a p : Nat) : (s.refuse x a p).img = s.img := State.recordFull_img ..
@[simp] theorem State.refuse_fwVersion (s : State) (x : SvcSess) (a p : Nat) : (s.refuse x a p).fwVersion = s.fwVersion := State.recordFull_fwVersion ..
@[simp] theorem State.refuse_pair (s : State) (x : SvcSess) (a p : Nat) : (s.refuse x a p).pair = s.pair := State.recordFull_pair ..
@[simp] theorem State.refuse_ring (s : State) (x : SvcSess) (a p : Nat) : (s.refuse x a p).ring = s.ring := State.recordFull_ring ..
@[simp] theorem State.refuse_ringB (s : State) (x : SvcSess) (a p : Nat) : (s.refuse x a p).ringB = s.ringB := State.recordFull_ringB ..
@[simp] theorem State.refuse_fwd (s : State) (x : SvcSess) (a p : Nat) : (s.refuse x a p).fwd = s.fwd := State.recordFull_fwd ..
@[simp] theorem State.refuse_can (s : State) (x : SvcSess) (a p : Nat) : (s.refuse x a p).can = s.can := State.recordFull_can ..
@[simp] theorem State.refuse_ctls (s : State) (x : SvcSess) (a p : Nat) : (s.refuse x a p).ctls = s.ctls := State.recordFull_ctls ..
@[simp] theorem State.refuse_txSeq (s : State) (x : SvcSess) (a p : Nat) : (s.refuse x a p).txSeq = s.txSeq := State.recordFull_txSeq ..
@[simp] theorem State.refuse_sess (s : State) (x : SvcSess) (a p : Nat) : (s.refuse x a p).sess = s.sess := State.recordFull_sess ..
@[simp] theorem State.refuse_queues (s : State) (x : SvcSess) (a p : Nat) : (s.refuse x a p).queues = s.queues := State.recordFull_queues ..
@[simp] theorem State.refuse_cv (s : State) (x : SvcSess) (a p : Nat) : (s.refuse x a p).cv = s.cv := State.recordFull_cv ..
@[simp] theorem State.refuse_io (s : State) (x : SvcSess) (a p : Nat) : (s.refuse x a p).io = s.io := State.recordFull_io ..
@[simp] theorem State.refuse_att (s : State) (x : SvcSess) (a p : Nat) : (s.refuse x a p).att = s.att := State.recordFull_att ..
@[simp] theorem State.refuse_upd (s : State) (x : SvcSess) (a p : Nat) : (s.refuse x a p).upd = s.upd := State.recordFull_upd ..
@[simp] theorem State.refuse_settings (s : State) (x : SvcSess) (a p : Nat) : (s.refuse x a p).settings = s.settings := State.recordFull_settings ..

/-! ### advanceNs -/

@[simp] theorem State.advanceNs_pending (s : State) (n : Nat) : (s.advanceNs n).pending = s.pending := by
  unfold State.advanceNs; dsimp only; split
  · rfl
  · split <;> rfl
@[simp] theorem State.advanceNs_out (s : State) (n : Nat) : (s.advanceNs n).out = s.out := by
  unfold State.advanceNs; dsimp only; split
  · rfl
  · split <;> rfl
@[simp] theorem State.advanceNs_regs (s : State) (n : Nat) : (s.advanceNs n).regs = s.regs := by
  unfold State.advanceNs; dsimp only; split
  · rfl
  · split <;> rfl
@[simp] theorem State.advanceNs_wv (s : State) (n : Nat) : (s.advanceNs n).wv = s.wv := by
  unfold State.advanceNs; dsimp only; split
  · rfl
  · split <;> rfl
@[simp] theorem State.advanceNs_mode (s : State) (n : Nat) : (s.advanceNs n).mode = s.mode := by
  unfold State.advanceNs; dsimp only; split
  · rfl
  · split <;> rfl
@[simp] theorem State.advanceNs_fc (s : State) (n : Nat) : (s.advanceNs n).fc = s.fc := by
  unfold State.advanceNs; dsimp only; split
  · rfl
  · split <;> rfl
@[simp] theorem State.advanceNs_rcd (s : State) (n : Nat) : (s.advanceNs n).rcd = s.rcd := by
  unfold State.advanceNs; dsimp only; split
  · rfl
  · split <;> rfl
@[simp] theorem State.advanceNs_chg (s : State) (n : Nat) : (s.advanceNs n).chg = s.chg := by
  unfold State.advanceNs; dsimp only; split
  · rfl
  · split <;> rfl
@[simp] theorem State.advanceNs_chgNext (s : State) (n : Nat) : (s.advanceNs n).chgNext = s.chgNext := by
  unfold State.advanceNs; dsimp only; split
  · rfl
  · split <;> rfl
@[simp] theorem State.advanceNs_svc (s : State) (n : Nat) : (s.advanceNs n).svc = s.svc := by
  unfold State.advanceNs; dsimp only; split
  · rfl
  · split <;> rfl
@[simp] theorem State.advanceNs_pwr (s : State) (n : Nat) : (s.advanceNs n).pwr = s.pwr := by
  unfold State.advanceNs; dsimp only; split
  · rfl
  · split <;> rfl
@[simp] theorem State.advanceNs_sp (s : State) (n : Nat) : (s.advanceNs n).sp = s.sp := by
  unfold State.advanceNs; dsimp only; split
  · rfl
  · split <;> rfl
@[simp] theorem State.advanceNs_sched (s : State) (n : Nat) : (s.advanceNs n).sched = s.sched := by
  unfold State.advanceNs; dsimp only; split
  · rfl
  · split <;> rfl
@[simp] theorem State.advanceNs_kevents (s : State) (n : Nat) : (s.advanceNs n).kevents = s.kevents := by
  unfold State.advanceNs; dsimp only; split
  · rfl
  · split <;> rfl
@[simp] theorem State.advanceNs_peers (s : State) (n : Nat) : (s.advanceNs n).peers = s.peers := by
  unfold State.advanceNs; dsimp only; split
  · rfl
  · split <;> rfl
@[simp] theorem State.advanceNs_bf (s : State) (n : Nat) : (s.advanceNs n).bf = s.bf := by
  unfold State.advanceNs; dsimp only; split
  · rfl
  · split <;> rfl
@[simp] theorem State.advanceNs_img (s : State) (n : Nat) : (s.advanceNs n).img = s.img := by
  unfold State.advanceNs; dsimp only; split
  · rfl
  · split <;> rfl
@[simp] theorem State.advanceNs_fwVersion (s : State) (n : Nat) : (s.advanceNs n).fwVersion = s.fwVersion := by
  unfold State.advanceNs; dsimp only; split
  · rfl
  · split <;> rfl
@[simp] theorem State.advanceNs_pair (s : State) (n : Nat) : (s.advanceNs n).pair = s.pair := by
  unfold State.advanceNs; dsimp only; split
  · rfl
  · split <;> rfl
@[simp] theorem State.advanceNs_ring (s : State) (n : Nat) : (s.advanceNs n).ring = s.ring := by
  unfold State.advanceNs; dsimp only; split
  · rfl
  · split <;> rfl
@[simp] theorem State.advanceNs_ringB (s : State) (n : Nat) : (s.advanceNs n).ringB = s.ringB := by
  unfold State.advanceNs; dsimp only; split
  · rfl
  · split <;> rfl
@[simp] theorem State.advanceNs_fwd (s : State) (n : Nat) : (s.advanceNs n).fwd = s.fwd := by
  unfold State.advanceNs; dsimp only; split
  · rfl
  · split <;> rfl
@[simp] theorem State.advanceNs_can (s : State) (n : Nat) : (s.advanceNs n).can = s.can := by
  unfold State.advanceNs; dsimp only; split
  · rfl
  · split <;> rfl
@[simp] theorem State.advanceNs_ctls (s : State) (n : Nat) : (s.advanceNs n).ctls = s.ctls := by
  unfold State.advanceNs; dsimp only; split
  · rfl
  · split <;> rfl
@[simp] theorem State.advanceNs_txSeq (s : State) (n : Nat) : (s.advanceNs n).txSeq = s.txSeq := by
  unfold State.advanceNs; dsimp only; split
  · rfl
  · split <;> rfl
@[simp] theorem State.advanceNs_sess (s : State) (n : Nat) : (s.advanceNs n).sess = s.sess := by
  unfold State.advanceNs; dsimp only; split
  · rfl
  · split <;> rfl
@[simp] theorem State.advanceNs_queues (s : State) (n : Nat) : (s.advanceNs n).queues = s.queues := by
  unfold State.advanceNs; dsimp only; split
  · rfl
  · split <;> rfl
@[simp] theorem State.advanceNs_cv (s : State) (n : Nat) : (s.advanceNs n).cv = s.cv := by
  unfold State.advanceNs; dsimp only; split
  · rfl
  · split <;> rfl
@[simp] theorem State.advanceNs_io (s : State) (n : Nat) : (s.advanceNs n).io = s.io := by
  unfold State.advanceNs; dsimp only; split
  · rfl
  · split <;> rfl
@[simp] theorem State.advanceNs_att (s : State) (n : Nat) : (s.advanceNs n).att = s.att := by
  unfold State.advanceNs; dsimp only; split
  · rfl
  · split <;> rfl
@[simp] theorem State.advanceNs_upd (s : State) (n : Nat) : (s.advanceNs n).upd = s.upd := by
  unfold State.advanceNs; dsimp only; split
  · rfl
  · split <;> rfl
@[simp] theorem State.advanceNs_settings (s : State) (n : Nat) : (s.advanceNs n).settings = s.settings := by
  unfold State.advanceNs; dsimp only; split
  · rfl
  · split <;> rfl

/-! ### advanceClockTo -/

@[simp] theorem State.advanceClockTo_pending (s : State) (n : Nat) : (s.advanceClockTo n).pending = s.pending := by
  unfold State.advanceClockTo; split
  · exact State.advanceNs_pending ..
  · rfl
@[simp] theorem State.advanceClockTo_out (s : State) (n : Nat) : (s.advanceClockTo n).out = s.out := by
  unfold State.advanceClockTo; split
  · exact State.advanceNs_out ..
  · rfl
@[simp] theorem State.advanceClockTo_regs (s : State) (n : Nat) : (s.advanceClockTo n).regs = s.regs := by
  unfold State.advanceClockTo; split
  · exact State.advanceNs_regs ..
  · rfl
@[simp] theorem State.advanceClockTo_wv (s : State) (n : Nat) : (s.advanceClockTo n).wv = s.wv := by
  unfold State.advanceClockTo; split
  · exact State.advanceNs_wv ..
  · rfl
@[simp] theorem State.advanceClockTo_mode (s : State) (n : Nat) : (s.advanceClockTo n).mode = s.mode := by
  unfold State.advanceClockTo; split
  · exact State.advanceNs_mode ..
  · rfl
@[simp] theorem State.advanceClockTo_fc (s : State) (n : Nat) : (s.advanceClockTo n).fc = s.fc := by
  unfold State.advanceClockTo; split
  · exact State.advanceNs_fc ..
  · rfl
@[simp] theorem State.advanceClockTo_rcd (s : State) (n : Nat) : (s.advanceClockTo n).rcd = s.rcd := by
  unfold State.advanceClockTo; split
  · exact State.advanceNs_rcd ..
  · rfl
@[simp] theorem State.advanceClockTo_chg (s : State) (n : Nat) : (s.advanceClockTo n).chg = s.chg := by
  unfold State.advanceClockTo; split
  · exact State.advanceNs_chg ..
  · rfl
@[simp] theorem State.advanceClockTo_chgNext (s : State) (n : Nat) : (s.advanceClockTo n).chgNext = s.chgNext := by
  unfold State.advanceClockTo; split
  · exact State.advanceNs_chgNext ..
  · rfl
@[simp] theorem State.advanceClockTo_svc (s : State) (n : Nat) : (s.advanceClockTo n).svc = s.svc := by
  unfold State.advanceClockTo; split
  · exact State.advanceNs_svc ..
  · rfl
@[simp] theorem State.advanceClockTo_pwr (s : State) (n : Nat) : (s.advanceClockTo n).pwr = s.pwr := by
  unfold State.advanceClockTo; split
  · exact State.advanceNs_pwr ..
  · rfl
@[simp] theorem State.advanceClockTo_sp (s : State) (n : Nat) : (s.advanceClockTo n).sp = s.sp := by
  unfold State.advanceClockTo; split
  · exact State.advanceNs_sp ..
  · rfl
@[simp] theorem State.advanceClockTo_sched (s : State) (n : Nat) : (s.advanceClockTo n).sched = s.sched := by
  unfold State.advanceClockTo; split
  · exact State.advanceNs_sched ..
  · rfl
@[simp] theorem State.advanceClockTo_kevents (s : State) (n : Nat) : (s.advanceClockTo n).kevents = s.kevents := by
  unfold State.advanceClockTo; split
  · exact State.advanceNs_kevents ..
  · rfl
@[simp] theorem State.advanceClockTo_peers (s : State) (n : Nat) : (s.advanceClockTo n).peers = s.peers := by
  unfold State.advanceClockTo; split
  · exact State.advanceNs_peers ..
  · rfl
@[simp] theorem State.advanceClockTo_bf (s : State) (n : Nat) : (s.advanceClockTo n).bf = s.bf := by
  unfold State.advanceClockTo; split
  · exact State.advanceNs_bf ..
  · rfl
@[simp] theorem State.advanceClockTo_img (s : State) (n : Nat) : (s.advanceClockTo n).img = s.img := by
  unfold State.advanceClockTo; split
  · exact State.advanceNs_img ..
  · rfl
@[simp] theorem State.advanceClockTo_fwVersion (s : State) (n : Nat) : (s.advanceClockTo n).fwVersion = s.fwVersion := by
  unfold State.advanceClockTo; split
  · exact State.advanceNs_fwVersion ..
  · rfl
@[simp] theorem State.advanceClockTo_pair (s : State) (n : Nat) : (s.advanceClockTo n).pair = s.pair := by
  unfold State.advanceClockTo; split
  · exact State.advanceNs_pair ..
  · rfl
@[simp] theorem State.advanceClockTo_ring (s : State) (n : Nat) : (s.advanceClockTo n).ring = s.ring := by
  unfold State.advanceClockTo; split
  · exact State.advanceNs_ring ..
  · rfl
@[simp] theorem State.advanceClockTo_ringB (s : State) (n : Nat) : (s.advanceClockTo n).ringB = s.ringB := by
  unfold State.advanceClockTo; split
  · exact State.advanceNs_ringB ..
  · rfl
@[simp] theorem State.advanceClockTo_fwd (s : State) (n : Nat) : (s.advanceClockTo n).fwd = s.fwd := by
  unfold State.advanceClockTo; split
  · exact State.advanceNs_fwd ..
  · rfl
@[simp] theorem State.advanceClockTo_can (s : State) (n : Nat) : (s.advanceClockTo n).can = s.can := by
  unfold State.advanceClockTo; split
  · exact State.advanceNs_can ..
  · rfl
@[simp] theorem State.advanceClockTo_ctls (s : State) (n : Nat) : (s.advanceClockTo n).ctls = s.ctls := by
  unfold State.advanceClockTo; split
  · exact State.advanceNs_ctls ..
  · rfl
@[simp] theorem State.advanceClockTo_txSeq (s : State) (n : Nat) : (s.advanceClockTo n).txSeq = s.txSeq := by
  unfold State.advanceClockTo; split
  · exact State.advanceNs_txSeq ..
  · rfl
@[simp] theorem State.advanceClockTo_sess (s : State) (n : Nat) : (s.advanceClockTo n).sess = s.sess := by
  unfold State.advanceClockTo; split
  · exact State.advanceNs_sess ..
  · rfl
@[simp] theorem State.advanceClockTo_queues (s : State) (n : Nat) : (s.advanceClockTo n).queues = s.queues := by
  unfold State.advanceClockTo; split
  · exact State.advanceNs_queues ..
  · rfl
@[simp] theorem State.advanceClockTo_cv (s : State) (n : Nat) : (s.advanceClockTo n).cv = s.cv := by
  unfold State.advanceClockTo; split
  · exact State.advanceNs_cv ..
  · rfl
@[simp] theorem State.advanceClockTo_io (s : State) (n : Nat) : (s.advanceClockTo n).io = s.io := by
  unfold State.advanceClockTo; split
  · exact State.advanceNs_io ..
  · rfl
@[simp] theorem State.advanceClockTo_att (s : State) (n : Nat) : (s.advanceClockTo n).att = s.att := by
  unfold State.advanceClockTo; split
  · exact State.advanceNs_att ..
  · rfl
@[simp] theorem State.advanceClockTo_upd (s : State) (n : Nat) : (s.advanceClockTo n).upd = s.upd := by
  unfold State.advanceClockTo; split
  · exact State.advanceNs_upd ..
  · rfl
@[simp] theorem State.advanceClockTo_settings (s : State) (n : Nat) : (s.advanceClockTo n).settings = s.settings := by
  unfold State.advanceClockTo; split
  · exact State.advanceNs_settings ..
  · rfl

/-! ### passTo -/

@[simp] theorem State.passTo_pending (s : State) (n : Nat) : (s.passTo n).pending = s.pending := by
  unfold State.passTo; exact State.advanceClockTo_pending ..
@[simp] theorem State.passTo_out (s : State) (n : Nat) : (s.passTo n).out = s.out := by
  unfold State.passTo; exact State.advanceClockTo_out ..
@[simp] theorem State.passTo_regs (s : State) (n : Nat) : (s.passTo n).regs = s.regs := by
  unfold State.passTo; exact State.advanceClockTo_regs ..
@[simp] theorem State.passTo_wv (s : State) (n : Nat) : (s.passTo n).wv = s.wv := by
  unfold State.passTo; exact State.advanceClockTo_wv ..
@[simp] theorem State.passTo_mode (s : State) (n : Nat) : (s.passTo n).mode = s.mode := by
  unfold State.passTo; exact State.advanceClockTo_mode ..
@[simp] theorem State.passTo_fc (s : State) (n : Nat) : (s.passTo n).fc = s.fc := by
  unfold State.passTo; exact State.advanceClockTo_fc ..
@[simp] theorem State.passTo_rcd (s : State) (n : Nat) : (s.passTo n).rcd = s.rcd := by
  unfold State.passTo; exact State.advanceClockTo_rcd ..
@[simp] theorem State.passTo_chg (s : State) (n : Nat) : (s.passTo n).chg = s.chg := by
  unfold State.passTo; exact State.advanceClockTo_chg ..
@[simp] theorem State.passTo_chgNext (s : State) (n : Nat) : (s.passTo n).chgNext = s.chgNext := by
  unfold State.passTo; exact State.advanceClockTo_chgNext ..
@[simp] theorem State.passTo_svc (s : State) (n : Nat) : (s.passTo n).svc = s.svc := by
  unfold State.passTo; exact State.advanceClockTo_svc ..
@[simp] theorem State.passTo_pwr (s : State) (n : Nat) : (s.passTo n).pwr = s.pwr := by
  unfold State.passTo; exact State.advanceClockTo_pwr ..
@[simp] theorem State.passTo_sp (s : State) (n : Nat) : (s.passTo n).sp = s.sp := by
  unfold State.passTo; exact State.advanceClockTo_sp ..
@[simp] theorem State.passTo_sched (s : State) (n : Nat) : (s.passTo n).sched = s.sched := by
  unfold State.passTo; exact State.advanceClockTo_sched ..
@[simp] theorem State.passTo_kevents (s : State) (n : Nat) : (s.passTo n).kevents = s.kevents := by
  unfold State.passTo; exact State.advanceClockTo_kevents ..
@[simp] theorem State.passTo_peers (s : State) (n : Nat) : (s.passTo n).peers = s.peers := by
  unfold State.passTo; exact State.advanceClockTo_peers ..
@[simp] theorem State.passTo_bf (s : State) (n : Nat) : (s.passTo n).bf = s.bf := by
  unfold State.passTo; exact State.advanceClockTo_bf ..
@[simp] theorem State.passTo_img (s : State) (n : Nat) : (s.passTo n).img = s.img := by
  unfold State.passTo; exact State.advanceClockTo_img ..
@[simp] theorem State.passTo_fwVersion (s : State) (n : Nat) : (s.passTo n).fwVersion = s.fwVersion := by
  unfold State.passTo; exact State.advanceClockTo_fwVersion ..
@[simp] theorem State.passTo_pair (s : State) (n : Nat) : (s.passTo n).pair = s.pair := by
  unfold State.passTo; exact State.advanceClockTo_pair ..
@[simp] theorem State.passTo_ring (s : State) (n : Nat) : (s.passTo n).ring = s.ring := by
  unfold State.passTo; exact State.advanceClockTo_ring ..
@[simp] theorem State.passTo_ringB (s : State) (n : Nat) : (s.passTo n).ringB = s.ringB := by
  unfold State.passTo; exact State.advanceClockTo_ringB ..
@[simp] theorem State.passTo_fwd (s : State) (n : Nat) : (s.passTo n).fwd = s.fwd := by
  unfold State.passTo; exact State.advanceClockTo_fwd ..
@[simp] theorem State.passTo_can (s : State) (n : Nat) : (s.passTo n).can = s.can := by
  unfold State.passTo; exact State.advanceClockTo_can ..
@[simp] theorem State.passTo_ctls (s : State) (n : Nat) : (s.passTo n).ctls = s.ctls := by
  unfold State.passTo; exact State.advanceClockTo_ctls ..
@[simp] theorem State.passTo_txSeq (s : State) (n : Nat) : (s.passTo n).txSeq = s.txSeq := by
  unfold State.passTo; exact State.advanceClockTo_txSeq ..
@[simp] theorem State.passTo_sess (s : State) (n : Nat) : (s.passTo n).sess = s.sess := by
  unfold State.passTo; exact State.advanceClockTo_sess ..
@[simp] theorem State.passTo_queues (s : State) (n : Nat) : (s.passTo n).queues = s.queues := by
  unfold State.passTo; exact State.advanceClockTo_queues ..
@[simp] theorem State.passTo_cv (s : State) (n : Nat) : (s.passTo n).cv = s.cv := by
  unfold State.passTo; exact State.advanceClockTo_cv ..
@[simp] theorem State.passTo_io (s : State) (n : Nat) : (s.passTo n).io = s.io := by
  unfold State.passTo; exact State.advanceClockTo_io ..
@[simp] theorem State.passTo_att (s : State) (n : Nat) : (s.passTo n).att = s.att := by
  unfold State.passTo; exact State.advanceClockTo_att ..
@[simp] theorem State.passTo_upd (s : State) (n : Nat) : (s.passTo n).upd = s.upd := by
  unfold State.passTo; exact State.advanceClockTo_upd ..
@[simp] theorem State.passTo_settings (s : State) (n : Nat) : (s.passTo n).settings = s.settings := by
  unfold State.passTo; exact State.advanceClockTo_settings ..

/-! ### advanceTo -/

@[simp] theorem State.advanceTo_pending (s : State) (n : Nat) : (s.advanceTo n).pending = s.pending := by
  unfold State.advanceTo; exact State.advanceClockTo_pending ..
@[simp] theorem State.advanceTo_out (s : State) (n : Nat) : (s.advanceTo n).out = s.out := by
  unfold State.advanceTo; exact State.advanceClockTo_out ..
@[simp] theorem State.advanceTo_regs (s : State) (n : Nat) : (s.advanceTo n).regs = s.regs := by
  unfold State.advanceTo; exact State.advanceClockTo_regs ..
@[simp] theorem State.advanceTo_wv (s : State) (n : Nat) : (s.advanceTo n).wv = s.wv := by
  unfold State.advanceTo; exact State.advanceClockTo_wv ..
@[simp] theorem State.advanceTo_mode (s : State) (n : Nat) : (s.advanceTo n).mode = s.mode := by
  unfold State.advanceTo; exact State.advanceClockTo_mode ..
@[simp] theorem State.advanceTo_fc (s : State) (n : Nat) : (s.advanceTo n).fc = s.fc := by
  unfold State.advanceTo; exact State.advanceClockTo_fc ..
@[simp] theorem State.advanceTo_rcd (s : State) (n : Nat) : (s.advanceTo n).rcd = s.rcd := by
  unfold State.advanceTo; exact State.advanceClockTo_rcd ..
@[simp] theorem State.advanceTo_chg (s : State) (n : Nat) : (s.advanceTo n).chg = s.chg := by
  unfold State.advanceTo; exact State.advanceClockTo_chg ..
@[simp] theorem State.advanceTo_chgNext (s : State) (n : Nat) : (s.advanceTo n).chgNext = s.chgNext := by
  unfold State.advanceTo; exact State.advanceClockTo_chgNext ..
@[simp] theorem State.advanceTo_svc (s : State) (n : Nat) : (s.advanceTo n).svc = s.svc := by
  unfold State.advanceTo; exact State.advanceClockTo_svc ..
@[simp] theorem State.advanceTo_pwr (s : State) (n : Nat) : (s.advanceTo n).pwr = s.pwr := by
  unfold State.advanceTo; exact State.advanceClockTo_pwr ..
@[simp] theorem State.advanceTo_sp (s : State) (n : Nat) : (s.advanceTo n).sp = s.sp := by
  unfold State.advanceTo; exact State.advanceClockTo_sp ..
@[simp] theorem State.advanceTo_sched (s : State) (n : Nat) : (s.advanceTo n).sched = s.sched := by
  unfold State.advanceTo; exact State.advanceClockTo_sched ..
@[simp] theorem State.advanceTo_kevents (s : State) (n : Nat) : (s.advanceTo n).kevents = s.kevents := by
  unfold State.advanceTo; exact State.advanceClockTo_kevents ..
@[simp] theorem State.advanceTo_peers (s : State) (n : Nat) : (s.advanceTo n).peers = s.peers := by
  unfold State.advanceTo; exact State.advanceClockTo_peers ..
@[simp] theorem State.advanceTo_bf (s : State) (n : Nat) : (s.advanceTo n).bf = s.bf := by
  unfold State.advanceTo; exact State.advanceClockTo_bf ..
@[simp] theorem State.advanceTo_img (s : State) (n : Nat) : (s.advanceTo n).img = s.img := by
  unfold State.advanceTo; exact State.advanceClockTo_img ..
@[simp] theorem State.advanceTo_fwVersion (s : State) (n : Nat) : (s.advanceTo n).fwVersion = s.fwVersion := by
  unfold State.advanceTo; exact State.advanceClockTo_fwVersion ..
@[simp] theorem State.advanceTo_pair (s : State) (n : Nat) : (s.advanceTo n).pair = s.pair := by
  unfold State.advanceTo; exact State.advanceClockTo_pair ..
@[simp] theorem State.advanceTo_ring (s : State) (n : Nat) : (s.advanceTo n).ring = s.ring := by
  unfold State.advanceTo; exact State.advanceClockTo_ring ..
@[simp] theorem State.advanceTo_ringB (s : State) (n : Nat) : (s.advanceTo n).ringB = s.ringB := by
  unfold State.advanceTo; exact State.advanceClockTo_ringB ..
@[simp] theorem State.advanceTo_fwd (s : State) (n : Nat) : (s.advanceTo n).fwd = s.fwd := by
  unfold State.advanceTo; exact State.advanceClockTo_fwd ..
@[simp] theorem State.advanceTo_can (s : State) (n : Nat) : (s.advanceTo n).can = s.can := by
  unfold State.advanceTo; exact State.advanceClockTo_can ..
@[simp] theorem State.advanceTo_ctls (s : State) (n : Nat) : (s.advanceTo n).ctls = s.ctls := by
  unfold State.advanceTo; exact State.advanceClockTo_ctls ..
@[simp] theorem State.advanceTo_txSeq (s : State) (n : Nat) : (s.advanceTo n).txSeq = s.txSeq := by
  unfold State.advanceTo; exact State.advanceClockTo_txSeq ..
@[simp] theorem State.advanceTo_sess (s : State) (n : Nat) : (s.advanceTo n).sess = s.sess := by
  unfold State.advanceTo; exact State.advanceClockTo_sess ..
@[simp] theorem State.advanceTo_queues (s : State) (n : Nat) : (s.advanceTo n).queues = s.queues := by
  unfold State.advanceTo; exact State.advanceClockTo_queues ..
@[simp] theorem State.advanceTo_cv (s : State) (n : Nat) : (s.advanceTo n).cv = s.cv := by
  unfold State.advanceTo; exact State.advanceClockTo_cv ..
@[simp] theorem State.advanceTo_io (s : State) (n : Nat) : (s.advanceTo n).io = s.io := by
  unfold State.advanceTo; exact State.advanceClockTo_io ..
@[simp] theorem State.advanceTo_att (s : State) (n : Nat) : (s.advanceTo n).att = s.att := by
  unfold State.advanceTo; exact State.advanceClockTo_att ..
@[simp] theorem State.advanceTo_upd (s : State) (n : Nat) : (s.advanceTo n).upd = s.upd := by
  unfold State.advanceTo; exact State.advanceClockTo_upd ..
@[simp] theorem State.advanceTo_settings (s : State) (n : Nat) : (s.advanceTo n).settings = s.settings := by
  unfold State.advanceTo; exact State.advanceClockTo_settings ..

/-! ### settle -/

@[simp] theorem settle_pending (s : State) : (settle s).pending = s.pending := rfl
@[simp] theorem settle_out (s : State) : (settle s).out = s.out := rfl
@[simp] theorem settle_free (s : State) : (settle s).free = s.free := rfl
@[simp] theorem settle_regs (s : State) : (settle s).regs = s.regs := rfl
@[simp] theorem settle_time (s : State) : (settle s).time = s.time := rfl
@[simp] theorem settle_wv (s : State) : (settle s).wv = s.wv := rfl
@[simp] theorem settle_mode (s : State) : (settle s).mode = s.mode := rfl
@[simp] theorem settle_fc (s : State) : (settle s).fc = s.fc := rfl
@[simp] theorem settle_rcd (s : State) : (settle s).rcd = s.rcd := rfl
@[simp] theorem settle_chg (s : State) : (settle s).chg = s.chg := rfl
@[simp] theorem settle_chgNext (s : State) : (settle s).chgNext = s.chgNext := rfl
@[simp] theorem settle_svc (s : State) : (settle s).svc = s.svc := rfl
@[simp] theorem settle_pwr (s : State) : (settle s).pwr = s.pwr := rfl
@[simp] theorem settle_sp (s : State) : (settle s).sp = s.sp := rfl
@[simp] theorem settle_sched (s : State) : (settle s).sched = s.sched := rfl
@[simp] theorem settle_kevents (s : State) : (settle s).kevents = s.kevents := rfl
@[simp] theorem settle_peers (s : State) : (settle s).peers = s.peers := rfl
@[simp] theorem settle_img (s : State) : (settle s).img = s.img := rfl
@[simp] theorem settle_fwVersion (s : State) : (settle s).fwVersion = s.fwVersion := rfl
@[simp] theorem settle_pair (s : State) : (settle s).pair = s.pair := rfl
@[simp] theorem settle_ring (s : State) : (settle s).ring = s.ring := rfl
@[simp] theorem settle_ringB (s : State) : (settle s).ringB = s.ringB := rfl
@[simp] theorem settle_fwd (s : State) : (settle s).fwd = s.fwd := rfl
@[simp] theorem settle_can (s : State) : (settle s).can = s.can := rfl
@[simp] theorem settle_ctls (s : State) : (settle s).ctls = s.ctls := rfl
@[simp] theorem settle_txSeq (s : State) : (settle s).txSeq = s.txSeq := rfl
@[simp] theorem settle_sess (s : State) : (settle s).sess = s.sess := rfl
@[simp] theorem settle_queues (s : State) : (settle s).queues = s.queues := rfl
@[simp] theorem settle_cv (s : State) : (settle s).cv = s.cv := rfl
@[simp] theorem settle_att (s : State) : (settle s).att = s.att := rfl
@[simp] theorem settle_upd (s : State) : (settle s).upd = s.upd := rfl
@[simp] theorem settle_settings (s : State) : (settle s).settings = s.settings := rfl
@[simp] theorem settle_bf_spst (s : State) : (settle s).bf.spst = s.bf.spst := rfl
@[simp] theorem settle_bf_uncounted (s : State) : (settle s).bf.uncounted = s.bf.uncounted := rfl
@[simp] theorem settle_bf_freed (s : State) : (settle s).bf.freed = s.bf.freed := rfl
@[simp] theorem settle_bf_sliceIso (s : State) : (settle s).bf.sliceIso = s.bf.sliceIso := rfl
@[simp] theorem settle_bf_streams (s : State) : (settle s).bf.streams = s.bf.streams := rfl
@[simp] theorem settle_bf_pos (s : State) : (settle s).bf.pos = s.bf.pos := rfl
@[simp] theorem settle_bf_barrierReady (s : State) : (settle s).bf.barrierReady = s.bf.barrierReady := rfl
@[simp] theorem settle_bf_stopped (s : State) : (settle s).bf.stopped = s.bf.stopped := rfl
@[simp] theorem settle_bf_openL4 (s : State) : (settle s).bf.openL4 = s.bf.openL4 := rfl
@[simp] theorem settle_bf_entering (s : State) : (settle s).bf.entering = s.bf.entering := rfl
@[simp] theorem settle_bf_joinHold (s : State) : (settle s).bf.joinHold = s.bf.joinHold := rfl
@[simp] theorem settle_bf_joinSince (s : State) : (settle s).bf.joinSince = s.bf.joinSince := rfl
@[simp] theorem settle_bf_copySeq (s : State) : (settle s).bf.copySeq = s.bf.copySeq := rfl
@[simp] theorem settle_bf_retries (s : State) : (settle s).bf.retries = s.bf.retries := rfl
@[simp] theorem settle_bf_injectFailed (s : State) : (settle s).bf.injectFailed = s.bf.injectFailed := rfl
@[simp] theorem settle_io_inputs (s : State) : (settle s).io.inputs = s.io.inputs := rfl
@[simp] theorem settle_io_pairs (s : State) : (settle s).io.pairs = s.io.pairs := rfl
@[simp] theorem settle_io_outs (s : State) : (settle s).io.outs = s.io.outs := rfl
@[simp] theorem settle_io_fs (s : State) : (settle s).io.fs = s.io.fs := rfl
@[simp] theorem settle_io_below168 (s : State) : (settle s).io.below168 = s.io.below168 := rfl
@[simp] theorem settle_io_below2 (s : State) : (settle s).io.below2 = s.io.below2 := rfl
@[simp] theorem settle_io_fsMin (s : State) : (settle s).io.fsMin = s.io.fsMin := rfl
@[simp] theorem settle_io_present (s : State) : (settle s).io.present = s.io.present := rfl
@[simp] theorem settle_io_silence (s : State) : (settle s).io.silence = s.io.silence := rfl
@[simp] theorem settle_io_hold (s : State) : (settle s).io.hold = s.io.hold := rfl
@[simp] theorem settle_io_edge (s : State) : (settle s).io.edge = s.io.edge := rfl
@[simp] theorem settle_io_riseNs (s : State) : (settle s).io.riseNs = s.io.riseNs := rfl
@[simp] theorem settle_io_armedNs (s : State) : (settle s).io.armedNs = s.io.armedNs := rfl
@[simp] theorem settle_io_restart (s : State) : (settle s).io.restart = s.io.restart := rfl
@[simp] theorem settle_io_restartCnt (s : State) : (settle s).io.restartCnt = s.io.restartCnt := rfl

/-- Outside the modes that control track the voted words are zero (spec/10 R231). -/
theorem settle_off_track (s : State) (h : s.mode.cur.track = false) : (settle s).bf.vote = 0 ∧ (settle s).io.word = 0 := by
  simp [settle, h]

/-! ### Registers -/

theorem Reg.word_setWord (s : State) (k k' : Nat) (v : Word) : (s.setWord k v).word k' = if k' = k then v else s.word k' :=
  Sparse.get_set regReset s.regs k k' v

/-- A write of a register: the member written reads as the low 32 bits of the value, every other as before. -/
theorem State.rd_wr (s : State) (r r' : Reg) (v i j i' j' : Nat) :
    (s.wr r v i j).rd r' i' j' = if r'.key i' j' = r.key i j then v % 2 ^ 32 else s.rd r' i' j' := by
  unfold State.rd State.wr
  rw [Reg.word_setWord]
  split <;> simp

/-- A write of a register leaves every field of another register. -/
theorem State.fld_wr_other (s : State) (r : Reg) (f : Field) (v i j i' j' : Nat) (h : f.reg.key i' j' ≠ r.key i j) :
    (s.wr r v i j).fld f i' j' = s.fld f i' j' := by
  unfold State.fld State.wr
  rw [Reg.word_setWord, if_neg h]

theorem State.fld_setFld_other (s : State) (f f' : Field) (v i j i' j' : Nat) (h : f'.reg.key i' j' ≠ f.reg.key i j) :
    (s.setFld f v i j).fld f' i' j' = s.fld f' i' j' := by
  unfold State.fld State.setFld
  rw [Reg.word_setWord, if_neg h]

/-- Writing a register keeps the register file canonical. -/
theorem State.setWord_wf (s : State) (k : Nat) (v : Word) (h : Sparse.wf regReset s.regs) : Sparse.wf regReset (s.setWord k v).regs :=
  Sparse.set_wf k v h

/-! ### Lists of changes -/

/-- What every step of `each` keeps, `each` keeps. -/
theorem State.each_keep {β γ : Type} (g : State → γ) (f : State → β → State) (h : ∀ s b, g (f s b) = g s) (s : State) (l : List β) :
    g (s.each l f) = g s := by
  unfold State.each
  induction l generalizing s with
  | nil => rfl
  | cons b t ih => rw [List.foldl_cons, ih, h]

/-- A property that every step of `each` keeps holds after it. -/
theorem State.each_inv {β : Type} (p : State → Prop) (f : State → β → State) (h : ∀ s b, p s → p (f s b)) (s : State) (l : List β)
    (hs : p s) : p (s.each l f) := by
  unfold State.each
  induction l generalizing s with
  | nil => exact hs
  | cons b t ih => exact ih _ (h s b hs)

/-! ### The service protocol -/

/-- A request that fails its checks is discarded (spec/21 R454). -/
theorem State.service_discard (s : State) (c : Svc) (f : SvcSess → State → State) (h : s.svcFind c = none) : s.service c f = s := by
  simp [State.service, h]

/-- A request that passes them acts on the state in which it is noted. -/
theorem State.service_acts (s : State) (c : Svc) (x : SvcSess) (f : SvcSess → State → State) (h : s.svcFind c = some x) :
    s.service c f = f x (s.svcTouch c) := by
  simp [State.service, h]

/-- What an authorised command does: refused, or written to the change log, answered and carried out (spec/18 R401). -/
theorem State.authorised_cases (s : State) (c : Svc) (x : SvcSess) (code o1 o2 : Nat) (roles : List Role) (ok : State → Bool)
    (f : SvcSess → State → State) (h : s.svcFind c = some x) :
    s.authorised c code o1 o2 roles ok f = (s.svcTouch c).refuse x (svcCode code) ∨
    (roles.contains x.role ∧ ok (s.svcTouch c) ∧ ∃ t, (s.svcTouch c).chgWrite true x.role.code x.port 2 0 (svcCode code) 0 o1 o2 = some t ∧
      s.authorised c code o1 o2 roles ok f = f x (t.answer x)) := by
  unfold State.authorised
  rw [State.service_acts s c x _ h]
  by_cases hc : roles.contains x.role && ok (s.svcTouch c)
  · rw [if_pos hc]
    have hc' : roles.contains x.role ∧ ok (s.svcTouch c) := by simpa using hc
    cases hw : (s.svcTouch c).chgWrite true x.role.code x.port 2 0 (svcCode code) 0 o1 o2 with
    | none => exact .inl rfl
    | some t => exact .inr ⟨hc'.1, hc'.2, t, rfl, rfl⟩
  · rw [if_neg hc]; exact .inl rfl

/-- An entry is written unless the supply warning stands (spec/18 R401). -/
theorem State.chgWrite_warn (s : State) (ok : Bool) (role port kind spires target old new o2 : Nat) (h : s.pwr.warn = true) :
    s.chgWrite ok role port kind spires target old new o2 = none := by
  simp [State.chgWrite, h]

/-! ### What a meaning can answer -/

/-- A meaning that acts answers a settled state. -/
theorem act_next (s : State) (f : State → State) : ∃ u, act s f = .next (settle u) := ⟨_, rfl⟩

end Sys2Proof.Machine
end

