-- ==== Sys2Proof/WellFormed.lean ====
section
/-! DEFINITION. Well-formed commands: every operand lies in the range that the field, index or count of the spec that
it stands for has. A meaning is total on all commands; an ill-formed one is one that no wire, pin or register can
carry. -/

namespace Sys2Proof

open Machine

namespace Wf

/-- Below 2^n: a field of n bits. -/
def fits (n v : Nat) : Bool := Nat.blt v (2 ^ n)

/-- Below n. -/
def below (n v : Nat) : Bool := Nat.blt v n

/-- Both of two things, all of three. -/
def three (p : α → Bool) (t : Three α) : Bool := p t.a && p t.b && p t.c

/-- An optional thing, where it is there. -/
def opt (p : α → Bool) : Option α → Bool
  | none => true
  | some a => p a

/-- A service request (spec/21 R454): SID and SEQ of 32 bits. -/
def svc (c : Svc) : Bool := fits 32 c.sid && fits 32 c.seq

/-- A writer of force bits (spec/17 R387). -/
def writer : FcWriter → Bool
  | .service c => svc c
  | .firmware => true

/-- Values for a per-spire register (spec/00 R7, R12). -/
def vals (v : SpireVals) : Bool := three (opt (fits 32)) v

/-- One register write (spec/00 R7, R12). -/
def regWr (w : RegWr) : Bool := fits 32 w.addr && below 3 w.sel && fits 32 w.value

/-- One register read (spec/00 R12). -/
def regRd (e : Nat × Nat) : Bool := fits 32 e.1 && below 3 e.2

/-- The hardware's answers to a transaction: a failure names a slice, a group and a pattern (spec/10 R232). -/
def wrEnv (e : WrEnv) : Bool := opt (fun f => below 3 f.1 && below 16 f.2.1 && below 512 f.2.2) e.inject

/-- A reference edge (spec/02 R39): references 0 to 4. -/
def refEdge (e : RefEdge) : Bool := below 5 e.ref

/-- A raise (spec/17 R380, R390): sources 0 to 127. -/
def raiseOp (r : RaiseOp) : Bool := below 128 r.source && fits 8 r.unit && fits 8 r.kind

/-- A power-on reset (spec/22 R461): nine strap contacts. -/
def porOp (p : PorOp) : Bool := fits 9 p.strap && p.silent.all (below 3) && p.torn.all (below 3)

/-- Rows of banks (spec/09 R180): banks 0 to 23, rows 0 to 511. -/
def bankRows (l : List (Nat × Nat)) : Bool := l.all (fun e => below 24 e.1 && below 512 e.2)

/-- A measured start (spec/20 R425): tallies 1 to 8. -/
def spireStart (m : SpireStart) : Bool := m.digests.all (fits 256)

/-- An instruction of a logic engine (spec/04 R83, Instruction format): fields of 2, 3 and 21 bits. -/
def engOp (o : EngOp) : Bool :=
  below 3 o.spire && fits 2 o.md && fits 3 o.sp && fits 21 o.idx && opt (fun e => below 24 e.bank) o.ecc

/-- A triple judged (spec/10 R217): spires and slices 0 to 2. -/
def compareOp (o : CompareOp) : Bool := o.ecc.all (fun e => below 3 e.1) && o.faulty.all (fun e => below 3 e.1)

/-- A write to a compared address (spec/10 R214): 1, 2 or 4 bytes at a multiple of the width. -/
def cmpWrite (w : CmpWrite) : Bool :=
  (w.width == 1 || w.width == 2 || w.width == 4) && fits 32 w.addr && w.addr % w.width == 0 && fits (8 * w.width) w.data

/-- What departs from the rules at an output angle (spec/10 R211, R218, R231). -/
def voteOp (v : VoteOp) : Bool :=
  v.missing.all (below 3) && v.faulty.all (fun e => below 3 e.1) && v.diverge.all (fun e => below 3 e.1 && fits 16 e.2)
    && opt compareOp v.mate

/-- A signature window (spec/10 R214). -/
def window (w : WindowOp) : Bool :=
  three (opt (fun l => l.all cmpWrite)) w.writes && w.faulty.all (fun e => below 3 e.1) && opt compareOp w.mate

/-- A page (spec/09). -/
def page : PageId → Bool
  | .group g => fits 14 g
  | .q p => fits 16 p
  | .g p => fits 16 p
  | .h p => fits 16 p
  | .input t p => below 24 t && fits 16 p

/-- A tri-signature: three values of 32 bits. -/
def cv (t : Three Nat) : Bool := three (fits 32) t

/-- A boundary record (spec/07 R157). -/
def brec (r : BRec) : Bool :=
  fits 8 r.kind && fits 4 r.st && fits 16 r.tseq && fits 16 r.src && fits 16 r.dst && fits 32 r.element && fits 16 r.home
    && fits 16 r.epoch && fits 16 r.aux && fits 32 r.rseq && fits 64 r.stamp && cv r.cv

/-- A spire's self-test (spec/10 R223). -/
def spireTest (t : SpireTest) : Bool :=
  below 3 t.spire && bankRows t.rows && below 5 t.passed && fits 32 t.reloadMs && spireStart t.start

/-- A march step (spec/09 R201): banks 0 to 23, blocks 0 to 63. -/
def march (m : MarchOp) : Bool :=
  below 24 m.bank && below 64 m.block && three (fits 32) m.coll && three (opt (below 512)) m.faulty

/-- What a pager-port access meets (spec/09 R195). -/
def portOp (p : PortOp) : Bool := fits 32 p.coll

/-- What the seal copy meets in a bank (spec/09 R192). -/
def bankMeet (m : BankMeet) : Bool := below 3 m.spire && below 24 m.bank && portOp m.port

/-- SETTLE and FENCE (spec/07 R167, R169). -/
def settleOp (o : SettleOp) : Bool := fits 16 o.number && opt (fits 32) o.element && fits 16 o.peer

/-- A chunk (spec/11 R239). -/
def chunk (k : Chunk) : Bool :=
  fits 8 k.kind && fits 16 k.src && fits 32 k.snapSeq && fits 16 k.chunk && fits 16 k.chunks && cv k.cv

/-- A round (spec/12 R262): four ports, round index of 9 bits. -/
def round (r : RoundOp) : Bool :=
  fits 9 r.round && r.links.length == 4 && r.frames.length == 4 && r.smRanks.all (fun e => fits 16 e.1 && below 4 e.2)

/-- A ring frame's header (spec/12 R273): ports P0 to P3. -/
def ringHdr (h : RingHdr) : Bool :=
  below 4 h.port && fits 8 h.type && fits 8 h.flags && fits 16 h.src && fits 8 h.slot && fits 8 h.sched && fits 16 h.round
    && fits 32 h.countL && fits 16 h.pos

/-- A pair status (spec/11 R237). -/
def pairStatus (p : PairStatus) : Bool := fits 4 p.mode && fits 3 p.compared && fits 16 p.nak && fits 32 p.seq

/-- A vital part (spec/12 R275). -/
def vital (v : VitalPart) : Bool :=
  pairStatus v.pair && fits 3 v.voteSched && fits 8 v.voteReq && v.exports.all (fits 32) && v.recs.all brec && cv v.cv

/-- A reference block (spec/12 R274). -/
def refBlock (b : RefBlock) : Bool :=
  fits 2 b.rank && fits 3 b.wvState && fits 3 b.reqSched && fits 8 b.reqNo && fits 16 b.countH && fits 32 b.tbNs && fits 32 b.loopNs
    && fits 48 b.jumpCount && fits 16 b.smAddr

/-- A dynamic position (spec/12 R282). -/
def miniEv : MiniEv → Bool
  | .idle => true
  | .frame port src pos _ => below 4 port && fits 16 src && fits 11 pos

/-- How a dynamic frame came. -/
def via (v : RingVia) : Bool := fits 16 v.dst && v.gws.all (fits 16)

/-- A dynamic position 1 to 2,047 (spec/12 R262). -/
def dynOp (d : DynOp) : Bool := fits 11 d.pos && d.seen.all miniEv

/-- A cold-start frame (spec/13 R293). -/
def csFrame (f : CsFrame) : Bool := ringHdr f.hdr && fits 2 f.rank && fits 8 f.attempt && fits 16 f.countH && fits 32 f.tbNs

/-- An integration frame (spec/13 R298). -/
def integFrame (f : IntegFrame) : Bool :=
  ringHdr f.hdr && fits 32 f.hwid && fits 32 f.version && fits 64 f.idHash && fits 48 f.mark && fits 64 f.serial && cv f.cv

/-- An admission message (spec/13 R300). -/
def admMsg (m : AdmMsg) : Bool :=
  fits 16 m.src && fits 8 m.msg && fits 8 m.cause && fits 16 m.subject && fits 32 m.version && fits 64 m.idHash && fits 64 m.stamp && m.gws.all (fits 16) && cv m.cv

/-- A guardian event (spec/13 R304 to R306). -/
def guardEv (g : GuardEv) : Bool := below 4 g.port && fits 8 g.slot && below 5 g.kind

/-- An SFP (spec/12 R258). -/
def sfp (o : SfpOp) : Bool := below 4 o.port && below 4 o.optic

/-- A CAN frame (spec/14 R316): channels 0 to 39, at most 64 bytes. -/
def canRx (f : CanRx) : Bool := below 40 f.ch && fits 32 f.id && Nat.ble f.data.length 64 && fits 32 f.sof

/-- A session frame (spec/15 R335). -/
def sframe (f : SFrame) : Bool :=
  fits 8 f.ver && fits 8 f.type && fits 16 f.flags && fits 32 f.src && fits 32 f.dst && fits 32 f.seq && fits 32 f.echoSeq && fits 64 f.ts
    && fits 64 f.tsEcho && fits 64 f.conn && fits 16 f.rsvd && cv f.cv && fits 128 f.mac

/-- A session number: 1 to 63 (spec/15 R337). -/
def sessNo (n : Nat) : Bool := Nat.ble 1 n && below 64 n

/-- A ring queue message (spec/15 R345). -/
def qmsg (m : QMsg) : Bool :=
  fits 16 m.src && fits 16 m.dst && fits 8 m.queue && fits 8 m.rsvd && fits 32 m.seq && fits 64 m.stamp && cv m.cv

/-- A sample window (spec/16 R354): eight reads of each of 32 inputs, and of RESTART_IN. -/
def reads (w : WindowReads) : Bool := w.inputs.length == 32 && w.inputs.all (fun l => l.length == 8) && w.restart.length == 8

/-- A readback (spec/16 R363): outputs 0 to 15. -/
def readback (r : Readback) : Bool := below 16 r.out

/-- A readback of a test pulse. -/
def pulseRead (r : PulseRead) : Bool := readback r.own && r.others.all (fun e => readback e.1)

/-- An overload (spec/16 R367). -/
def overload : OverloadOp → Bool
  | .output n _ _ _ => below 16 n
  | .group g _ _ => below 4 g

/-- A quote request (spec/20 R432): a nonce of 16 bytes. -/
def quoteReq (q : QuoteReq) : Bool :=
  fits 128 q.nonce && (match q.path with | .service p => below 16 p | .session n f => sessNo n && sframe f | .ring a v => fits 16 a && via v)

/-- A quote (spec/20 R429). -/
def quoteMsg (m : QuoteMsg) : Bool :=
  via m.via && fits 16 m.src && fits 8 m.signed && fits 8 m.mode && fits 8 m.qflags && fits 128 m.nonce && fits 64 m.serial && fits 32 m.hwid
    && fits 64 m.idHash && fits 32 m.version && fits 64 m.stamp && fits 16 m.addr && fits 16 m.pair && three (fun l => l.length == 8) m.tallies
    && three (fits 512) m.sigs

/-- A manifest (spec/21 R438). -/
def manifest (m : Manifest) : Bool :=
  fits 32 m.magic && fits 16 m.format && fits 32 m.hwType && fits 32 m.pkgVersion && fits 16 m.secVer && fits 8 m.parts.length
    && m.parts.all (fun p => fits 8 p.type && fits 32 p.length && fits 256 p.hash)

/-- A block (spec/21 R442). -/
def updBlock (b : UpdBlock) : Bool := fits 8 b.part && fits 32 b.offset && Nat.ble b.data.length 4096 && fits 32 b.crc

/-- A delta header (spec/21 R448). -/
def olHeader (h : OlHeader) : Bool :=
  fits 64 h.idHash && fits 32 h.version && fits 64 h.baseIdHash && fits 32 h.baseVersion && fits 32 h.flags && fits 32 h.totalLen

/-- An image document (spec/03 R53 to R55): the header's fields. -/
def imageDoc (d : ImageDoc) : Bool :=
  fits 32 d.magic && fits 16 d.format && fits 16 d.headerLen && fits 64 d.idHash && fits 32 d.version && fits 32 d.hwType
    && fits 32 d.totalLen && fits 32 d.headerCrc && d.sections.all (fun x => fits 16 x.type && fits 32 x.length && fits 32 x.check)

/-- An image identity (spec/03 R53). -/
def imageId (i : ImageId) : Bool := fits 64 i.hash && fits 32 i.version

/-- The address of a port with `n` bits (spec/21 R455): its prefix is at most n bits. -/
def portAddr (n : Nat) (a : PortAddr) : Bool := fits n a.addr && Nat.ble a.plen n && fits n a.gateway

/-- A change of the settings (spec/21 R447): fields that software could spell; whether the slot or port exists is check 0x09. -/
def settingChange : SettingChange → Bool
  | .imageKey slot st _ => fits 8 slot && fits 2 st
  | .manifestAdd a i => fits 16 a && imageId i
  | .manifestSet a i j => fits 16 a && imageId i && imageId j
  | .manifestDrop a i => fits 16 a && imageId i
  | .verifier _ v => fits 256 v
  | .ip4 p a => fits 8 p && opt (portAddr 32) a
  | .ip6 p a => fits 8 p && opt (portAddr 128) a
  | .caKey _ => true
  | .other _ _ => true

/-- What a verification finds (spec/21 R439). -/
def verifyOp (v : VerifyOp) : Bool :=
  three (fun l => l.all (fits 256)) v.hashes && three (fits 16) v.counters && opt (fun d => d.changes.all settingChange) v.desc && imageDoc v.image

/-- An echo request (spec/21 R455). -/
def echo (e : EchoOp) : Bool :=
  below 16 e.port && below 4 e.kind && (match e.dst with | .ipv4 a => fits 32 a | .ipv6 a => fits 128 a)

end Wf

/-- Every operand of the command is in range. -/
def Instr.wf : Instr → Bool
  | .baseCycleBoundary _ => true
  | .atMarkWrite _ => true
  | .atLoRead c => Wf.svc c
  | .civilLoRead c => Wf.svc c
  | .refEdge e => Wf.refEdge e
  | .refTimeout ref => Wf.below 5 ref
  | .wvHoldoverLong => true
  | .ptpSync _ => true
  | .timeSet c ns => Wf.svc c && Wf.fits 64 ns
  | .faultRaise rs => rs.all Wf.raiseOp
  | .conditionEnd source => Wf.below 128 source
  | .quietExpiry source => Wf.below 128 source
  | .recoveryWindowClose source => Wf.below 128 source
  | .fcStickyClear c w mask => Wf.svc c && Wf.below 4 w && Wf.fits 32 mask
  | .fcCtrlClrFirst c => Wf.svc c
  | .fcCtrlClrOcc c => Wf.svc c
  | .fcForceWrite c w value => Wf.writer c && Wf.below 4 w && Wf.fits 32 value
  | .fcInjWrite c value => Wf.writer c && Wf.fits 32 value
  | .fcRecClear c => Wf.svc c
  | .recordStore _ => true
  | .alarmForward => true
  | .holdup13v _ => true
  | .recClear c => Wf.svc c
  | .recSelWrite c lo _ => Wf.svc c && Wf.fits 32 lo
  | .recDirselWrite c code => Wf.svc c && Wf.fits 16 code
  | .clSelWrite c seq => Wf.svc c && Wf.fits 32 seq
  | .alarmSubscribe c prio => Wf.svc c && Wf.below 4 prio
  | .modeHalt c => Wf.svc c
  | .modeRestart c _ => Wf.svc c
  | .restartExpired => true
  | .maintEnter c => Wf.svc c
  | .maintExit c => Wf.svc c
  | .updateEnter c => Wf.svc c
  | .updateExit c => Wf.svc c
  | .moduleReset c => Wf.svc c
  | .powerOnReset p => Wf.porOp p
  | .resetN _ => true
  | .rstCmdWrite c value => Wf.svc c && Wf.fits 32 value
  | .measuredStartEnd m => Wf.three Wf.spireStart m.spires
  | .bootTimeout m => Wf.three Wf.spireStart m.spires
  | .selftestEnd t => Wf.three Wf.bankRows t.rows
  | .spireIdle spire _ => Wf.below 3 spire
  | .scheduledWake spire _ => Wf.below 3 spire
  | .unscheduledWake spire task => Wf.below 3 spire && Wf.opt (Wf.below 24) task
  | .feedFault feed _ => Wf.below 2 feed
  | .supplyWarning _ _ _ => true
  | .supplyDip _ _ _ _ _ => true
  | .holdupTest _ => true
  | .feedOvervoltage feed _ => Wf.below 2 feed
  | .feedReconnect feed _ => Wf.below 2 feed
  | .pwrCtrlClrCnt c => Wf.svc c
  | .lampAmberEnd => true
  | .login l => Wf.below 16 l.port && Wf.fits 128 l.nonce
  | .proof p => Wf.below 16 p.port && Wf.fits 256 p.proof
  | .svcLockoutEnd port _ => Wf.below 16 port
  | .serviceSessionTimeout sid => Wf.fits 32 sid
  | .confirmationExpiry code => Wf.fits 32 code
  | .arpAndEchoRequest e => Wf.echo e
  | .registerWrite c rs ws e => Wf.svc c && rs.all Wf.regRd && ws.all Wf.regWr && Wf.wrEnv e
  | .benchRingJoin addr => Wf.fits 16 addr
  | .ld o => Wf.engOp o
  | .ldn o => Wf.engOp o
  | .andI o => Wf.engOp o
  | .andn o => Wf.engOp o
  | .orI o => Wf.engOp o
  | .orn o => Wf.engOp o
  | .xorI o => Wf.engOp o
  | .st o => Wf.engOp o
  | .setI o => Wf.engOp o
  | .clr o => Wf.engOp o
  | .edr o => Wf.engOp o
  | .edf o => Wf.engOp o
  | .ifI o => Wf.engOp o
  | .elseI o => Wf.engOp o
  | .endif o => Wf.engOp o
  | .skipz o => Wf.engOp o
  | .wld o => Wf.engOp o
  | .wst o => Wf.engOp o
  | .wadd o => Wf.engOp o
  | .wsub o => Wf.engOp o
  | .wcmp o => Wf.engOp o
  | .wmin o => Wf.engOp o
  | .wmax o => Wf.engOp o
  | .ton o => Wf.engOp o
  | .tof o => Wf.engOp o
  | .tpl o => Wf.engOp o
  | .ttst o => Wf.engOp o
  | .claim o => Wf.engOp o
  | .relsK o => Wf.engOp o
  | .relsV o => Wf.engOp o
  | .share o => Wf.engOp o
  | .unshare o => Wf.engOp o
  | .qry o => Wf.engOp o
  | .offer o => Wf.engOp o
  | .acpt o => Wf.engOp o
  | .inI o => Wf.engOp o
  | .outI o => Wf.engOp o
  | .emit o => Wf.engOp o
  | .finI o => Wf.engOp o
  | .tickWindow w => Wf.window w
  | .serviceWindowClose id w => Wf.fits 16 id && Wf.window w
  | .imageLoad docs => Wf.three Wf.imageDoc docs
  | .forceWrite c k v => Wf.svc c && Wf.below 32 k && Wf.vals v
  | .leCtrlClrMax c v => Wf.svc c && Wf.vals v
  | .leCtrlClrCnt c v => Wf.svc c && Wf.vals v
  | .inputFreeze task => Wf.below 24 task
  | .periodicRelease task => Wf.below 24 task
  | .minSepElapsed task => Wf.below 24 task
  | .finialBarrierComplete angle => Wf.fits 16 angle
  | .outputAngle task v => Wf.below 24 task && Wf.voteOp v
  | .sealAngle => true
  | .sealComplete meets => meets.all Wf.bankMeet
  | .sweepStart k => Wf.below 4 k
  | .sweepOutput k v => Wf.below 4 k && Wf.voteOp v
  | .watchdogTrip task => Wf.below 25 task
  | .schCtrlClrStats c v => Wf.svc c && Wf.vals v
  | .keepIntake => true
  | .kpCmdBlock c v => Wf.svc c && Wf.vals v
  | .kpCmdUnblock c v => Wf.svc c && Wf.vals v
  | .kpTselWrite c v => Wf.svc c && Wf.vals v
  | .kpXselWrite c v => Wf.svc c && Wf.vals v
  | .kpCtrlClrCnt c v => Wf.svc c && Wf.vals v
  | .offerTimeout token => Wf.fits 16 token
  | .confirmTimeout token => Wf.fits 16 token
  | .completionTimeout token => Wf.fits 16 token
  | .retryTimeout token => Wf.fits 16 token
  | .longPartitionTimeout token => Wf.fits 16 token
  | .boundaryTransmit => true
  | .settle c o => Wf.svc c && Wf.settleOp o
  | .settleTimeout => true
  | .fence c o => Wf.svc c && Wf.settleOp o
  | .admissionLapse peer cause => Wf.fits 16 peer && Wf.fits 8 cause
  | .btCtrlClrCnt c v => Wf.svc c && Wf.vals v
  | .pageFill spire page _ => Wf.below 3 spire && Wf.page page
  | .writeBack spire group p => Wf.below 3 spire && Wf.fits 14 group && Wf.portOp p
  | .scrubRead spire p => Wf.below 3 spire && Wf.portOp p
  | .snapshotCopyComplete spire _ => Wf.below 3 spire
  | .marchStep m => Wf.march m
  | .mtCtrlStart c v => Wf.svc c && Wf.vals v
  | .pgCtrlClrCnt c v => Wf.svc c && Wf.vals v
  | .recordCompare o mate => Wf.compareOp o && Wf.opt Wf.compareOp mate
  | .lagTimeout => true
  | .spireSelftestEnd t => Wf.spireTest t
  | .selftestTimeout spire test => Wf.below 3 spire && Wf.below 5 test
  | .reintCopyComplete spire _ => Wf.below 3 spire
  | .spireRejoined spire _ => Wf.below 3 spire
  | .reintJoinTimeout spire => Wf.below 3 spire
  | .bfCmdIsolate c v => Wf.svc c && Wf.vals v
  | .bfCmdInject c v _ => Wf.svc c && Wf.vals v
  | .bfCtrlClrCnt c v => Wf.svc c && Wf.vals v
  | .pairChunk k => Wf.chunk k
  | .deltaApply => true
  | .pairFramesMissing => true
  | .takeoverEntry => true
  | .pairSwitch c => Wf.svc c
  | .pairSwitchTimeout => true
  | .pairCtrlClrCnt c => Wf.svc c
  | .roundStart r => Wf.round r
  | .staticSlotTransmit _ slot => Wf.fits 8 slot
  | .dynamicTransmit d => Wf.dynOp d
  | .referenceFrame f => Wf.ringHdr f.hdr && Wf.refBlock f.block && Wf.vital f.vital
  | .staticFrame f => Wf.ringHdr f.hdr && Wf.vital f.vital
  | .syncCorrection _ => true
  | .timeMasterTakeover _ => true
  | .timeMasterReturn _ => true
  | .ringSwitch c sched => Wf.svc c && Wf.below 8 sched
  | .ringSwitchTimeout => true
  | .sfpInsert o => Wf.sfp o
  | .rgCtrlClrCnt c => Wf.svc c
  | .coldstartTrigger _ => true
  | .coldstartFrame f => Wf.csFrame f
  | .coldstartRound _ => true
  | .coldstartBackoffEnd _ => true
  | .integrateAnnounce _ => true
  | .integrationFrame f => Wf.integFrame f
  | .admissionMessage m => Wf.admMsg m
  | .ringAdmitTimeout _ => true
  | .admitRepeat => true
  | .ringSyncLost _ => true
  | .guardianTruncate g => Wf.guardEv g
  | .portLost port => Wf.below 4 port
  | .ringRestored port => Wf.below 4 port
  | .rgGctrlClrCnt c => Wf.svc c
  | .canFrameRx f => Wf.canRx f
  | .canTransmitEnd ch _ => Wf.below 40 ch
  | .canBusoff ch => Wf.below 40 ch
  | .canBusoffRecovery ch => Wf.below 40 ch
  | .canGroupFail g => Wf.below 5 g
  | .canWake ch _ => Wf.below 40 ch
  | .canCtrlClrCnt c ch => Wf.svc c && Wf.below 40 ch
  | .connect n f => Wf.sessNo n && Wf.sframe f
  | .connectAck n f => Wf.sessNo n && Wf.sframe f
  | .close n f => Wf.sessNo n && Wf.sframe f
  | .sessionData n f => Wf.sessNo n && Wf.sframe f
  | .connectRetry n => Wf.sessNo n
  | .holdoffEnd n => Wf.sessNo n
  | .queueMessage m => Wf.qmsg m
  | .ssCtrlClrCnt c => Wf.svc c
  | .cvStart c u start => Wf.svc c && Wf.below 8 u && Wf.fits 32 start
  | .cvDataWrite c u value => Wf.svc c && Wf.below 8 u && Wf.fits 32 value
  | .cvByteWrite c u value => Wf.svc c && Wf.below 8 u && Wf.fits 8 value
  | .ethLinkLost port => Wf.below 16 port
  | .ethCtrlClrCnt c => Wf.svc c
  | .sampleWindow w => Wf.reads w
  | .outputRestCheck r => Wf.readback r
  | .testPulse slot => Wf.below 32 slot
  | .testReadback r => Wf.pulseRead r
  | .testPulseEnd => true
  | .outputOverload o => Wf.overload o
  | .fsMeasure _ => true
  | .logicSilence => true
  | .holdPresentation => true
  | .restartInRise => true
  | .restartInFall => true
  | .ioRestartStuck => true
  | .ioRestartExpired => true
  | .ioRestart c => Wf.svc c
  | .ioOvrWrite c value => Wf.svc c && Wf.fits 32 value
  | .ioCtrlClrCnt c => Wf.svc c
  | .quoteRequest q => Wf.quoteReq q
  | .quoteSign => true
  | .quoteResponse q => Wf.quoteMsg q
  | .attCtrlClrCnt c v => Wf.svc c && Wf.vals v
  | .updBegin c m => Wf.svc c && Wf.manifest m
  | .updBlock c b => Wf.svc c && Wf.updBlock b
  | .updStatus c => Wf.svc c
  | .updVerify c v => Wf.svc c && Wf.verifyOp v
  | .updActivate c written => Wf.svc c && Wf.fits 32 written
  | .updConfirm c => Wf.svc c
  | .updAbort c => Wf.svc c
  | .trialDeadline => true
  | .olBegin c h => Wf.svc c && Wf.olHeader h
  | .stagedImageCheck docs _ => Wf.three Wf.imageDoc docs
  | .olActivate c count => Wf.svc c && Wf.fits 48 count
  | .olActivation => true
  | .olCancel c => Wf.svc c
  | .admissionQuoteTimeout addr => Wf.fits 16 addr
  | .announcePauseEnd _ => true
  | .peerQuoteRequest addr => Wf.fits 16 addr
  | .qPageCopy spire q p => Wf.below 3 spire && Wf.below 8 q && Wf.portOp p
  | .leadFillStart task => Wf.below 25 task

end Sys2Proof
end

