-- ==== Sys2Proof/Safety.lean ====
section
/-! DEFINITION. What counts as a safe run, in the terms that the statements use. -/

namespace Sys2Proof.Machine

/-- The command `i` completes on `s`: it answers a next state, and that state has property `p`. -/
def Completes (i : Instr) (s : State) (p : State → Prop) : Prop := ∃ t, Sys2Proof.Machine.exec i s = .next t ∧ p t

/-- Every next state that `i` answers on `s` has property `p`. -/
def Leaves (i : Instr) (s : State) (p : State → Prop) : Prop := ∀ t, Sys2Proof.Machine.exec i s = .next t → p t

/-- The state after a request of session x is noted and answered, before anything else: only what leaves the module and the
session's last SEQ and time differ. -/
def State.answered (s : State) (c : Svc) (x : SvcSess) : State := { s with out := [.answer x.sid []], svc := (s.svcTouch c).svc }

/-- The same with the change-log entry that R401 asks for: `kind` 1 a register, 2 a command. -/
def State.noted (s : State) (c : Svc) (x : SvcSess) (kind spires target old new opnd2 : Nat) : State :=
  { s.answered c x with
    chg := ⟨s.chgNext, x.role.code, x.port, kind, spires, s.atNow, s.time.civil, target, old, new, opnd2⟩ ::
      s.chg.filter (fun e => decide (s.chgNext < e.seq + 65536))
    chgNext := s.chgNext + 1 }

/-- The record of a named event as it is made in state `s` (spec/18 R391). -/
def State.recOf (s : State) (n : RecName) (source p1 p2 : Nat) : Rec :=
  ⟨.named n, source, false, false, false, !s.time.atValid, !s.flag F.CIVIL_STATUS_VALID, n.cls, 0, s.atNow,
    if s.flag F.CIVIL_STATUS_VALID then s.time.civil else 0, p1 % 2 ^ 32, p2 % 2 ^ 32⟩

/-- The records `rs` are the newest of the intake queue, where it had room for records of any class (spec/18 R395). -/
def Recorded (s t : State) (rs : List Rec) : Prop := s.rcd.intake.length + rs.length ≤ 896 → t.rcd.intake = s.rcd.intake ++ rs

/-- Every register outside `l` reads as before, but for the counts of discarded records (spec/18 R395). -/
def RegsKept (s t : State) (l : List Nat) : Prop :=
  ∀ k, k ∉ l → (∀ c, c < 4 → k ≠ R.REC_DROP.key c 0 ∧ k ≠ R.ALM_DROP.key c 0) → t.word k = s.word k

/-- The registers in which paging of spire x counts (spec/09 PG_FILLS, PG_WBACK, PG_DEMAND, PG_ST). -/
def pagerKeys (x : Nat) : List Nat :=
  [R.PG_FILLS.key x 0, R.PG_WBACK.key x 0, R.PG_DEMAND.key x 0] ++ (List.range 5).map (fun i => R.PG_ST.key i x)

/-- The registers that show and count the power states of the spires (spec/19 R414, R418). -/
def wakeKeys : List Nat := [R.PWR_STATE.key 0 0, R.PWR_WAKES.key 0 0]

/-- Every spire that was compared is in L0 (spec/19 R417). -/
def SpiresAwake (s t : State) : Prop := ∀ y ∈ s.compared, t.fld (pwrField y) = 0

/-- Output n is mapped and declared vital by the image in use. -/
def State.vitalOut (s : State) (n : Nat) : Bool := match s.outMap n with | some d => d.vital | none => false

/-- Both switches of output n are closed (spec/16 R362). -/
def State.energised (s : State) (n : Nat) : Bool := s.io.on.getLsbD n

/-- spec/00 R6, spec/01 R24, spec/10 R231, spec/16 R362: outside ACTIVE and ACTIVE-2OO2 the voted word is all zeros and no
vital output is energised; in every mode an output that is not mapped, or is latched, is not energised. -/
structure FailSafe (s : State) : Prop where
  voteZero : s.mode.cur.track = false → s.bf.vote = 0
  wordZero : s.mode.cur.track = false → s.io.word = 0
  vitalOff : ∀ n, s.mode.cur.track = false → s.vitalOut n = true → s.energised n = false
  unmappedOff : ∀ n, s.outMap n = none → s.energised n = false
  latchedOff : ∀ n, s.outLatched n = true → s.energised n = false

/-- States that a run from `s` reaches by next states. -/
inductive Reaches : State → State → Prop where
  | refl (s : State) : Reaches s s
  | step {s t u : State} : Reaches s t → step t = .next u → Reaches s u

/-- A run is safe when every state it reaches is fail-safe. -/
def SafeRun (s : State) : Prop := ∀ t, Reaches s t → FailSafe t

end Sys2Proof.Machine
end

