-- ==== Sys2Proof/Laws/Engine.lean ====
section
/-! SUPPORT. What paging, addressing and the frame of an instruction do (spec/04 R80, R84, spec/09 R186 to R194). -/

namespace Sys2Proof.Machine

/-- What paging may change of an engine: its stall clocks. -/
def Eng.unstalled (e : Eng) : Eng := { e with stallTask := [] }

/-- `t` is `s` but for what paging of spire x changes: its pager, its stall clocks, the pager's counters, and the count of free values. -/
structure Paged (s t : State) (x : Nat) : Prop where
  rest : t = { s with sp := t.sp, regs := t.regs, free := t.free }
  other : ∀ y, y < 3 → y ≠ x → t.spire y = s.spire y
  mem : (t.spire x).mem = (s.spire x).mem
  keep : (t.spire x).keep = (s.spire x).keep
  eng : (t.eng x).unstalled = (s.eng x).unstalled
  word : ∀ k, k ∉ pagerKeys x → t.word k = s.word k

theorem Paged.refl (s : State) (x : Nat) : Paged s s x := ⟨rfl, fun _ _ _ => rfl, rfl, rfl, rfl, fun _ _ => rfl⟩

theorem Paged.trans {s t u : State} {x : Nat} (a : Paged s t x) (b : Paged t u x) : Paged s u x where
  rest := by rw [b.rest, a.rest]
  other y h1 h2 := (b.other y h1 h2).trans (a.other y h1 h2)
  mem := b.mem.trans a.mem
  keep := b.keep.trans a.keep
  eng := b.eng.trans a.eng
  word k h := (b.word k h).trans (a.word k h)

theorem State.spire_updSpire (s : State) {x y : Nat} (f : Spire → Spire) (hx : x < 3) (hy : y < 3) :
    (s.updSpire x f).spire y = if y = x then f (s.spire x) else s.spire y := by
  unfold State.updSpire State.spire
  split
  · next h => subst h; simp
  · next h => exact Three.get_upd_other s.sp f hx hy (fun e => h e.symm)

theorem Paged.updPg (s : State) {x : Nat} (f : PagerSt → PagerSt) (hx : x < 3) : Paged s (s.updPg x f) x where
  rest := rfl
  other y h1 h2 := by simp [State.updPg, State.spire_updSpire s _ hx h1, h2]
  mem := by simp [State.updPg, State.spire_updSpire s _ hx hx]
  keep := by simp [State.updPg, State.spire_updSpire s _ hx hx]
  eng := by simp [State.eng, State.updPg, State.spire_updSpire s _ hx hx]
  word _ _ := rfl

theorem Paged.bumpReg (s : State) (x : Nat) (r : Reg) (i j n : Nat) (h : r.key i j ∈ pagerKeys x) : Paged s (s.bumpReg r i j n) x where
  rest := rfl
  other _ _ _ := rfl
  mem := rfl
  keep := rfl
  eng := rfl
  word k hk := by
    unfold State.bumpReg State.wr
    rw [Reg.word_setWord, if_neg]
    rintro rfl
    exact hk h

theorem Paged.stall (s : State) {x : Nat} (cause : Nat) (hx : x < 3) (hcs : cause < 5) : Paged s (s.stall x cause) x := by
  refine Paged.trans (t := s.draw.2) ⟨rfl, fun _ _ _ => rfl, rfl, rfl, rfl, fun _ _ => rfl⟩ ?_
  refine Paged.trans (Paged.bumpReg s.draw.2 x R.PG_ST cause x s.draw.1 (by
    unfold pagerKeys; exact List.mem_append_right _ (List.mem_map_of_mem (List.mem_range.mpr hcs)))) ?_
  refine ⟨rfl, fun y h1 h2 => ?_, ?_, ?_, ?_, fun _ _ => rfl⟩
  · simp [State.stall, State.updEng, State.spire_updSpire _ _ hx h1, h2]
  · simp [State.stall, State.updEng, State.spire_updSpire _ _ hx hx]
  · simp [State.stall, State.updEng, State.spire_updSpire _ _ hx hx]
  · simp [State.stall, State.eng, State.updEng, State.spire_updSpire _ _ hx hx, Eng.unstalled]

/-- Spire x has no poisoned slot, and no injection is armed. -/
def Clean (s : State) (x : Nat) : Prop := (∀ q ∈ (s.spire x).pg.slots, q.poisoned = false) ∧ s.fc.inject = []

/-- Paging whose slots stay sound leaves the spire clean. -/
theorem Clean.paged {s t : State} {x : Nat} (hc : Clean s x) (hp : Paged s t x) (h : ∀ q ∈ (t.spire x).pg.slots, q.poisoned = false) : Clean t x :=
  ⟨h, by rw [hp.rest]; exact hc.2⟩

theorem Clean.place {s t : State} {x : Nat} {q : PgSlot} (hx : x < 3) (hc : Clean s x) (hq : q.poisoned = false) (h : s.place x q = some t) :
    Paged s t x ∧ Clean t x := by
  unfold State.place at h
  simp only at h
  split at h
  · cases h; exact ⟨Paged.refl .., hc⟩
  · split at h
    · cases h
      refine ⟨Paged.updPg s _ hx, hc.paged (Paged.updPg s _ hx) ?_⟩
      intro r hr
      simp only [State.updPg, State.spire_updSpire s _ hx hx, if_true, List.mem_append, List.mem_singleton] at hr
      rcases hr with hr | rfl
      · exact hc.1 r hr
      · exact hq
    · split at h
      · cases h
        refine ⟨Paged.updPg s _ hx, hc.paged (Paged.updPg s _ hx) ?_⟩
        intro r hr
        simp only [State.updPg, State.spire_updSpire s _ hx hx, if_true, List.mem_append, List.mem_singleton, List.mem_filter] at hr
        rcases hr with hr | rfl
        · exact hc.1 r hr.1
        · exact hq
      · cases h

theorem State.stall_slots (s : State) {x : Nat} (cause : Nat) (hx : x < 3) : ((s.stall x cause).spire x).pg = (s.spire x).pg := by
  unfold State.stall
  simp only [State.updEng, State.spire_updSpire _ _ hx hx, if_true]
  rfl

theorem Clean.stall {s : State} {x : Nat} (cause : Nat) (hx : x < 3) (hc : Clean s x) : Clean (s.stall x cause) x := by
  refine ⟨fun q hq => ?_, hc.2⟩
  rw [State.stall_slots s cause hx] at hq
  exact hc.1 q hq

theorem State.writeBackOne_paged {s : State} {x : Nat} (hx : x < 3) (hc : Clean s x) : Paged s (s.writeBackOne x) x ∧ Clean (s.writeBackOne x) x := by
  unfold State.writeBackOne
  split
  · refine ⟨(Paged.bumpReg s x R.PG_WBACK x 0 1 (by simp [pagerKeys])).trans (Paged.updPg _ _ hx), ?_, hc.2⟩
    intro q hq
    simp only [State.updPg, State.spire_updSpire _ _ hx hx, if_true, List.mem_filter] at hq
    exact hc.1 q hq.1
  · exact ⟨Paged.refl .., hc⟩

theorem State.usePage_paged {s : State} {x : Nat} (page : PageId) (d : Bool) (hx : x < 3) (hc : Clean s x) :
    Paged s (s.usePage x page d).1 x ∧ Clean (s.usePage x page d).1 x ∧ (s.usePage x page d).2 = false := by
  unfold State.usePage
  split
  · next q hq =>
    have hp : q.poisoned = false := hc.1 q (List.mem_of_find?_eq_some hq)
    dsimp only
    refine ⟨Paged.updPg s _ hx, ⟨?_, hc.2⟩, hp⟩
    intro r hr
    simp only [State.updPg, State.spire_updSpire s _ hx hx, if_true, List.mem_append, List.mem_singleton, List.mem_filter] at hr
    rcases hr with hr | rfl
    · exact hc.1 r hr.1
    · exact hp
  · exact ⟨Paged.refl .., hc, rfl⟩

theorem State.takeSlot_paged {s : State} {x : Nat} {q : PgSlot} (hx : x < 3) (hc : Clean s x) (hq : q.poisoned = false) :
    Paged s (s.takeSlot x q) x ∧ Clean (s.takeSlot x q) x := by
  unfold State.takeSlot
  split
  · next t ht => exact Clean.place hx hc hq ht
  · have w := State.writeBackOne_paged hx (hc.stall stSlot hx)
    cases hp : ((s.stall x stSlot).writeBackOne x).place x q with
    | none => exact ⟨Paged.refl .., hc⟩
    | some t =>
      have := Clean.place hx w.2 hq hp
      exact ⟨(Paged.stall s _ hx (by decide)).trans (w.1.trans this.1), this.2⟩

theorem Clean.bumpReg {s : State} {x : Nat} (r : Reg) (i j n : Nat) (hc : Clean s x) : Clean (s.bumpReg r i j n) x := hc

theorem Clean.updPg {s : State} {x : Nat} (f : PagerSt → PagerSt) (hx : x < 3) (hf : ∀ g, (f g).slots = g.slots) (hc : Clean s x) :
    Clean (s.updPg x f) x := by
  refine hc.paged (Paged.updPg s f hx) fun q hq => ?_
  simp only [State.updPg, State.spire_updSpire s _ hx hx, if_true, hf] at hq
  exact hc.1 q hq

/-- While no injection is armed there is none to take. -/
theorem State.takeInject_none {s : State} (h : s.fc.inject = []) (c u x : Nat) : s.takeInject c u x = (none, s) := by
  unfold State.takeInject
  rw [h]
  rfl

/-- A fill that meets no error: only paging changes. -/
theorem State.fillNow_paged {s : State} {x : Nat} (page : PageId) (d : Bool) (hx : x < 3) (hc : Clean s x) :
    Paged s (s.fillNow x page d) x ∧ Clean (s.fillNow x page d) x := by
  have e : s.dramRead x none = (s, false) := by simp [State.dramRead, State.takeInject_none hc.2]
  have p := State.takeSlot_paged (q := ⟨page, 0, false, false, d, false⟩) hx hc rfl
  unfold State.fillNow State.filled
  simp only [e]
  exact ⟨p.1.trans (Paged.bumpReg _ _ _ _ _ _ (by simp [pagerKeys])), p.2.bumpReg _ _ _ _⟩

theorem State.startFill_paged {s : State} {x : Nat} (hx : x < 3) (hc : Clean s x) : Paged s (s.startFill x) x ∧ Clean (s.startFill x) x := by
  unfold State.startFill
  exact ⟨Paged.updPg _ _ hx, hc.updPg _ hx (fun _ => rfl)⟩

/-- What every step of `each` does to paging, `each` does. -/
theorem State.each_paged {β : Type} {s : State} {x : Nat} (f : State → β → State)
    (h : ∀ s b, Clean s x → Paged s (f s b) x ∧ Clean (f s b) x) (hc : Clean s x) (l : List β) :
    Paged s (s.each l f) x ∧ Clean (s.each l f) x := by
  refine State.each_inv (fun t => Paged s t x ∧ Clean t x) f (fun t b ht => ?_) s l ⟨Paged.refl .., hc⟩
  have := h t b ht.2
  exact ⟨ht.1.trans this.1, this.2⟩

theorem State.fetchPage_paged {s : State} {x : Nat} (page : PageId) (hx : x < 3) (hc : Clean s x) :
    Paged s (s.fetchPage x page) x ∧ Clean (s.fetchPage x page) x := by
  unfold State.fetchPage
  split
  · have f := State.each_paged (fun s p => s.fillNow x p false) (fun s p h => State.fillNow_paged p false hx h) hc (s.fillsUpTo x page)
    have u := (f.2.stall stLate hx).updPg (fun g => { g with filling := none }) hx (fun _ => rfl)
    have w := State.startFill_paged hx u
    exact ⟨f.1.trans ((Paged.stall _ _ hx (by decide)).trans ((Paged.updPg _ _ hx).trans w.1)), w.2⟩
  · have f := State.fillNow_paged page true hx hc
    exact ⟨f.1.trans ((Paged.stall _ _ hx (by decide)).trans (Paged.bumpReg _ _ _ _ _ _ (by simp [pagerKeys]))),
      (f.2.stall stDemand hx).bumpReg _ _ _ _⟩

theorem State.engineRead_clean {s : State} {x : Nat} (bank : Nat) (hc : Clean s x) : s.engineRead x bank = (s, false) := by
  simp [State.engineRead, State.takeInject_none hc.2]

/-- Addressing a page with no poisoned slot and no injection armed: only paging changes, and the slot is sound. -/
theorem State.touch_paged {s : State} {x : Nat} (page : PageId) (d : Bool) (hx : x < 3) (hc : Clean s x) :
    Paged s (s.touch x page d).1 x ∧ Clean (s.touch x page d).1 x ∧ (s.touch x page d).2 = false := by
  unfold State.touch
  have f : Paged s (if s.resident x page then s else s.fetchPage x page) x ∧ Clean (if s.resident x page then s else s.fetchPage x page) x := by
    split
    · exact ⟨Paged.refl .., hc⟩
    · exact State.fetchPage_paged page hx hc
  have u := State.usePage_paged page d hx f.2
  simp only
  split
  · exact ⟨f.1.trans u.1, u.2⟩
  · rw [State.engineRead_clean _ u.2.1]
    exact ⟨f.1.trans u.1, u.2.1, by simp [u.2.2]⟩

theorem State.touchAll_paged {s : State} {x : Nat} (pages : List PageId) (d : Bool) (hx : x < 3) (hc : Clean s x) :
    Paged s (s.touchAll x pages d).1 x ∧ Clean (s.touchAll x pages d).1 x ∧ (s.touchAll x pages d).2 = false := by
  have gen : ∀ (l : List PageId) (a : State × Bool), Clean a.1 x → a.2 = false →
      Paged a.1 (l.foldl (fun (a : State × Bool) p => let r := a.1.touch x p d; (r.1, a.2 || r.2)) a).1 x ∧
      Clean (l.foldl (fun (a : State × Bool) p => let r := a.1.touch x p d; (r.1, a.2 || r.2)) a).1 x ∧
      (l.foldl (fun (a : State × Bool) p => let r := a.1.touch x p d; (r.1, a.2 || r.2)) a).2 = false := by
    intro l
    induction l with
    | nil => intro a h1 h2; exact ⟨Paged.refl .., h1, h2⟩
    | cons p l ih =>
      intro a h1 h2
      have t := State.touch_paged p d hx h1
      have := ih ((a.1.touch x p d).1, a.2 || (a.1.touch x p d).2) t.2.1 (by simp [h2, t.2.2])
      exact ⟨t.1.trans this.1, this.2⟩
  exact gen pages (s, false) hc rfl

theorem State.spire_each {β : Type} (s : State) (x : Nat) (l : List β) (f : State → β → State) (h : ∀ s b, (f s b).spire x = s.spire x) :
    (s.each l f).spire x = s.spire x := State.each_keep (fun s => s.spire x) f h s l

/-- Making a Q copy of spire x: only paging changes. -/
theorem State.qCopyPage_paged {s : State} {x : Nat} (task page : Nat) (hx : x < 3) (hc : Clean s x) :
    Paged s (s.qCopyPage x task page) x ∧ Clean (s.qCopyPage x task page) x := by
  refine ⟨⟨rfl, fun y h1 h2 => ?_, ?_, ?_, ?_, fun _ _ => rfl⟩, ?_⟩
  · simp [State.qCopyPage, State.spire_updSpire s _ hx h1, h2]
  · simp [State.qCopyPage, State.spire_updSpire s _ hx hx]
  · simp [State.qCopyPage, State.spire_updSpire s _ hx hx]
  · simp [State.eng, State.qCopyPage, State.spire_updSpire s _ hx hx]
  · refine ⟨fun q hq => ?_, hc.2⟩
    simp only [State.qCopyPage, State.spire_updSpire s _ hx hx, if_true] at hq
    exact hc.1 q hq

theorem State.awaitQ_paged {s : State} {x : Nat} (page : Nat) (hx : x < 3) (hc : Clean s x) :
    Paged s (s.awaitQ x page) x ∧ Clean (s.awaitQ x page) x := by
  unfold State.awaitQ
  simp only
  split
  · exact ⟨Paged.refl .., hc⟩
  · have q := State.each_paged (fun s (e : Nat × Nat) => s.qCopyPage x e.2 e.1) (fun t b ht => State.qCopyPage_paged b.2 b.1 hx ht)
      (hc.stall stQcopy hx) (upToLast (fun (e : Nat × Nat) => e.1 == page) (s.spire x).pg.qpend)
    exact ⟨(Paged.stall s stQcopy hx (by decide)).trans q.1, q.2⟩

/-- An instruction whose encoding is allowed and that meets no event acts. -/
theorem State.instr_acts {s : State} {o : EngOp} {c : Enc} (body : State → State) (h3 : o.spire < 3) (he : (s.eng o.spire).executes = true)
    (hw : s.recordWaits o.spire = false) (hk : (s.eng o.spire).skip = 0) (hp : s.pastEnd o.spire = false) (hecc : o.ecc = none) (hi : s.fc.inject = [])
    (hs : c.spaces.contains o.sp = true)
    (hm : o.md &&& c.mods = o.md) : s.instr o c body = body s := by
  unfold State.instr State.fetchEcc
  simp [he, hw, hk, hp, hecc, hm, State.takeInject_none hi]
  rw [if_neg (by omega)]
  simp at hs
  simp [hs]

/-- The lanes and addresses of an access. -/
def accessList (s : State) (o : EngOp) (word : Bool) (m : BitVec 8) : List (Nat × Nat) :=
  (lanesOf m).map (fun j => (j, ((if word then wordAddr else bitAddr) (s.lane o.spire j) o.sp o.idx).getD 0))

/-- An access whose addresses lie in their space and whose pages are sound acts after paging alone. -/
theorem State.access_acts {s : State} {o : EngOp} {word write : Bool} {m : BitVec 8} (k : List (Nat × Nat) → State → State)
    (h3 : o.spire < 3) (hc : Clean s o.spire)
    (ha : ∀ j ∈ lanesOf m, ((if word then wordAddr else bitAddr) (s.lane o.spire j) o.sp o.idx).isSome = true)
    (hz : lanesOf m = [] → o.idx < 2 ^ 20 → ((if word then wordAddr else bitAddr) LaneDef.none' o.sp o.idx).isSome = true) :
    ∃ t, Paged s t o.spire ∧ s.access o word write m k = k (accessList s o word m) t := by
  unfold State.access accessList
  simp only
  generalize (if word = true then wordAddr else bitAddr) = f at ha hz ⊢
  split
  · next j hj =>
    have h1 := List.mem_of_find?_eq_some hj
    have h2 := List.find?_some hj
    have h3 := ha j h1
    simp_all
  · split
    · next h =>
      exfalso
      simp only [Bool.and_eq_true, List.isEmpty_iff, decide_eq_true_eq] at h
      have := hz h.1.1 h.1.2
      simp_all
    · generalize (((lanesOf m).map fun j => (j, (f (s.lane o.spire j) o.sp o.idx).getD 0)).flatMap
        (fun (e : Nat × Nat) => pageOf word (s.eng o.spire).group s.sched.cur o.sp e.2)).eraseDups = pages
      have tp := State.touchAll_paged pages (write && o.sp == 0) h3 hc
      rw [if_neg (by rw [tp.2.2]; simp)]
      split
      · have ap := State.each_paged (s := (s.touchAll o.spire pages (write && o.sp == 0)).1) (fun s p => s.awaitQ o.spire p)
          (fun t b ht => State.awaitQ_paged b h3 ht) tp.2.1
          (((lanesOf m).map fun j => (j, (f (s.lane o.spire j) o.sp o.idx).getD 0)).map
            (fun (e : Nat × Nat) => e.2 / 32768)).eraseDups
        exact ⟨_, tp.1.trans ap.1, rfl⟩
      · exact ⟨_, tp.1, rfl⟩

/-! ### Lanes, and what paging leaves operands to read -/

theorem laneIn_setLane (m : BitVec 8) (j i : Nat) (b : Bool) (hj : j < 8) :
    laneIn (setLane m j b) i = if i = j then b else laneIn m i := by
  unfold laneIn setLane
  have h2 : ∀ k, k < 8 → (BitVec.ofNat 8 (2 ^ j)).getLsbD k = decide (k = j) := by
    intro k hk
    rw [BitVec.getLsbD_ofNat]
    simp [hk, Nat.testBit_two_pow, eq_comm]
  by_cases hi : i < 8
  · have h3 := h2 i hi
    cases b <;> simp only [Bool.false_eq_true, if_false, if_true, BitVec.getLsbD_and, BitVec.getLsbD_or, BitVec.getLsbD_not, h3, hi] <;>
      by_cases h : i = j <;> simp [h]
  · have : i ≠ j := by omega
    have hm : m.getLsbD i = false := BitVec.getLsbD_of_ge m i (by omega)
    have hf : (BitVec.ofNat 8 (2 ^ j)).getLsbD i = false := BitVec.getLsbD_of_ge _ i (by omega)
    cases b <;> simp only [Bool.false_eq_true, if_false, if_true, if_neg this, BitVec.getLsbD_and, BitVec.getLsbD_or, hm, hf, Bool.or_self, Bool.false_and]

theorem setAcc_acc (e : Eng) (j : Nat) (b : Bool) : (e.setAcc j b).acc = setLane e.acc j b := rfl

theorem foldl_setAcc (v : List (Nat × Bool)) (e : Eng) : (v.foldl (fun e (u : Nat × Bool) => e.setAcc u.1 u.2) e) =
    { e with acc := v.foldl (fun m u => setLane m u.1 u.2) e.acc } := by
  induction v generalizing e with
  | nil => rfl
  | cons a v ih => simp only [List.foldl_cons]; rw [ih]; rfl

theorem foldl_setLane (l : List Nat) (g : Nat → Bool) (m : BitVec 8) (hl : ∀ j ∈ l, j < 8) (i : Nat) :
    laneIn ((l.map (fun j => (j, g j))).foldl (fun m u => setLane m u.1 u.2) m) i = if i ∈ l then g i else laneIn m i := by
  induction l generalizing m with
  | nil => simp
  | cons j l ih =>
    simp only [List.map_cons, List.foldl_cons]
    rw [ih _ (fun k hk => hl k (List.mem_cons_of_mem _ hk)), laneIn_setLane _ _ _ _ (hl j (List.mem_cons_self ..))]
    by_cases h1 : i ∈ l
    · simp [h1]
    · by_cases h2 : i = j <;> simp [h1, h2]

theorem mem_lanesOf (m : BitVec 8) (j : Nat) : j ∈ lanesOf m ↔ j < 8 ∧ laneIn m j = true := by
  simp [lanesOf]

theorem md1 (m : Nat) (h : m ≤ 1) : m &&& 1 = m := by
  have : m = 0 ∨ m = 1 := by omega
  rcases this with rfl | rfl <;> rfl

theorem Paged.engf {s t : State} {x : Nat} (p : Paged s t x) {α : Type} (g : Eng → α) (h : ∀ e, g e = g e.unstalled) : g (t.eng x) = g (s.eng x) := by
  rw [h, h (s.eng x), p.eng]

/-- Paging leaves what operands read. -/
theorem Paged.lane {s t : State} {x : Nat} (p : Paged s t x) (j : Nat) : t.lane x j = s.lane x j := by
  have e := p.eng
  have r := p.rest
  unfold State.lane State.content
  have : (t.eng x).group = (s.eng x).group := p.engf Eng.group (fun _ => rfl)
  have hi : t.img = s.img := by rw [r]
  rw [this, hi]

theorem Paged.fld {s t : State} {x : Nat} (p : Paged s t x) (f : Field) (i j : Nat) (h : f.reg.key i j ∉ pagerKeys x) : t.fld f i j = s.fld f i j := by
  unfold State.fld; rw [p.word _ h]

theorem Paged.forced {s t : State} {x : Nat} (p : Paged s t x) (hx : x < 3) (sp a : Nat) : t.forced x sp a = s.forced x sp a := by
  have hk : ∀ k, k < 32 → R.FORCE.key k x ∉ pagerKeys x := by
    intro k hk
    have : ∀ x < 3, ∀ k < 32, R.FORCE.key k x ∉ pagerKeys x := by decide
    exact this x hx k hk
  have e1 : ∀ k ∈ List.range 32, t.fld F.FORCE_ENABLE k x = s.fld F.FORCE_ENABLE k x := fun k h => p.fld F.FORCE_ENABLE k x (hk k (List.mem_range.mp h))
  have e2 : ∀ k ∈ List.range 32, t.fld F.FORCE_SPACE k x = s.fld F.FORCE_SPACE k x := fun k h => p.fld F.FORCE_SPACE k x (hk k (List.mem_range.mp h))
  have e3 : ∀ k ∈ List.range 32, t.fld F.FORCE_INDEX k x = s.fld F.FORCE_INDEX k x := fun k h => p.fld F.FORCE_INDEX k x (hk k (List.mem_range.mp h))
  have e4 : ∀ k ∈ List.range 32, t.fld F.FORCE_VALUE k x = s.fld F.FORCE_VALUE k x := fun k h => p.fld F.FORCE_VALUE k x (hk k (List.mem_range.mp h))
  have key : ∀ (l : List Nat), (∀ k ∈ l, k ∈ List.range 32) →
      l.find? (fun k => t.flag F.FORCE_ENABLE k x && t.fld F.FORCE_SPACE k x == sp && t.fld F.FORCE_INDEX k x == a) =
      l.find? (fun k => s.flag F.FORCE_ENABLE k x && s.fld F.FORCE_SPACE k x == sp && s.fld F.FORCE_INDEX k x == a) := by
    intro l
    induction l with
    | nil => intro _; rfl
    | cons k l ih =>
      intro h
      have hk := h k (List.mem_cons_self ..)
      simp only [List.find?_cons, State.flag, e1 k hk, e2 k hk, e3 k hk]
      simp only [State.flag] at ih
      rw [ih (fun j hj => h j (List.mem_cons_of_mem _ hj))]
  unfold State.forced
  rw [key _ (fun _ h => h)]
  split
  · next k hk => simp only [State.flag, e4 k (List.mem_of_find?_eq_some hk)]
  · rfl

theorem Paged.loadBit {s t : State} {x : Nat} (p : Paged s t x) (hx : x < 3) (sp a : Nat) : t.loadBit x sp a = s.loadBit x sp a := by
  unfold State.loadBit
  rw [p.forced hx, p.mem]
  have : t.sched = s.sched := by rw [p.rest]
  unfold State.task
  rw [this]

theorem Paged.bitVal {s t : State} {x : Nat} (p : Paged s t x) (hx : x < 3) (sp j a : Nat) : t.bitVal x sp j a = s.bitVal x sp j a := by
  unfold State.bitVal
  have : (t.eng x).group = (s.eng x).group := p.engf Eng.group (fun _ => rfl)
  rw [p.mem, this, p.loadBit hx, p.loadBit hx, p.loadBit hx]

theorem settle_eng (s : State) (x : Nat) : (settle s).eng x = s.eng x := rfl
theorem settle_spire (s : State) (x : Nat) : (settle s).spire x = s.spire x := rfl
theorem State.eng_updEng (s : State) {x : Nat} (f : Eng → Eng) (hx : x < 3) : (s.updEng x f).eng x = f (s.eng x) := by
  simp [State.eng, State.updEng, State.spire_updSpire s _ hx hx]

theorem State.spire_get3 (s : State) (y : Nat) (hy : ¬ y < 3) : s.spire y = s.spire 2 := by
  unfold State.spire Three.get
  match y, hy with
  | n + 3, _ => rfl

end Sys2Proof.Machine
end

