-- ==== Sys2Proof/Laws/Service.lean ====
section
/-! SUPPORT. What a verified service request does: the shape of its next state (spec/21 R454, spec/18 R401). -/

namespace Sys2Proof.Machine

/-- A verified request acts on the state in which it is noted. -/
theorem act_service {s : State} {c : Svc} {x : SvcSess} (f : SvcSess → State → State) (h : s.svcFind c = some x) :
    act s (fun s => s.service c f) = .next (settle (f x { s with out := [], svc := (s.svcTouch c).svc })) := by
  have h' : ({ s with out := [] } : State).svcFind c = some x := h
  show Host.Outcome.next (settle (State.service _ c f)) = _
  rw [State.service_acts _ _ x _ h']
  rfl

/-- A verified request that fails its checks changes nothing. -/
theorem act_service_none {s : State} {c : Svc} (f : SvcSess → State → State) (h : s.svcFind c = none) :
    act s (fun s => s.service c f) = .next (settle { s with out := [] }) := by
  have h' : ({ s with out := [] } : State).svcFind c = none := h
  show Host.Outcome.next (settle (State.service _ c f)) = _
  rw [State.service_discard _ _ _ h']

/-- A verified write that needs no role acts on the answered state. -/
theorem act_svcWrite {s : State} {c : Svc} {x : SvcSess} (f : State → State) (h : s.svcFind c = some x) :
    act s (fun s => s.svcWrite c f) = .next (settle (f (s.answered c x))) := by
  unfold State.svcWrite
  rw [act_service _ h]
  rfl

/-- The same in a block per spire, where every compared spire receives one value. -/
theorem act_svcWriteSpires {s : State} {c : Svc} {x : SvcSess} {target a : Nat} {v : SpireVals} (f : Nat → State → State)
    (h : s.svcFind c = some x) (hv : v.common s.compared = some a) :
    act s (fun s => s.svcWriteSpires c target v f) = .next (settle (f a (s.answered c x).wakeSpires)) := by
  unfold State.svcWriteSpires
  rw [act_service _ h]
  have e : ({ s with out := [], svc := (s.svcTouch c).svc } : State).compared = s.compared := rfl
  rw [e, hv]
  rfl

/-- The same over the slices. -/
theorem act_svcWriteSlices {s : State} {c : Svc} {x : SvcSess} {target a : Nat} {v : SpireVals} (f : Nat → State → State)
    (h : s.svcFind c = some x) (hv : v.common s.liveSlices = some a) :
    act s (fun s => s.svcWriteSlices c target v f) = .next (settle (f a (s.answered c x))) := by
  unfold State.svcWriteSlices
  rw [act_service _ h]
  have e : ({ s with out := [], svc := (s.svcTouch c).svc } : State).liveSlices = s.liveSlices := rfl
  rw [e, hv]
  rfl

/-- An authorised command from a session of an allowed role, in a state that allows it and outside a supply warning, acts
on the noted state. -/
theorem act_authorised {s : State} {c : Svc} {x : SvcSess} {code o1 o2 : Nat} {roles : List Role} {ok : State → Bool}
    (f : SvcSess → State → State) (h : s.svcFind c = some x) (hr : roles.contains x.role = true)
    (hk : ok { s with out := [], svc := (s.svcTouch c).svc } = true) (hw : s.pwr.warn = false) :
    act s (fun s => s.authorised c code o1 o2 roles ok f) = .next (settle (f x (s.noted c x 2 0 (svcCode code) 0 o1 o2))) := by
  unfold State.authorised
  rw [act_service _ h]
  simp only [hr, hk, Bool.and_self, if_true]
  unfold State.chgWrite
  simp only [hw, Bool.not_true, Bool.or_self, Bool.false_eq_true, if_false]
  rfl

/-- A write of access RWM that is allowed acts on the noted state. -/
theorem act_svcRwm {s : State} {c : Svc} {x : SvcSess} {target old new : Nat} {ok : State → Bool} (f : State → State)
    (h : s.svcFind c = some x) (hm : s.mode.cur = .maintenance) (hr : x.role = .maintainer)
    (hk : ok { s with out := [], svc := (s.svcTouch c).svc } = true) (hw : s.pwr.warn = false) :
    act s (fun s => s.svcRwm c target old new ok f) = .next (settle (f (s.noted c x 1 0 target old new 0))) := by
  unfold State.svcRwm
  rw [act_service _ h]
  simp only [State.mayRwm, hm, hr, hk, beq_self_eq_true, Bool.and_self, if_true]
  unfold State.svcConfig State.chgWrite
  simp only [hw, Bool.not_true, Bool.or_self, Bool.false_eq_true, if_false]
  rfl

end Sys2Proof.Machine
end

