-- ==== Sys2Proof/Laws/Settle.lean ====
section
/-! SUPPORT. What every meaning ends with: the settled state is fail-safe (spec/10 R231, spec/16 R362). -/

namespace Sys2Proof.Machine

/-- A number built bit by bit holds exactly those bits. -/
theorem foldl_bits (p : Nat → Bool) (m : Nat) :
    (List.range m).foldl (fun a k => a + if p k then 2 ^ k else 0) 0 < 2 ^ m ∧
    ∀ n, ((List.range m).foldl (fun a k => a + if p k then 2 ^ k else 0) 0).testBit n = (decide (n < m) && p n) := by
  induction m with
  | zero => simp
  | succ m ih =>
    obtain ⟨hl, hb⟩ := ih
    rw [List.range_succ, List.foldl_append]
    generalize hv : (List.range m).foldl (fun a k => a + if p k then 2 ^ k else 0) 0 = v at hl hb
    refine ⟨?_, fun n => ?_⟩
    · simp only [List.foldl_cons, List.foldl_nil, Nat.pow_succ]; split <;> omega
    · simp only [List.foldl_cons, List.foldl_nil]
      by_cases hp : p m
      · simp only [hp, if_true]
        by_cases hn : n = m
        · subst hn
          rw [Nat.add_comm, Nat.testBit_two_pow_add_eq, hb n]
          simp [hp]
        · rcases Nat.lt_or_gt_of_ne hn with h | h
          · rw [Nat.add_comm, Nat.testBit_two_pow_add_gt h, hb n]
            simp [h, Nat.lt_succ_of_lt h]
          · have : v + 2 ^ m < 2 ^ n := by
              have := Nat.pow_le_pow_right (n := 2) (by omega) h
              rw [Nat.pow_succ] at this; omega
            rw [Nat.testBit_lt_two_pow this]
            simp; omega
      · simp only [hp, Bool.false_eq_true, if_false, Nat.add_zero]
        rw [hb n]
        by_cases hn : n = m
        · subst hn; simp [hp]
        · have : n < m + 1 ↔ n < m := by omega
          simp [this]

theorem driven_bit (s : State) (w : BitVec 16) (n : Nat) (h : (s.driven w).getLsbD n = true) : s.outCommand w n = true := by
  unfold State.driven at h
  rw [BitVec.getLsbD_ofNat, Bool.and_eq_true] at h
  have hb := (foldl_bits (fun n => s.outCommand w n && (match s.io.outs[n]? with | some o => o.pulse.isNone | none => true)) 16).2 n
  have h' := hb.symm.trans h.2
  simp only [Bool.and_eq_true] at h'
  exact h'.2.1
theorem settle_failSafe (s : State) : FailSafe (settle s) where
  voteZero h := (settle_off_track s h).1
  wordZero h := (settle_off_track s h).2
  vitalOff n h hv := by
    rw [Bool.eq_false_iff]
    intro he
    have h1 := driven_bit s _ n he
    have hw : s.mode.cur.track = false := h
    simp only [hw] at h1
    unfold State.outCommand at h1
    have hv' : s.vitalOut n = true := hv
    unfold State.vitalOut at hv'
    split at h1
    · simp at h1
    · next d hd =>
      rw [hd] at hv'
      simp only at hv'
      rw [hv'] at h1
      simp only [Bool.not_true, Bool.and_false, Bool.false_and, Bool.false_eq_true, if_false] at h1
      split at h1
      · simp at h1
      · split at h1
        · simp at h1
        · simp at h1
  unmappedOff n h := by
    rw [Bool.eq_false_iff]
    intro he
    have h1 := driven_bit s _ n he
    have h' : s.outMap n = none := h
    unfold State.outCommand at h1
    rw [h'] at h1
    simp at h1
  latchedOff n h := by
    rw [Bool.eq_false_iff]
    intro he
    have h1 := driven_bit s _ n he
    have h' : s.outLatched n = true := h
    unfold State.outCommand at h1
    split at h1
    · simp at h1
    · simp [h'] at h1
end Sys2Proof.Machine
end

