-- ==== Sys2Proof/Certificates/Slice0/Obligations.lean ====
section
/-! DEFINITION. The statements for the provers. First the definitions that say what a statement speaks of, family by
family; then the statements, each with the rule that it follows. -/

namespace Sys2Proof.Machine

/-! ### The queue, reset and what holds of every command -/

/-- The modes that control no track and lead to it only by way of LOAD and INTEGRATE or a takeover. -/
def Mode.haltedOrStarting (m : Mode) : Bool :=
  match m with
  | .boot | .selftest | .load | .safeHalt | .isolated | .maintenance | .update => true
  | _ => false

/-- The register file holds no entry equal to a reset value, and its keys rise. -/
def RegsCanonical (s : State) : Prop := Sparse.wf regReset s.regs = true

/-- The collector lists no source that is at rest, and its keys rise. -/
def SourcesCanonical (s : State) : Prop := Sparse.wf (fun _ => SrcSt.idle) s.fc.src = true

/-- The service request that a command carries, if it is one over the service protocol. -/
def requestOf : Instr → Option Svc
  | .atLoRead c | .civilLoRead c | .fcCtrlClrFirst c | .fcCtrlClrOcc c | .fcRecClear c | .recClear c | .modeHalt c | .maintEnter c
  | .maintExit c | .updateEnter c | .updateExit c | .moduleReset c | .pwrCtrlClrCnt c | .pairSwitch c | .pairCtrlClrCnt c
  | .rgCtrlClrCnt c | .rgGctrlClrCnt c | .ssCtrlClrCnt c | .ethCtrlClrCnt c | .ioRestart c | .ioCtrlClrCnt c
  | .updStatus c | .updConfirm c | .updAbort c | .olCancel c => some c
  | .timeSet c _ | .recSelWrite c _ _ | .recDirselWrite c _ | .clSelWrite c _ | .alarmSubscribe c _ | .modeRestart c _ | .rstCmdWrite c _
  | .leCtrlClrMax c _ | .leCtrlClrCnt c _ | .schCtrlClrStats c _ | .kpCmdBlock c _ | .kpCmdUnblock c _
  | .kpTselWrite c _ | .kpXselWrite c _ | .kpCtrlClrCnt c _ | .settle c _ | .fence c _ | .btCtrlClrCnt c _ | .mtCtrlStart c _
  | .pgCtrlClrCnt c _ | .bfCmdIsolate c _ | .bfCtrlClrCnt c _ | .ringSwitch c _ | .canCtrlClrCnt c _ | .ioOvrWrite c _
  | .attCtrlClrCnt c _ | .updBegin c _ | .updBlock c _ | .updVerify c _ | .updActivate c _ | .olBegin c _ | .olActivate c _ => some c
  | .registerWrite c _ _ _ | .fcStickyClear c _ _ | .forceWrite c _ _ | .bfCmdInject c _ _ | .cvStart c _ _ | .cvDataWrite c _ _ | .cvByteWrite c _ _ => some c
  | .fcForceWrite (.service c) _ _ | .fcInjWrite (.service c) _ => some c
  | _ => none

/-! ### Logic engine (spec/04) -/

/-- The engine of spire `o.spire` is about to execute `o`: it runs a group in L0, its delay register has room, nothing is being
skipped, the program has not ended, the access meets no ECC event, no resident page is poisoned and no injection is armed. -/
def EngineReady (s : State) (o : EngOp) : Prop :=
  o.spire < 3 ∧ (s.eng o.spire).executes = true ∧ s.fld (pwrField o.spire) = 0 ∧ s.recordWaits o.spire = false ∧
  (s.eng o.spire).skip = 0 ∧ s.pastEnd o.spire = false ∧ o.ecc = none ∧ s.fc.inject = [] ∧
  ∀ q ∈ (s.spire o.spire).pg.slots, q.poisoned = false

/-- Every lane of `m` has an address in its space; where no lane acts, an absolute address lies in the space (R80, R81). -/
def Addressable (s : State) (o : EngOp) (word : Bool) (m : BitVec 8) : Prop :=
  (∀ j ∈ lanesOf m, ((if word then wordAddr else bitAddr) (s.lane o.spire j) o.sp o.idx).isSome = true) ∧
  (lanesOf m = [] → o.idx < 2 ^ 20 → ((if word then wordAddr else bitAddr) LaneDef.none' o.sp o.idx).isSome = true)

/-- The address of lane j. -/
def addrOf (s : State) (o : EngOp) (word : Bool) (j : Nat) : Nat :=
  ((if word then wordAddr else bitAddr) (s.lane o.spire j) o.sp o.idx).getD 0

/-- The bit operand of lane j (R80, R100). -/
def opBit (s : State) (o : EngOp) (j : Nat) : Bool := s.bitVal o.spire o.sp j (addrOf s o false j)

/-- The word operand of lane j. -/
def opWord (s : State) (o : EngOp) (j : Nat) : Word := s.wordVal o.spire o.sp j (addrOf s o true j)

/-- The engine of spire x has passed an instruction of n clocks: what its ACC, WACC and mask stack become is said beside; the
other spires stand. -/
def Passed (s t : State) (x n : Nat) : Prop :=
  t.eng x = { s.eng x with
    acc := (t.eng x).acc, wacc := (t.eng x).wacc, stack := (t.eng x).stack, freshEdges := (t.eng x).freshEdges
    pc := (s.eng x).pc + 1, clkCycle := (s.eng x).clkCycle + n, clkTask := (t.eng x).clkTask, stallTask := (t.eng x).stallTask } ∧
  ∀ y, y < 3 → y ≠ x → t.spire y = s.spire y

/-- Only the engine and the pager of spire x, the pager's counters and the registers of `l` may have changed. -/
def EngineOnly (s t : State) (x n : Nat) (l : List Nat) : Prop :=
  Passed s t x n ∧ (t.spire x).mem = (s.spire x).mem ∧ (t.spire x).keep = (s.spire x).keep ∧
  (∀ k, k ∉ pagerKeys x → k ∉ l → t.word k = s.word k) ∧ t = settle { s with out := [], sp := t.sp, regs := t.regs, free := t.free }

/-- ACC of spire x after a bit instruction `f`: `f ACC op` in the lanes of EN, the rest as before (R77, R85). -/
def BitResult (s t : State) (o : EngOp) (f : Bool → Bool → Bool) : Prop :=
  (∀ j, j < 8 → laneIn (t.eng o.spire).acc j =
    if laneIn (s.eng o.spire).en j then f (laneIn (s.eng o.spire).acc j) (opBit s o j) else laneIn (s.eng o.spire).acc j) ∧
  (t.eng o.spire).wacc = (s.eng o.spire).wacc ∧ (t.eng o.spire).stack = (s.eng o.spire).stack ∧
  (t.eng o.spire).freshEdges = (s.eng o.spire).freshEdges ∧ EngineOnly s t o.spire 1 []

/-- A bit of F (of lane j's instance), G or Q as a memory holds it. -/
def memBit (m : SMem) (sp group j a : Nat) : Bool :=
  match sp with
  | 0 => Sparse.get (fun _ => false) m.f (fKey group j a)
  | 1 => Sparse.get (fun _ => false) m.g a
  | _ => Sparse.get (fun _ => false) m.q a

/-- The memory of spire x after a bit store in the lanes of `m` of `v j` in lane j: the highest lane that stores to a bit
leaves its value (R78); every bit that no lane stores to is as before, and words and timers too. -/
def BitsStored (s t : State) (o : EngOp) (m : BitVec 8) (v : Nat → Bool) : Prop :=
  let x := o.spire
  let g := (s.eng x).group
  (∀ j ∈ lanesOf m, (∀ i ∈ lanesOf m, j < i → ¬ (addrOf s o false i = addrOf s o false j ∧ o.sp ≠ 0)) →
    memBit (t.spire x).mem o.sp g j (addrOf s o false j) = v j) ∧
  (∀ k, (o.sp = 0 → ∀ j ∈ lanesOf m, k ≠ fKey g j (addrOf s o false j)) →
    Sparse.get (fun _ => false) (t.spire x).mem.f k = Sparse.get (fun _ => false) (s.spire x).mem.f k) ∧
  (∀ a, (o.sp = 1 → ∀ j ∈ lanesOf m, a ≠ addrOf s o false j) →
    Sparse.get (fun _ => false) (t.spire x).mem.g a = Sparse.get (fun _ => false) (s.spire x).mem.g a) ∧
  (∀ a, (o.sp = 3 → ∀ j ∈ lanesOf m, a ≠ addrOf s o false j) →
    Sparse.get (fun _ => false) (t.spire x).mem.q a = Sparse.get (fun _ => false) (s.spire x).mem.q a) ∧
  (t.spire x).mem.v = (s.spire x).mem.v ∧ (t.spire x).mem.h = (s.spire x).mem.h ∧ (t.spire x).mem.t = (s.spire x).mem.t

/-- The bits of `v` in the lanes of a mask, as a number (R102). -/
def laneBits (m : BitVec 8) (v : Nat → Bool) : Nat := ((lanesOf m).filter v).foldl (fun n j => n + 2 ^ j) 0

/-- R102, R103: the records of a bit store: one for F and for an absolute address, even with mask 0; else one per acting lane. -/
def bitStoreRecs (s : State) (o : EngOp) (m : BitVec 8) (v : Nat → Bool) : List WRec :=
  let dest := if o.sp = 0 then 0 else if o.sp = 1 then 2 else 4
  if o.sp = 0 ∨ o.idx < 2 ^ 20 then [wrec dest o.idx m.toNat (laneBits m v)]
  else (lanesOf m).map (fun j => wrec dest (addrOf s o false j) (2 ^ j) (if v j then 2 ^ j else 0))

/-- The records of spire x that have entered its delay register; the registers that show its fill and wait (spec/10 R206). -/
def Streamed (s t : State) (x : Nat) (recs : List WRec) : Prop :=
  t.bf.streams.get x = s.bf.streams.get x ++ recs ∧ ∀ y, y < 3 → y ≠ x → t.bf.streams.get y = s.bf.streams.get y

/-- The registers of the delay registers that a record of spire x may change. -/
def fifoKeys (x : Nat) : List Nat := (List.range 3).flatMap (fun c => [R.BF_FIFO_MAX.key c 0, R.BF_WAIT.key x c])

/-- Only the engine, memory and pager of spire x, its stream and their counters and the registers of `l` may have changed. -/
def StoreOnly (s t : State) (x n : Nat) (l : List Nat) : Prop :=
  Passed s t x n ∧ (t.spire x).keep = (s.spire x).keep ∧ (∀ k, k ∉ pagerKeys x → k ∉ fifoKeys x → k ∉ l → t.word k = s.word k) ∧
  t = settle { s with out := [], sp := t.sp, regs := t.regs, free := t.free, bf := { s.bf with streams := t.bf.streams } }

/-- A bit store completes: memory, stream and frame. -/
def StoreResult (s t : State) (o : EngOp) (m : BitVec 8) (v : Nat → Bool) : Prop :=
  BitsStored s t o m v ∧ Streamed s t o.spire (bitStoreRecs s o m v) ∧
  (t.eng o.spire).acc = (s.eng o.spire).acc ∧ (t.eng o.spire).wacc = (s.eng o.spire).wacc ∧ (t.eng o.spire).stack = (s.eng o.spire).stack ∧
  (t.eng o.spire).freshEdges = (s.eng o.spire).freshEdges ∧ StoreOnly s t o.spire 1 []

/-- Every instruction of the logic engine. -/
def engineInstrs (o : EngOp) : List Instr :=
  [.ld o, .ldn o, .andI o, .andn o, .orI o, .orn o, .xorI o, .st o, .setI o, .clr o, .edr o, .edf o, .ifI o, .elseI o, .endif o, .skipz o,
    .wld o, .wst o, .wadd o, .wsub o, .wcmp o, .wmin o, .wmax o, .ton o, .tof o, .tpl o, .ttst o,
    .claim o, .relsK o, .relsV o, .share o, .unshare o, .qry o, .offer o, .acpt o, .inI o, .outI o, .emit o, .finI o]

/-- The exact result of an addition or subtraction, cut to the range of its kind, and whether it was cut (R89). -/
def cut (signed : Bool) (r : Int) : Word × Bool :=
  if signed then (if r < -2 ^ 31 then (BitVec.intMin 32, true) else if 2 ^ 31 ≤ r then (BitVec.intMax 32, true) else (BitVec.ofInt 32 r, false))
  else (if r < 0 then (0, true) else if 2 ^ 32 ≤ r then (BitVec.allOnes 32, true) else (BitVec.ofInt 32 r, false))

/-- The number that a word stands for. -/
def val (signed : Bool) (w : Word) : Int := if signed then w.toInt else w.toNat

/-- ACC and WACC after a word instruction: `f` gives both in the lanes of EN; the rest as before. -/
def WordLanes (s t : State) (o : EngOp) (f : Bool → Word → Word → Bool × Word) : Prop :=
  let e := s.eng o.spire
  (∀ j, j < 8 → laneIn (t.eng o.spire).acc j = if laneIn e.en j then (f (laneIn e.acc j) (e.w j) (opWord s o j)).1 else laneIn e.acc j) ∧
  (∀ j, j < 8 → (t.eng o.spire).w j = if laneIn e.en j then (f (laneIn e.acc j) (e.w j) (opWord s o j)).2 else e.w j) ∧
  (t.eng o.spire).stack = e.stack ∧ (t.eng o.spire).freshEdges = e.freshEdges

/-- A word instruction that cannot saturate. -/
def WordResult (s t : State) (o : EngOp) (f : Bool → Word → Word → Bool × Word) : Prop :=
  WordLanes s t o f ∧ EngineOnly s t o.spire 1 []

/-- A reaction of the fault source resets nothing (R377). -/
def NoResetReaction (s : State) (k : Nat) : Prop := s.reactMask k / 4 % 2 = 0 ∧ s.reactMask k / 8 % 2 = 0

/-- R89: WADD and WSUB by the exact result `r j` of lane j: cut, ACC cleared where it was cut, each cut counted in LE_SAT_CNT. -/
def SumResult (s t : State) (o : EngOp) (f : Int → Int → Int) : Prop :=
  let sg := o.md % 2 == 1
  let r := fun w v => cut sg (f (val sg w) (val sg v))
  let n := ((lanesOf (s.eng o.spire).en).filter (fun j => (r ((s.eng o.spire).w j) (opWord s o j)).2)).length
  WordLanes s t o (fun a w v => (a && !(r w v).2, (r w v).1)) ∧
  t.rd R.LE_SAT_CNT o.spire = min (s.rd R.LE_SAT_CNT o.spire + n) 0xFFFFFFFF ∧
  Passed s t o.spire 1 ∧ (t.spire o.spire).mem = (s.spire o.spire).mem ∧ (t.spire o.spire).keep = (s.spire o.spire).keep ∧
  RegsKept s t (pagerKeys o.spire ++ [R.LE_SAT_CNT.key o.spire 0]) ∧
  (n = 0 → EngineOnly s t o.spire 1 []) ∧ (n ≠ 0 → (t.src (24 * o.spire + 18)).cond = true) ∧
  t = settle { s with out := t.out, sp := t.sp, regs := t.regs, free := t.free, fc := t.fc, rcd := t.rcd }

/-- R89: WLD, WADD, WSUB, WCMP, WMIN and WMAX on every operand space and modifier. -/
def WordResults : Prop :=
  ∀ (s : State) (o : EngOp), EngineReady s o → Addressable s o true (s.eng o.spire).en → (s.eng o.spire).wacc.length = 8 →
    o.sp ∈ [0, 1, 4, 5, 6, 7] →
    let sg := o.md % 2 == 1
    (o.md ≤ 1 → Completes (.wld o) s (fun t => WordResult s t o (fun a _ v => (a, if o.md = 1 then v &&& 0xFFFF#32 else v)))) ∧
    (o.md ≤ 1 → NoResetReaction s (24 * o.spire + 18) → Completes (.wadd o) s (fun t => SumResult s t o (· + ·))) ∧
    (o.md ≤ 1 → NoResetReaction s (24 * o.spire + 18) → Completes (.wsub o) s (fun t => SumResult s t o (· - ·))) ∧
    (o.md ≤ 3 → Completes (.wcmp o) s (fun t => WordResult s t o (fun _ w v =>
      (if 2 ≤ o.md then decide (w = v) else decide (val sg v ≤ val sg w), w)))) ∧
    (o.md ≤ 1 → Completes (.wmin o) s (fun t => WordResult s t o (fun a w v => (a, if val sg v < val sg w then v else w)))) ∧
    (o.md ≤ 1 → Completes (.wmax o) s (fun t => WordResult s t o (fun a w v => (a, if val sg w < val sg v then v else w))))

/-- R89 (WST), R102, R103. -/
def WordStores : Prop :=
  ∀ (s : State) (o : EngOp), EngineReady s o → Addressable s o true (s.eng o.spire).en → o.sp ∈ [0, 1] → o.md ≤ 1 →
    let x := o.spire
    let e := s.eng x
    let a := addrOf s o true
    let v := fun j => if o.md = 1 then (opWord s o j &&& 0xFFFF0000#32) ||| (e.w j &&& 0xFFFF#32) else e.w j
    let old := fun (u : State) (j k : Nat) => if o.sp = 0 then Sparse.get (fun _ => (0 : Word)) (u.spire x).mem.v (vKey e.group j k) else Sparse.get (fun _ => (0 : Word)) (u.spire x).mem.h k
    Completes (.wst o) s (fun t =>
      (∀ j ∈ lanesOf e.en, (∀ i ∈ lanesOf e.en, j < i → ¬ (a i = a j ∧ o.sp = 1)) → old t j (a j) = v j) ∧
      (∀ k, (o.sp = 0 → ∀ j ∈ lanesOf e.en, k ≠ vKey e.group j (a j)) →
        Sparse.get (fun _ => (0 : Word)) (t.spire x).mem.v k = Sparse.get (fun _ => (0 : Word)) (s.spire x).mem.v k) ∧
      (∀ k, (o.sp = 1 → ∀ j ∈ lanesOf e.en, k ≠ a j) →
        Sparse.get (fun _ => (0 : Word)) (t.spire x).mem.h k = Sparse.get (fun _ => (0 : Word)) (s.spire x).mem.h k) ∧
      (t.spire x).mem.f = (s.spire x).mem.f ∧ (t.spire x).mem.g = (s.spire x).mem.g ∧ (t.spire x).mem.q = (s.spire x).mem.q ∧ (t.spire x).mem.t = (s.spire x).mem.t ∧
      Streamed s t x ((lanesOf e.en).map (fun j => wrec (if o.sp = 0 then 1 else 3) (a j) (2 ^ j) (v j).toNat)) ∧
      (t.eng x).acc = e.acc ∧ (t.eng x).wacc = e.wacc ∧ (t.eng x).stack = e.stack ∧ (t.eng x).freshEdges = e.freshEdges ∧ StoreOnly s t x 1 [])

/-- A timer word: RUN, DONE and EXP (R91). -/
def TimerIs (w : Word) (run done : Bool) (exp : Nat) : Prop := timerRun w = run ∧ timerDone w = done ∧ timerExp w = exp

/-- R91: expired, as a signed 30-bit number. -/
def expired (now : Nat) (w : Word) : Prop := (((now : Int) - timerExp w) % 2 ^ 30) < 2 ^ 29

/-- R94's transition table and R92 for one lane: `preset` in WACC, input `inp`, old word `w`, new word `w'`. Kind 0 TON, 1 TOF, 2 TPL. -/
def TimerMoves (kind now preset : Nat) (inp : Bool) (w w' : Word) : Prop :=
  let st := fun r d => timerRun w = r ∧ timerDone w = d
  let big := 268435455 < preset
  let exp := (now + preset) % 2 ^ 30
  (kind = 0 → inp = false → w' = 0) ∧
  (kind = 0 → inp = true → st false false → preset = 0 → TimerIs w' false true (timerExp w)) ∧
  (kind = 0 → inp = true → st false false → 0 < preset → ¬ big → TimerIs w' true false exp) ∧
  (kind = 0 → inp = true → st false false → big → w' = 0) ∧
  (kind = 0 → inp = true → st true false → expired now w → TimerIs w' false true (timerExp w)) ∧
  (kind = 0 → inp = true → st true false → ¬ expired now w → w' = w) ∧
  (kind = 0 → inp = true → st false true → w' = w) ∧
  (kind = 1 → inp = true → TimerIs w' false true 0) ∧
  (kind = 1 → inp = false → st false true → preset = 0 → w' = 0) ∧
  (kind = 1 → inp = false → st false true → 0 < preset → ¬ big → TimerIs w' true true exp) ∧
  (kind = 1 → inp = false → st false true → big → w' = 0) ∧
  (kind = 1 → inp = false → st true true → expired now w → w' = 0) ∧
  (kind = 1 → inp = false → st true true → ¬ expired now w → w' = w) ∧
  (kind = 1 → inp = false → st false false → w' = w) ∧
  (kind = 2 → st false false → inp = true → preset = 0 → TimerIs w' true false (timerExp w)) ∧
  (kind = 2 → st false false → inp = true → 0 < preset → ¬ big → TimerIs w' true true exp) ∧
  (kind = 2 → st false false → inp = true → big → w' = 0) ∧
  (kind = 2 → st true true → expired now w → inp = true → TimerIs w' true false 0) ∧
  (kind = 2 → st true true → expired now w → inp = false → w' = 0) ∧
  (kind = 2 → st true true → ¬ expired now w → w' = w) ∧
  (kind = 2 → st true false → inp = false → TimerIs w' false false (timerExp w)) ∧
  (kind = 2 → st true false → inp = true → w' = w) ∧
  (kind = 2 → st false false → inp = false → w' = w)

/-- Does a start with a preset above its range happen in this lane (R92)? -/
def startsTooLong (kind preset : Nat) (inp : Bool) (w : Word) : Bool :=
  decide (268435455 < preset) &&
    match kind with
    | 0 => inp && !timerRun w && !timerDone w
    | 1 => !inp && !timerRun w && timerDone w
    | _ => inp && !timerRun w && !timerDone w

/-- R98, R102: EMIT marks its messages in the order of their first EMIT. -/
def EmitMarks : Prop :=
  ∀ (s : State) (o : EngOp), EngineReady s o → o.sp = 7 → o.md = 0 →
    let x := o.spire
    let e := s.eng x
    let m := fun j => s.messageOf o j
    let marks := (s.task s.sched.cur).marks
    (∀ j ∈ lanesOf (e.en &&& e.acc), s.content.msgs.any (fun d => d.num == m j) = true) →
    Completes (.emit o) s (fun t =>
      (∀ n, (x, n) ∈ (t.task s.sched.cur).marks ↔ (x, n) ∈ marks ∨ ∃ j ∈ lanesOf (e.en &&& e.acc), m j = n) ∧
      marks <+: (t.task s.sched.cur).marks ∧ (t.task s.sched.cur).marks.Sublist (marks ++ (lanesOf (e.en &&& e.acc)).map (fun j => (x, m j))) ∧
      (∀ k, k ≠ s.sched.cur → t.task k = s.task k) ∧
      Streamed s t x ((lanesOf (e.en &&& e.acc)).map (fun j => wrec 6 (0x12 * 65536 + m j) (2 ^ j) 0)) ∧
      (t.eng x).acc = e.acc ∧ (t.eng x).wacc = e.wacc ∧ (t.eng x).stack = e.stack ∧ Passed s t x 2 ∧ (t.spire x).mem = (s.spire x).mem ∧ (t.spire x).keep = (s.spire x).keep ∧
      (∀ k, k ∉ fifoKeys x → t.word k = s.word k) ∧
      t = settle { s with out := [], sp := t.sp, regs := t.regs, free := t.free, sched := { s.sched with tasks := t.sched.tasks }, bf := { s.bf with streams := t.bf.streams } })

/-- R99, R82, R102: FIN ends the group. -/
def FinialEnds : Prop :=
  ∀ (s : State) (o : EngOp), EngineReady s o → o.sp = 0 → o.md = 0 → o.idx = 0 → (s.eng o.spire).stack.length ≤ 1 →
    let x := o.spire
    let e := s.eng x
    Completes (.finI o) s (fun t =>
      t.eng x = { e with run := false, barrier := true, pc := e.pc + 1, clkCycle := e.clkCycle + 1, clkTask := (t.eng x).clkTask, stallTask := (t.eng x).stallTask } ∧
      (∀ j ∈ lanesOf e.base, memBit (t.spire x).mem 0 e.group j 511 = false) ∧
      (∀ k, (∀ j ∈ lanesOf e.base, k ≠ fKey e.group j 511) → Sparse.get (fun _ => false) (t.spire x).mem.f k = Sparse.get (fun _ => false) (s.spire x).mem.f k) ∧
      (t.spire x).mem = { (s.spire x).mem with f := (t.spire x).mem.f } ∧ (t.spire x).keep = (s.spire x).keep ∧
      Streamed s t x [wrec 7 e.group e.base.toNat (e.acc &&& e.base).toNat] ∧ (∀ y, y < 3 → y ≠ x → t.spire y = s.spire y) ∧
      (∀ k, k ∉ pagerKeys x → k ∉ fifoKeys x → t.word k = s.word k) ∧
      t = settle { s with out := [], sp := t.sp, regs := t.regs, free := t.free, bf := { s.bf with streams := t.bf.streams } })

/-! ### Keep instructions (spec/04 R95, spec/06 R130 to R139) -/

/-- R137, check phase for one token in class c: 0 where it passes. -/
def claimCode (x : KCtx) (t : Token) (c : Nat) : Nat :=
  if t.st = 3 then 4
  else if 4 ≤ t.st ∨ t.recon = true ∨ t.holder = 0xFFFE then 3
  else if t.st = 1 then 1
  else if t.st = 2 ∧ (c = 1 ∨ c = 5) then 2
  else if t.st = 2 ∧ (List.range 5).any (fun j => bitOf t.shareSet j && !bitOf x.matrix (5 * (c - 1) + j)) = true then 2
  else if t.st = 2 ∧ t.shareCnt = 255 then 1
  else 0

/-- R137, swap phase: what transaction n makes of a token in class c; GEN increments and CRC is recomputed. -/
def taken (t : Token) (n c : Nat) : Token :=
  let set := t.shareSet ||| 2 ^ (c - 1)
  let u := if c = 1 ∨ c = 5 then { t with holder := n, st := 1, cls := c }
    else { t with shareCnt := t.shareCnt + 1, st := 2, shareSet := set, cls := lowestClass set }
  ({ u with gen := (t.gen + 1) % 65536 } : Token).seal

/-- R138, *Release*, of an entry of class c. -/
def released (t : Token) (c : Nat) : Token :=
  let u := if c = 1 ∨ c = 5 then { t with st := 0, holder := 0xFFFF, cls := 0 }
    else if t.shareCnt ≤ 1 then { t with st := 0, shareCnt := 0, shareSet := 0, cls := 0 } else { t with shareCnt := t.shareCnt - 1 }
  ({ u with gen := (t.gen + 1) % 65536 } : Token).seal

/-- What one lane's operation leaves and answers: the keep, the result code, transaction and index of its operation record, the tokens
written in order, and the V word where one is written. -/
structure KeepAnswer where
  keep : KeepSt
  code : Nat
  trans : Nat
  idx : Nat
  toks : List Nat
  v : Option Nat

/-- A refusal leaves the keep as it was. -/
def KeepAnswer.Refused (r : KeepAnswer) (p : KeepSt) (code trans idx : Nat) (v : Option Nat) : Prop :=
  r.keep = p ∧ r.code = code ∧ r.trans = trans ∧ r.idx = idx ∧ r.toks = [] ∧ r.v = v

/-- A success writes the tokens `toks` by `f` and slot n to `u` and leaves every other token and slot. -/
def KeepAnswer.Done (r : KeepAnswer) (p : KeepSt) (trans idx : Nat) (toks : List Nat) (v : Option Nat) (f : Nat → Token) (n : Nat) (u : TSlot) : Prop :=
  r.code = 0 ∧ r.trans = trans ∧ r.idx = idx ∧ r.toks = toks ∧ r.v = v ∧ (∀ k ∈ toks, r.keep.token k = f k) ∧
  (∀ k, k ∉ toks → r.keep.token k = p.token k) ∧ r.keep.slot n = u ∧ (∀ m, m ≠ n → r.keep.slot m = p.slot m) ∧
  r.keep.bt = p.bt ∧ r.keep.tokens.length = p.tokens.length

/-- CLAIM of route d by an instance (R137). -/
def ClaimRel (x : KCtx) (p : KeepSt) (d : RouteDef) (inst : Nat) (r : KeepAnswer) : Prop :=
  let no := some 0xFFFFFFFF
  let failing := d.entries.find? (fun e => claimCode x (p.token e.1) e.2 != 0)
  ((∀ m, m < x.img.transactions → (p.slot m).tstate ≠ 0) → r.Refused p 6 0xFFFF d.number no) ∧
  ∀ n, n < x.img.transactions → (p.slot n).tstate = 0 → (∀ m, m < n → (p.slot m).tstate ≠ 0) →
    (∀ e, failing = some e → r.Refused p (claimCode x (p.token e.1) e.2) 0xFFFF d.number no) ∧
    (failing = none → r.Done p n d.number (d.entries.map Prod.fst) (some n)
      (fun k => taken (p.token k) n (((d.entries.find? (fun e => e.1 == k)).map Prod.snd).getD 0)) n
      (TSlot.seal ⟨1, d.number, 0, 0, d.domain, x.stamp, inst, 0, d.entries.map (fun e => ⟨e.1, e.2, true, false⟩)⟩))

/-- The transaction that WACC names is open, and its live entry for token k. -/
def openEntry (p : KeepSt) (w k : Nat) : Option TEntry :=
  if w = 0xFFFFFFFF ∨ (p.slot (w % 4096)).tstate ≠ 1 then none else (p.slot (w % 4096)).entries.find? (fun e => e.live && e.token == k)

/-- RELS K (R138). -/
def RelsKRel (p : KeepSt) (k w : Nat) (r : KeepAnswer) : Prop :=
  let n := w % 4096
  (openEntry p w k = none → r.Refused p 5 n k none) ∧
  ∀ e, openEntry p w k = some e → r.Done p n k [k] none (fun k => released (p.token k) e.cls) n
    ({ p.slot n with entries := (p.slot n).entries.map (fun (f : TEntry) => if f.live && f.token == k then { f with live := false } else f) } : TSlot).seal

/-- UNSHARE K (R138). -/
def UnshareRel (p : KeepSt) (k w : Nat) (r : KeepAnswer) : Prop :=
  let n := w % 4096
  ((openEntry p w k = none ∨ ∃ e, openEntry p w k = some e ∧ (e.cls = 1 ∨ e.cls = 5)) → r.Refused p 5 n k none) ∧
  ∀ e, openEntry p w k = some e → e.cls ≠ 1 → e.cls ≠ 5 → r.Done p n k [k] none (fun k => released (p.token k) e.cls) n
    ({ p.slot n with entries := (p.slot n).entries.filter (fun (f : TEntry) => !(f.live && f.token == k)) } : TSlot).seal

/-- SHARE K in class c (R138). -/
def ShareRel (x : KCtx) (p : KeepSt) (k w c : Nat) (r : KeepAnswer) : Prop :=
  let n := w % 4096
  let isOpen := w ≠ 0xFFFFFFFF ∧ (p.slot n).tstate = 1
  ((¬ isOpen ∨ c = 1 ∨ c = 5 ∨ openEntry p w k ≠ none) → r.Refused p 5 n k none) ∧
  (isOpen → c ≠ 1 → c ≠ 5 → openEntry p w k = none →
    (64 ≤ (p.slot n).entries.length → r.Refused p 6 n k none) ∧
    ((p.slot n).entries.length < 64 → claimCode x (p.token k) c ≠ 0 → r.Refused p (claimCode x (p.token k) c) n k none) ∧
    ((p.slot n).entries.length < 64 → claimCode x (p.token k) c = 0 → r.Done p n k [k] none (fun k => taken (p.token k) n c) n
      ({ p.slot n with entries := (p.slot n).entries ++ [⟨k, c, true, true⟩] } : TSlot).seal))

/-- RELS V of the transaction number v (R138). -/
def RelsVRel (p : KeepSt) (v : Nat) (r : KeepAnswer) : Prop :=
  let live := (p.slot v).entries.filter TEntry.live
  (v = 0xFFFFFFFF ∨ (p.slot v).tstate ≠ 1 → r.Refused p 5 (v % 65536) 0xFFFF none) ∧
  (v ≠ 0xFFFFFFFF → (p.slot v).tstate = 1 → r.Done p v (p.slot v).route (live.map TEntry.token) (some 0xFFFFFFFF)
    (fun k => released (p.token k) (((live.find? (fun e => e.token == k)).map TEntry.cls).getD 0)) v TSlot.closed)

/-- The acting lanes are served in ascending order, each by the whole of its operation (R78, R96). -/
def Served (R : Nat → KeepSt → KeepAnswer → Prop) (ans : Nat → KeepAnswer) : List Nat → KeepSt → KeepSt → Prop
  | [], p, q => q = p
  | j :: l, p, q => R j p (ans j) ∧ Served R ans l (ans j).keep q

/-- R102, R139: the records of one lane's operation with operation code `opc` and old keep p, V word at index a. -/
def answerRecs (opc j a : Nat) (p : KeepSt) (r : KeepAnswer) : List WRec :=
  wrec 6 (opc * 65536 + r.idx) (2 ^ j) (r.trans * 65536 + r.code) ::
    (r.toks.flatMap (fun k => tokenRecs k (p.token k) (r.keep.token k) (2 ^ j)) ++ match r.v with | some v => [wrec 1 a (2 ^ j) v] | none => [])

/-- The records of all lanes, in service order. -/
def servedRecs (opc : Nat) (a : Nat → Nat) (ans : Nat → KeepAnswer) : List Nat → KeepSt → List WRec
  | [], _ => []
  | j :: l, p => answerRecs opc j (a j) p (ans j) ++ servedRecs opc a ans l (ans j).keep

/-- What a keep instruction leaves: the keep as served; WACC the code and ACC 1 exactly for code 0 in each acting lane (R95); V words
where one is answered; the records; the counts of KP_RES and KP_PEAK; nothing else. -/
def KeepResult (s t : State) (o : EngOp) (opc : Nat) (Q : Nat → KeepSt → KeepAnswer → Prop) : Prop :=
  let x := o.spire
  let e := s.eng x
  let acting := e.en &&& e.acc
  let a := addrOf s o true
  ∃ ans : Nat → KeepAnswer, Served Q ans (lanesOf acting) (s.spire x).keep (t.spire x).keep ∧
    (∀ j, j < 8 → (t.eng x).w j = if laneIn acting j then BitVec.ofNat 32 (ans j).code else e.w j) ∧
    (∀ j, j < 8 → laneIn (t.eng x).acc j = if laneIn acting j then (ans j).code == 0 else laneIn e.acc j) ∧
    (∀ j ∈ lanesOf acting, ∀ v, (ans j).v = some v → Sparse.get (fun _ => (0 : Word)) (t.spire x).mem.v (vKey e.group j (a j)) = BitVec.ofNat 32 v) ∧
    (∀ k, (∀ j ∈ lanesOf acting, (ans j).v ≠ none → k ≠ vKey e.group j (a j)) →
      Sparse.get (fun _ => (0 : Word)) (t.spire x).mem.v k = Sparse.get (fun _ => (0 : Word)) (s.spire x).mem.v k) ∧
    (t.spire x).mem = { (s.spire x).mem with v := (t.spire x).mem.v } ∧
    Streamed s t x (servedRecs opc a ans (lanesOf acting) (s.spire x).keep) ∧
    (t.eng x).stack = e.stack ∧ (t.eng x).freshEdges = e.freshEdges ∧ (∃ n, Passed s t x n) ∧
    (∀ k, k ∉ pagerKeys x → k ∉ fifoKeys x → k ∉ (List.range 8).map (fun c => R.KP_RES.key c x) → k ≠ R.KP_PEAK.key x 0 → t.word k = s.word k) ∧
    t = settle { s with out := [], sp := t.sp, regs := t.regs, free := t.free, bf := { s.bf with streams := t.bf.streams } }

/-- The keep of the spire is sound: no token is bad, no injection waits for its check, every slot and route names tokens of the keep,
each once, in the classes of the spec. -/
def KeepFine (s : State) (x : Nat) : Prop :=
  let p := (s.spire x).keep
  (∀ i ∈ s.fc.inject, i.checker ≠ 2) ∧ (∀ t ∈ p.tokens, t.bad = false ∧ t.shareSet < 32) ∧ p.tokens.length ≤ 65536 ∧
  (∀ d ∈ s.content.routes, (d.entries.map Prod.fst).Nodup ∧ ∀ e ∈ d.entries, e.1 < p.tokens.length ∧ 1 ≤ e.2 ∧ e.2 ≤ 5) ∧
  (∀ n, ((p.slot n).entries.filter TEntry.live |>.map TEntry.token).Nodup ∧ ∀ e ∈ (p.slot n).entries, e.token < p.tokens.length) ∧
  (∀ n, (p.slot n).tstate ≤ 1)

/-- R138, R160, R161: OFFER. -/
def OfferRel (x : KCtx) (p : KeepSt) (k a : Nat) (r : KeepAnswer) : Prop :=
  let t := p.token k
  let code := if t.st = 3 then 4 else if t.st = 1 ∨ t.st = 2 then 1 else if 4 ≤ t.st ∨ t.recon = true ∨ t.holder = 0xFFFE then 3
    else if t.boundary = false ∨ a ∉ x.listing k ∨ (t.resident = true ∧ a ≠ t.home) ∨ 256 ≤ p.transfers then 5 else 0
  (code ≠ 0 → r.Refused p code 0xFFFF k none) ∧
  (code = 0 → r.code = 0 ∧ r.trans = 0xFFFF ∧ r.idx = k ∧ r.toks = [k] ∧ r.v = none ∧
    r.keep.token k = ({ t with gen := (t.gen + 1) % 65536, holder := 0xFFFE, peer := a, tseq := if (t.tseq + 1) % 65536 = 0 then 1 else (t.tseq + 1) % 65536 } : Token).seal ∧
    (∀ m, m ≠ k → r.keep.token m = p.token m) ∧ (∀ m, r.keep.slot m = p.slot m) ∧ r.keep.tokens.length = p.tokens.length ∧
    ∃ b : BRec, b.kind = 1 ∧ b.dst = a ∧ r.keep.bt.outbox = p.bt.outbox ++ [(x.count, b)])

/-- R138, R160: ACPT with transfer sequence q. -/
def AcceptRel (x : KCtx) (p : KeepSt) (k q : Nat) (r : KeepAnswer) : Prop :=
  let t := p.token k
  let offers := p.bt.offers.filter (fun o => o.token == k && o.tseq == q)
  (t.st ≠ 5 ∨ t.recon = true ∨ (∀ f ∈ offers, f.src ∉ x.admitted) ∨ (∃ f ∈ offers, ∃ g ∈ offers, f.src ≠ g.src) → r.Refused p 5 0xFFFF k none) ∧
  (t.st = 5 → t.recon = false → ∀ f, offers = [f] → f.src ∈ x.admitted → r.code = 0 ∧ r.trans = 0xFFFF ∧ r.idx = k ∧ r.toks = [k] ∧ r.v = none ∧
    r.keep.token k = ({ t with gen := (t.gen + 1) % 65536, st := 6, peer := f.src, tseq := q } : Token).seal ∧
    (∀ m, m ≠ k → r.keep.token m = p.token m) ∧ (∀ m, r.keep.slot m = p.slot m) ∧ r.keep.tokens.length = p.tokens.length ∧ f ∉ r.keep.bt.offers ∧
    ∃ b : BRec, b.kind = 2 ∧ b.dst = f.src ∧ r.keep.bt.outbox = p.bt.outbox ++ [(x.count, b)])

/-! ### Forces (spec/04 R100, R101) -/

/-- Service refusal: answered and recorded, nothing else (R10). -/
def RefusedBy (s t : State) (c : Svc) (x : SvcSess) (target : Nat) : Prop :=
  t.out = [.refusal x.sid target] ∧ Recorded s t [s.recOf .serviceRefused srcService target x.role.code] ∧ RegsKept s t [] ∧
  t = settle { s with out := t.out, svc := (s.svcTouch c).svc, rcd := t.rcd, regs := t.regs }

/-! ### Modes and resets (spec/19) -/

/-- The record of a mode change made for a cause (R405). -/
def State.modeRec (s : State) (old new : Mode) (cause : Nat) : Rec :=
  s.recOf .modeChange srcModule (cause * 65536 + old.code * 256 + new.code) (s.time.count % 2 ^ 32)

/-- The mode has changed from that of `s` to `m` for a cause, as MODE and MODE_AT show (R405, R422). -/
def ModeIs (s t : State) (m : Mode) (cause : Nat) : Prop :=
  t.mode = { s.mode with cur := m, prev := s.mode.cur.code, cause := cause, stamp := s.atNow }

/-- No confirmed or pending update interferes with a reset: the governing record is no trial, none is being activated, and the three
spires hold one record. -/
def NoTrial (s : State) : Prop :=
  s.upd.boot.a.trial = false ∧ s.upd.activating = none ∧ s.upd.boot.b = s.upd.boot.a ∧ s.upd.boot.c = s.upd.boot.a

/-- No reset holds the module now (R411). -/
def NotInReset (s : State) : Prop := s.time.resetNs ≤ s.time.clockNs

/-- Tasks, tick windows and engines are stopped and the voted word is zero. -/
def Stopped (t : State) : Prop :=
  t.bf.vote = 0 ∧ t.io.word = 0 ∧ t.sched.cur = 31 ∧ t.sched.tasks = [] ∧ ∀ y, (t.eng y).run = false ∧ (t.eng y).barrier = false

/-- R405, R407, R249, R251: MODE_HALT, MAINT_ENTER, UPDATE_ENTER from SAFE-HALT and UPDATE_EXIT. -/
def ModeCommandsAct : Prop :=
  ∀ (s : State) (c : Svc) (x : SvcSess), s.svcFind c = some x → s.pwr.warn = false → NoTrial s →
    (x.role = .maintainer → s.mode.cur.haltable = true → Completes (.modeHalt c) s (fun t => ModeIs s t .safeHalt 1 ∧ Stopped t ∧
      Recorded s t [s.modeRec s.mode.cur .safeHalt 1] ∧
      (s.mode.cur.track = true → t.pair.handover = true ∧ ∀ y, (t.spire y).mem = SMem.empty ∧ (t.spire y).keep = KeepSt.empty) ∧
      (s.mode.cur.track = false → t.pair = { s.pair with pre := t.pair.pre } ∧
        ∀ y, (t.spire y).mem = (s.spire y).mem ∧ (t.spire y).keep = (s.spire y).keep) ∧ SpiresAwake s t ∧ RegsKept s t wakeKeys ∧
      t = settle { s.noted c x 2 0 0x0201 0 0 0 with
        mode := t.mode, sched := t.sched, bf := t.bf, sp := t.sp, kevents := t.kevents, pair := t.pair, pwr := t.pwr, rcd := t.rcd, regs := t.regs })) ∧
    (x.role = .maintainer → s.mode.cur = .safeHalt → Completes (.maintEnter c) s (fun t => ModeIs s t .maintenance 1 ∧
      Recorded s t [s.modeRec .safeHalt .maintenance 1] ∧ SpiresAwake s t ∧ RegsKept s t wakeKeys ∧
      t = settle { s.noted c x 2 0 0x0203 0 0 0 with
        mode := t.mode, pair := { s.pair with pre := t.pair.pre }, pwr := t.pwr, rcd := t.rcd, regs := t.regs })) ∧
    (x.role = .engineer → s.mode.cur = .safeHalt → Completes (.updateEnter c) s (fun t => ModeIs s t .update 1 ∧
      Recorded s t [s.modeRec .safeHalt .update 1] ∧ SpiresAwake s t ∧ RegsKept s t wakeKeys ∧ (∀ e ∈ t.sess, e.2.st ≠ .opened) ∧
      t = settle { s.noted c x 2 0 0x0205 0 0 0 with
        mode := t.mode, pair := { s.pair with pre := t.pair.pre }, sess := t.sess, pwr := t.pwr, rcd := t.rcd, regs := t.regs })) ∧
    (x.role = .engineer → s.mode.cur = .update → Completes (.updateExit c) s (fun t => ModeIs s t .safeHalt 1 ∧ Stopped t ∧
      Recorded s t [s.modeRec .update .safeHalt 1] ∧ SpiresAwake s t ∧ RegsKept s t wakeKeys ∧
      t = settle { s.noted c x 2 0 0x0206 0 0 0 with
        mode := t.mode, sched := t.sched, bf := t.bf, sp := t.sp, pair := { s.pair with pre := t.pair.pre }, pwr := t.pwr, rcd := t.rcd, regs := t.regs }))

/-- R407: every other role and mode: refused, recorded, and the mode stands. -/
def OtherModeCommandsRefused : Prop :=
  ∀ (s : State) (c : Svc) (x : SvcSess), s.svcFind c = some x →
    let refused := fun (i : Instr) (code : Nat) => Completes i s (fun t => .refusal x.sid code ∈ t.out ∧ t.mode = s.mode ∧ t.chg = s.chg ∧
      Recorded s t [s.recOf .serviceRefused srcService code x.role.code] ∧ RegsKept s t [] ∧
      t = settle { s with out := t.out, svc := (s.svcTouch c).svc, rcd := t.rcd, regs := t.regs })
    (¬ (x.role = .maintainer ∧ s.mode.cur.haltable = true) → refused (.modeHalt c) 0x0201) ∧
    (¬ (x.role = .maintainer ∧ (s.mode.cur = .integrate ∨ s.mode.cur = .safeHalt)) → ∀ b, refused (.modeRestart c b) 0x0202) ∧
    (¬ (x.role = .maintainer ∧ s.mode.cur = .safeHalt) → refused (.maintEnter c) 0x0203) ∧
    (¬ (x.role = .maintainer ∧ s.mode.cur = .maintenance) → refused (.maintExit c) 0x0204) ∧
    (¬ (x.role = .engineer ∧ (s.mode.cur = .safeHalt ∨ s.mode.cur = .maintenance)) → refused (.updateEnter c) 0x0205) ∧
    (¬ (x.role = .engineer ∧ s.mode.cur = .update) → refused (.updateExit c) 0x0206) ∧
    (¬ ((x.role = .engineer ∨ x.role = .maintainer) ∧ s.mode.cur.track = false) → refused (.moduleReset c) 0x0207)

/-- R101, R373, R387, R405: what leaving MAINTENANCE lifts: forces on vital bits, the overrides and every force bit; forces on other
bits stay. -/
def Lifted (s t : State) : Prop :=
  (∀ k, k < 32 → ∀ y, y < 3 → t.rd R.FORCE k y =
    if s.flag F.FORCE_ENABLE k s.lead && s.vitalBit (s.fld F.FORCE_SPACE k s.lead) (s.fld F.FORCE_INDEX k s.lead) then 0 else s.rd R.FORCE k y) ∧
  t.rd R.IO_OVR = 0 ∧ ∀ k, k < 128 → (t.src k).force = false

/-- What a reset leaves of a register of each retention code (R13, R410), `cause` in RST_CAUSE and one more reset counted; of the
repair map all but the rows `lost` (spire, bank, row). -/
def AfterReset (s t : State) (keep : Retention → Bool) (cause : Nat) (count : Field) (lost : List (Nat × Nat × Nat)) : Prop :=
  t.mode.cur = .boot ∧ t.mode.prev = 0 ∧ t.rd R.RST_CAUSE = cause ∧ t.fld count = min (s.fld count + 1) count.max ∧ t.img = none ∧
  Stopped t ∧ (∀ y, (t.spire y).mem = SMem.empty ∧ (t.spire y).keep = KeepSt.empty) ∧
  (∀ k r, regAt k = some r → k ∉ [R.RST_CAUSE.addr, R.RST_CNT.addr, R.STRAP.addr] → (∀ c, c < 4 → k ≠ R.REC_DROP.key c 0 ∧ k ≠ R.ALM_DROP.key c 0) →
    t.word k = if keep r.ret then s.word k else regReset k) ∧
  (∀ k, (t.src k).st = if (s.src k).st = .latched then .latched else .clear) ∧ (∀ k, (t.src k).recCnt = (s.src k).recCnt ∧ (t.src k).winCnt = (s.src k).winCnt) ∧
  t.time.mark = s.time.mark ∧ t.rcd.store = s.rcd.store ∧ t.upd.boot = s.upd.boot ∧ t.settings = s.settings ∧ t.att.hist = s.att.hist ∧
  (∀ y, y < 3 → (t.spire y).pg.repair = (s.spire y).pg.repair.filter (fun e => !lost.contains (y, e.1, e.2)))

/-! ### Service side (spec/21 R454 to R456, spec/18 R394, spec/02 R50, spec/00 R9 to R12) -/

/-- What a command leaves that sends `o` and changes the service side to `v`: everything else. -/
def ServiceOnly (s t : State) (v : SvcSt) (o : List Output) (n : Nat) : Prop := t = settle { s with out := o, svc := v, free := s.free + n }

/-- R456: LOGIN of a role that is not locked out is answered by a challenge with the salt and a fresh nonce, whose value is
free; a right PROOF opens a session whose number no other session has, up to 8 sessions. -/
def LoginOpens : Prop :=
  ∀ (s : State),
    (∀ (l : LoginOp), l.port < 16 → (s.lockout l.port l.role).locked = false →
      Completes (.login l) s (fun t => ∃ n, n < 2 ^ 128 ∧ ServiceOnly s t { s.svc with
        logins := ⟨l.port, l.role, l.nonce % 2 ^ 128, n⟩ :: s.svc.logins.filter (fun e => !(e.port == l.port && e.role == l.role)) }
        [.challenge l.port s.settings.salt n] 1)) ∧
    (∀ (p : ProofOp) (e : LoginSt), p.port < 16 → (s.lockout p.port p.role).locked = false → s.challengeFor p.port p.role = some e →
      s.proofFor e = p.proof → s.svc.sessions.length < 8 →
      Completes (.proof p) s (fun t => ∃ sid, sid ≠ 0 ∧ (∀ x ∈ s.svc.sessions, x.sid ≠ sid) ∧
        ServiceOnly s t { s.svc with
          logins := s.svc.logins.filter (fun e => !(e.port == p.port && e.role == p.role))
          sessions := s.svc.sessions ++ [⟨sid, e.role, e.port, 0, s.time.clockNs⟩] } [.login e.port sid] 1))

/-- R456: a wrong proof is refused; the fifth within 60 s locks the role out on the port, counted and recorded. -/
def WrongProofsLockOut : Prop :=
  ∀ (s : State) (p : ProofOp) (e : LoginSt), p.port < 16 → (s.lockout p.port p.role).locked = false → s.challengeFor p.port p.role = some e →
    s.proofFor e ≠ p.proof →
    let recent := (s.lockout p.port p.role).fails.filter (fun t => decide (s.time.clockNs < t + 60000000000))
    Completes (.proof p) s (fun t => (t.lockout p.port p.role).locked = decide (4 ≤ recent.length) ∧
      (t.lockout p.port p.role).fails = s.time.clockNs :: recent ∧ t.svc.sessions = s.svc.sessions ∧ .refusal 0 2 ∈ t.out ∧
      t.fld F.SVC_STATUS_LOCKOUTS = (if 4 ≤ recent.length then min (s.fld F.SVC_STATUS_LOCKOUTS + 1) F.SVC_STATUS_LOCKOUTS.max else s.fld F.SVC_STATUS_LOCKOUTS) ∧
      (∀ port role, ¬ (port = p.port ∧ role = p.role) → t.lockout port role = s.lockout port role) ∧
      t = settle { s with out := t.out, svc := t.svc, regs := t.regs, rcd := t.rcd })

/-- R456, R454, R440: the timed ends of the service side. -/
def ServiceTimersRunOut : Prop :=
  ∀ (s : State),
    (∀ port role, (s.lockout port role).locked = true →
      Completes (.svcLockoutEnd port role) s (fun t => (t.lockout port role).locked = false ∧
        (∀ p r, ¬ (p = port ∧ r = role) → t.lockout p r = s.lockout p r) ∧ t.svc.sessions = s.svc.sessions ∧
        s.time.clockNs ≤ t.time.clockNs ∧ t = settle { s with out := [], svc := t.svc, time := t.time, free := t.free })) ∧
    (∀ sid x, s.svc.sessions.find? (fun (x : SvcSess) => x.sid == sid) = some x →
      Completes (.serviceSessionTimeout sid) s (fun t => x.lastNs + 300000000000 ≤ t.time.clockNs ∧
        (∀ y, y ∈ t.svc.sessions ↔ y ∈ s.svc.sessions ∧ y.sid ≠ sid) ∧ (∀ e, e ∈ t.rcd.subs ↔ e ∈ s.rcd.subs ∧ e.1 ≠ sid) ∧
        t = settle { s with out := [], svc := { s.svc with sessions := t.svc.sessions }, rcd := { s.rcd with subs := t.rcd.subs }, time := t.time, free := t.free })) ∧
    (∀ code p, s.svc.confirms.find? (fun (p : Confirm) => p.code == code) = some p →
      Completes (.confirmationExpiry code) s (fun t => p.untilNs ≤ t.time.clockNs ∧
        t.svc = { s.svc with confirms := s.svc.confirms.filter (fun (p : Confirm) => p.code != code) } ∧
        (code = cmdKpUnblock → ∀ x, x < 3 → t.fld F.KP_CMD_BUSY x = 0) ∧
        (code = 0x0304 → s.upd.stage = .verifying → t.upd.stage = .complete ∧ t.fld F.UPD_FAIL_CODE = 3) ∧
        (code ≠ cmdKpUnblock → code ≠ 0x0304 → t = settle { s with out := [], svc := t.svc, time := t.time, free := t.free })))

/-- R394: a subscription for classes up to 3; any other priority is refused. -/
def AlarmSubscriptionsKept : Prop :=
  ∀ (s : State) (c : Svc) (prio : Nat) (x : SvcSess), s.svcFind c = some x →
    (prio < 4 → Completes (.alarmSubscribe c prio) s (fun t =>
      t = settle { s.answered c x with rcd := { s.rcd with subs := (x.sid, prio) :: s.rcd.subs.filter (fun (e : Nat × Nat) => e.1 != x.sid) } })) ∧
    (4 ≤ prio → Completes (.alarmSubscribe c prio) s (fun t => t.rcd.subs = s.rcd.subs ∧ .refusal x.sid prio ∈ t.out))

/-- R455: an address that the port carries is answered, by the port's MAC address or by the echo's data. -/
def AddressesAnswered : Prop :=
  ∀ (s : State) (e : EchoOp), e.port < 16 → e.kind ≤ 3 → e.fits = true → s.carries e.port e.dst = true →
    Completes (.arpAndEchoRequest e) s (fun t =>
      t = settle { s with out := [.netAnswer e.port e.kind e.dst.num (if e.kind ≤ 1 then s.macOf e.port else e.data)] })

/-- R50: reading the low half of AT or of civil time latches the high half. -/
def LowReadsLatch : Prop :=
  ∀ (s : State) (c : Svc) (x : SvcSess), s.svcFind c = some x →
    let now := s.time.count * 65536 + s.time.angle
    let civil := if s.flag F.CIVIL_STATUS_VALID then s.time.civil else 0
    Completes (.atLoRead c) s (fun t => t.out = [.answer x.sid [now % 2 ^ 32]] ∧ (t.word R.AT_HI.addr).toNat = now / 2 ^ 32 % 2 ^ 32 ∧
      (∀ k, k ≠ R.AT_HI.addr → t.word k = s.word k) ∧ t = settle { s.answered c x with out := t.out, regs := t.regs }) ∧
    Completes (.civilLoRead c) s (fun t => t.out = [.answer x.sid [civil % 2 ^ 32]] ∧ (t.word R.CIVIL_HI.addr).toNat = civil / 2 ^ 32 % 2 ^ 32 ∧
      (∀ k, k ≠ R.CIVIL_HI.addr → t.word k = s.word k) ∧ t = settle { s.answered c x with out := t.out, regs := t.regs })

/-- The registers whose write has a row of its own in the table of commands. -/
def ownRows : List Reg :=
  [R.FORCE, R.LE_CTRL, R.SCH_CTRL, R.KP_CMD, R.KP_TSEL, R.KP_XSEL, R.KP_CTRL, R.BT_CTRL, R.PG_CTRL, R.MT_CTRL, R.BF_CTRL, R.BF_CMD,
    R.PAIR_CTRL, R.RG_CTRL, R.RG_GCTRL, R.CAN_CTRL, R.SS_CTRL, R.CV_START, R.CV_DATA, R.CV_BYTE, R.ETH_CTRL, R.IO_CTRL, R.IO_OVR,
    R.FC_STICKY, R.FC_CTRL, R.FC_INJ, R.FC_FORCE, R.REC_SEL_LO, R.REC_DIRSEL, R.CL_SEL, R.RST_CMD, R.PWR_CTRL, R.ATT_CTRL]

/-- The transaction as its checks find the module: the request is noted in its session, nothing is answered yet. -/
def State.asked (s : State) (c : Svc) : State := { s with out := [], svc := (s.svcTouch c).svc }

/-- What the transaction's register at `b` asks of the change log (R10). -/
def State.asksEntry (s : State) (x : SvcSess) (ws : List RegWr) (b : Nat) : Bool :=
  match s.writeValue x ws b with | some e => e.1.logged | none => false

/-- R9, R10, R12: an accepted transaction writes every copy of every register it names, after its change-log entries. -/
def TransactionsActWhole : Prop :=
  ∀ (s : State) (c : Svc) (rs : List (Nat × Nat)) (ws : List RegWr) (e : WrEnv) (x : SvcSess), s.svcFind c = some x →
    let u := s.asked c
    let n := (writeBases ws).countP (u.asksEntry x ws)
    u.badWrite x ws = none → u.badRead rs = none → s.pwr.warn = false → e.chgFail = none → ws.length ≤ 65536 →
    (∀ b ∈ writeBases ws, ∀ r v, u.writeValue x ws b = some (r, v) → ∀ q ∈ ownRows, r.addr ≠ q.addr) →
    Completes (.registerWrite c rs ws e) s (fun t =>
      t.out = [.answer x.sid (rs.filterMap (fun r => u.readReg r.1 r.2))] ∧
      (∀ b ∈ writeBases ws, ∀ r v, u.writeValue x ws b = some (r, v) → ∀ k ∈ s.copiesHit b,
        t.word (keyOfCopy b k) = r.written (s.word (keyOfCopy b k)) v) ∧
      (∀ k, k ∉ wakeKeys → k ≠ R.AT_HI.addr → k ≠ R.CIVIL_HI.addr → (∀ b ∈ writeBases ws, ∀ j ∈ s.copiesHit b, k ≠ keyOfCopy b j) →
        t.word k = s.word k) ∧
      t.chgNext = s.chgNext + n ∧ (n = 0 → t.chg = s.chg) ∧
      (∀ b ∈ writeBases ws, u.asksEntry x ws b = true → ∃ g ∈ t.chg, s.chgNext ≤ g.seq ∧ g.kind = 1 ∧ g.role = x.role.code ∧
        g.port = x.port ∧ g.target = b ∧ g.stamp = s.atNow) ∧
      t = settle { s.answered c x with out := t.out, regs := t.regs, chg := t.chg, chgNext := t.chgNext, pwr := t.pwr })

/-- R9: a register whose write has a row of its own has the effect of that row. -/
def OwnRowsActAlone : Prop :=
  ∀ (s : State) (c : Svc) (e : WrEnv) (x : SvcSess), s.svcFind c = some x →
    ∀ p ∈ [(R.PAIR_CTRL, Instr.pairCtrlClrCnt c), (R.RG_CTRL, .rgCtrlClrCnt c), (R.RG_GCTRL, .rgGctrlClrCnt c), (R.SS_CTRL, .ssCtrlClrCnt c),
      (R.ETH_CTRL, .ethCtrlClrCnt c), (R.IO_CTRL, .ioCtrlClrCnt c), (R.PWR_CTRL, .pwrCtrlClrCnt c), (R.FC_CTRL, .fcCtrlClrFirst c)],
      exec (.registerWrite c [] [⟨p.1.addr, 0, 1⟩] e) s = exec p.2 s

/-- R9, R10, R28, R401: a transaction is refused whole, by the first access that is refused, or for want of a change-log entry. -/
def TransactionsAreRefusedWhole : Prop :=
  ∀ (s : State) (c : Svc) (rs : List (Nat × Nat)) (ws : List RegWr) (e : WrEnv) (x : SvcSess), s.svcFind c = some x →
    let u := s.asked c
    (∀ a, u.badWrite x ws = some a → Completes (.registerWrite c rs ws e) s (fun t => RefusedBy s t c x a)) ∧
    (∀ a, u.badWrite x ws = none → u.badRead rs = some a → Completes (.registerWrite c rs ws e) s (fun t => RefusedBy s t c x a)) ∧
    (u.badWrite x ws = none → u.badRead rs = none → s.pwr.warn = true → (∃ b ∈ writeBases ws, u.asksEntry x ws b = true) →
      Completes (.registerWrite c rs ws e) s (fun t => RefusedBy s t c x ((writeBases ws).headD 0)))

/-! ### The counter-clear commands (W1S bits of the CTRL registers) -/

/-- A request of session x has written registers only: those of `zero` read 0 afterwards, those of neither list are as before. -/
def Wrote (s t : State) (c : Svc) (x : SvcSess) (zero part : List Nat) : Prop :=
  t = settle { s.answered c x with regs := t.regs } ∧
  ∀ k, (k ∈ zero → t.word k = 0) ∧ (k ∉ zero → k ∉ part → t.word k = s.word k)

/-- The same for a block per spire, whose request also wakes the compared spires (spec/19 R417). -/
def WroteAwake (s t : State) (c : Svc) (x : SvcSess) (zero part : List Nat) : Prop :=
  t = settle { s.answered c x with regs := t.regs, pwr := t.pwr } ∧ SpiresAwake s t ∧
  ∀ k, (k ∈ zero → t.word k = 0) ∧ (k ∉ zero → k ∉ part → k ∉ wakeKeys → t.word k = s.word k)

/-- The members of a register in the copies of the given spires or slices. -/
def copyKeys (r : Reg) (xs : List Nat) : List Nat := xs.map (fun x => r.key x 0)

/-- The members i = 0 to n − 1 of a register family in the copies of the given spires. -/
def memberKeys (r : Reg) (n : Nat) (xs : List Nat) : List Nat := xs.flatMap (fun x => (List.range n).map (fun i => r.key i x))

/-- R9, R12 and the register tables of spec/04, 05, 06, 07, 09 and 20: a W1S clear in a block per spire, sent alike to every
compared spire. -/
def SpireCountersCleared : Prop :=
  ∀ (s : State) (c : Svc) (v : SpireVals) (x : SvcSess) (a : Nat), s.svcFind c = some x → v.common s.compared = some a →
    let xs := s.compared
    let le := (if bitOf a 0 then copyKeys R.LE_CLK_MAX xs else []) ++
      (if bitOf a 1 then copyKeys R.LE_SAT_CNT xs ++ copyKeys R.LE_PRESET_CNT xs else [])
    Completes (.leCtrlClrMax c v) s (fun t => WroteAwake s t c x le []) ∧ Completes (.leCtrlClrCnt c v) s (fun t => WroteAwake s t c x le []) ∧
    (bitOf a 0 = true →
      Completes (.schCtrlClrStats c v) s (fun t => WroteAwake s t c x
        (copyKeys R.SWP_MAX xs ++ copyKeys R.SCH_EVENTS xs ++ memberKeys R.PT_CNT 8 xs ++ memberKeys R.ET_CNT 16 xs) []) ∧
      Completes (.kpCtrlClrCnt c v) s (fun t => WroteAwake s t c x (memberKeys R.KP_RES 8 xs ++ copyKeys R.KP_PEAK xs) []) ∧
      Completes (.btCtrlClrCnt c v) s (fun t => WroteAwake s t c x
        (copyKeys R.BT_RXCNT xs ++ copyKeys R.BT_TXCNT xs ++ copyKeys R.BT_REJ xs ++ copyKeys R.BT_REJ2 xs ++ copyKeys R.BT_TOCNT xs) []) ∧
      Completes (.pgCtrlClrCnt c v) s (fun t => WroteAwake s t c x
        (copyKeys R.PG_FILLS xs ++ copyKeys R.PG_WBACK xs ++ copyKeys R.PG_DEMAND xs ++ memberKeys R.PG_ST 5 xs ++ copyKeys R.PG_DRAM_ECC xs)
        (memberKeys R.BANK_STAT 24 xs) ∧
        ∀ y ∈ xs, ∀ b, b < 24 → t.fld F.BANK_STAT_COLL b y = 0 ∧ t.fld F.BANK_STAT_ECC_CORR b y = 0) ∧
      Completes (.attCtrlClrCnt c v) s (fun t => WroteAwake s t c x (copyKeys R.ATT_QCNT xs) []))

/-- R12 over the slices; spec/10 BF_CTRL. -/
def SliceCountersCleared : Prop :=
  ∀ (s : State) (c : Svc) (v : SpireVals) (x : SvcSess) (a : Nat), s.svcFind c = some x → v.common s.liveSlices = some a → bitOf a 0 = true →
    Completes (.bfCtrlClrCnt c v) s (fun t => Wrote s t c x
      (copyKeys R.BF_FIFO_MAX s.liveSlices ++ copyKeys R.BF_RECS s.liveSlices ++ copyKeys R.BF_BARRIERS s.liveSlices ++ copyKeys R.BF_SIGWIN s.liveSlices ++
        memberKeys R.BF_WAIT 3 s.liveSlices ++ copyKeys R.BF_ECC s.liveSlices) [])

/-! ### Fault collector (spec/17) -/

/-- The collector's part of a raise of source k at severity `sev` in state s (R381, R385, R387): the entry of the source after it. -/
def raisedSrc (s : State) (k sev unit kind : Nat) (forced : Bool) : SrcSt :=
  let x := s.src k
  let latch := x.st == .clear && !forced && decide (s.recLimit k ≤ x.winCnt)
  { x with
    st := if x.st = .latched ∨ latch = true then .latched else .active
    cond := true, sticky := true, forced := forced && (x.st == .clear || x.forced)
    sev := sev, occ := min (x.occ + 1) 255, unit := unit, kind := kind, countL := s.time.count % 65536 }

/-- The record of a raise (R384, R391). -/
def State.raiseRec (s : State) (k sev unit kind : Nat) (simul forced latch : Bool) : Rec :=
  ⟨.raise k, k, simul, forced, latch, !s.time.atValid, !s.flag F.CIVIL_STATUS_VALID, if 3 ≤ sev then 0 else 3 - sev, 0, s.atNow,
    if s.flag F.CIVIL_STATUS_VALID then s.time.civil else 0, Config.recParam 1 (1000 + k) unit kind % 2 ^ 32, Config.recParam 2 (1000 + k) unit kind % 2 ^ 32⟩

/-- R381, R384 to R386: a raise of a source of severity 0 to 2. -/
def RaisesMoveSources : Prop :=
  ∀ (s : State) (r : RaiseOp) (d : SrcDef), sourceDef r.source = some d → d.sev ≤ 2 → ¬ (r.source < 72 ∧ r.source % 24 = 5 ∧ r.sev3 = true) →
    NoResetReaction s r.source →
    Completes (.faultRaise [r]) s (fun t =>
      t.src r.source = raisedSrc s r.source d.sev r.unit r.kind false ∧ (∀ k, k ≠ r.source → t.src k = s.src k) ∧
      t.fc.first = (match s.fc.first with
        | some f => some f
        | none => some ⟨r.source, d.sev, false, false, s.time.clockNs / 10 % 2 ^ 32, s.atNow⟩) ∧
      Recorded s t [s.raiseRec r.source d.sev r.unit r.kind false false ((t.src r.source).st == .latched)] ∧
      ((.interrupt r.source ∈ t.out) ↔ ((s.src r.source).st = .clear ∧ s.reactMask r.source % 2 = 1)) ∧
      ((.trap r.source ∈ t.out) ↔ ((s.src r.source).st = .clear ∧ s.reactMask r.source / 2 % 2 = 1)) ∧ RegsKept s t wakeKeys ∧
      (r.source < 72 → t.fld (pwrField (r.source / 24)) = 0) ∧
      t = settle { s with out := t.out, regs := t.regs, fc := t.fc, rcd := t.rcd, pwr := t.pwr })

/-- R386: the raises of one tick: severity first, then number; each is marked simultaneous. -/
def FirstFaultIsTheMostSevere : Prop :=
  ∀ (s : State) (a b : RaiseOp) (d e : SrcDef), a.source ≠ b.source → sourceDef a.source = some d → sourceDef b.source = some e →
    d.sev ≤ 2 → e.sev ≤ 2 → ¬ (a.source < 72 ∧ a.source % 24 = 5) → ¬ (b.source < 72 ∧ b.source % 24 = 5) →
    NoResetReaction s a.source → NoResetReaction s b.source → s.fc.first = none →
    (e.sev < d.sev ∨ (d.sev = e.sev ∧ a.source < b.source)) →
    Completes (.faultRaise [a, b]) s (fun t => (t.fc.first.map FirstFault.source = some a.source) ∧ (t.fc.first.map FirstFault.simul = some true) ∧
      (t.src a.source).cond = true ∧ (t.src b.source).cond = true ∧
      Recorded s t [s.raiseRec a.source d.sev a.unit a.kind true false ((t.src a.source).st == .latched), s.raiseRec b.source e.sev b.unit b.kind true false ((t.src b.source).st == .latched)]) ∧
    (∀ t u, exec (.faultRaise [a, b]) s = .next t → exec (.faultRaise [b, a]) s = .next u → t = u)

/-- R390: quiet codes as times in ns. -/
def quietTime (code : Nat) : Nat :=
  if code = 1 then 10000000 else if code = 2 then 100000000 else if code = 3 then 1000000000 else if code = 4 then 10000000000 else 60000000000

/-! ### Angle time, the weathervane and civil time (spec/02) -/

/-- The record of a named event whose parameters the firmware's code list defines (R391). -/
def State.evOf (s : State) (n : RecName) (source : Nat) (unit kind : Nat := 0) : Rec :=
  s.recOf n source (Config.recParam 1 n.idx unit kind) (Config.recParam 2 n.idx unit kind)

/-- R40, R43: what a message about reference k leaves: its validity falls with its conditions and a loss is counted; the other
references, and every source but CP_WEATHERVANE, stand. -/
def RefHeard (s t : State) (k : Nat) : Prop :=
  (t.wvRef k).valid = ((s.wvRef k).valid && t.refHolds k) ∧ (∀ j, j ≠ k → t.wvRef j = s.wvRef j) ∧ (∀ n, n ≠ 91 → t.src n = s.src n) ∧
  t.fld F.WV_EVENTS_LOSS_CNT = (if (s.wvRef k).valid = true ∧ t.refHolds k = false then min (s.fld F.WV_EVENTS_LOSS_CNT + 1) F.WV_EVENTS_LOSS_CNT.max
    else s.fld F.WV_EVENTS_LOSS_CNT) ∧
  (s.wv.master = false → t.wv.lock = s.wv.lock ∧ t.wv.src = s.wv.src) ∧
  (t.fld F.REF_PHASE_VALID k = if (t.wvRef k).valid then 1 else 0) ∧
  RegsKept s t [R.REF_PHASE.key k 0, R.REF_PERIOD.key k 0, R.WV_EVENTS.addr]

/-- R39, R40, R46, R47: an edge `e.offsetNs` after the start of the base cycle in progress, stamped in steps of 10 ns. -/
def EdgesAreStamped : Prop :=
  ∀ (s : State) (e : RefEdge),
    let τ := e.offsetNs / 10 * 10
    let phase := angleOf τ s.time.tbNs % 65536
    let old := s.wvRef e.ref
    (e.ref < 5 → (e.ref = 2 ∨ e.ref = 3 → 1000 ≤ e.widthNs) → Completes (.refEdge e) s (fun t => RefHeard s t e.ref ∧
      t.time.angle = max s.time.angle (min (angleOf τ s.time.tbNs) 65535) ∧ s.time.clockNs ≤ t.time.clockNs ∧ s.time.cycleNs + τ ≤ t.time.clockNs ∧
      (t.wvRef e.ref).edgeNs = some (s.time.cycleNs + τ) ∧ (t.wvRef e.ref).fresh = true ∧
      (t.wvRef e.ref).ampOk = decide (100 ≤ e.ampDv ∧ e.ampDv ≤ 2600) ∧
      (t.wvRef e.ref).periods = (match old.edgeNs with | some p => (s.time.cycleNs + τ - p) :: old.periods | none => old.periods).take 8 ∧
      t.fld F.REF_PHASE_AGE e.ref = 0 ∧
      t.fld F.REF_PHASE_PHASE e.ref = (if (t.wvRef e.ref).valid then phase else s.fld F.REF_PHASE_PHASE e.ref) ∧
      t.wv.anchorNs = (if (t.wvRef e.ref).valid = true ∧ s.fld F.ANCHOR_CFG_REF = e.ref
        then some (s.time.cycleNs + τ + (t.wvRef e.ref).mean * s.fld F.ANCHOR_CFG_OFFSET / 256) else s.wv.anchorNs) ∧
      t = settle { s with out := [], regs := t.regs, rcd := t.rcd, wv := t.wv, fc := t.fc, time := t.time, free := t.free })) ∧
    (5 ≤ e.ref ∨ ((e.ref = 2 ∨ e.ref = 3) ∧ e.widthNs < 1000) → Completes (.refEdge e) s (fun t => t = settle { s with out := [] }))

/-- R40, R43, R48, R49: time-outs, the long holdover, PTP and TIME_SET. -/
def CivilTimeFollowsItsSources : Prop :=
  ∀ (s : State),
    (∀ k, k < 5 → Completes (.refTimeout k) s (fun t => RefHeard s t k ∧ (t.wvRef k).valid = false ∧ (t.wvRef k).fresh = false ∧
      (t.wvRef k).periods = (s.wvRef k).periods ∧ (s.wv.master = true → s.wv.lock = .locked ∨ s.wv.lock = .acquire → s.wv.src = k → t.wv.lock ≠ .locked) ∧
      t = settle { s with out := [], regs := t.regs, rcd := t.rcd, wv := t.wv, fc := t.fc })) ∧
    (s.wv.lock = .holdover → s.wv.holdLong = false → s.fld F.HOLD_LIMIT_MINUTES * 60000000000 ≤ s.wv.holdNs → NoResetReaction s 91 →
      Completes (.wvHoldoverLong) s (fun t => t.wv = { s.wv with holdLong := true } ∧ t.src 91 = raisedSrc s 91 1 0 0 false ∧ (∀ n, n ≠ 91 → t.src n = s.src n) ∧
        Recorded s t [s.evOf .wvHoldoverLong srcModule, s.raiseRec 91 1 0 0 false false ((t.src 91).st == .latched)] ∧ RegsKept s t [] ∧
        t = settle { s with out := t.out, regs := t.regs, rcd := t.rcd, wv := t.wv, fc := t.fc })) ∧
    (∀ (p : PtpSync), s.fld F.CIVIL_STATUS_PTP_PORT ≠ 15 →
      let off : Int := (p.tai : Int) - s.time.civil
      Completes (.ptpSync p) s (fun t => t.wv.ptpSynced = p.synced ∧ (∀ j, j ≠ 4 → t.wvRef j = s.wvRef j) ∧
        (p.synced = false → t.time = s.time ∧ (t.wvRef 4).valid = false) ∧
        (p.synced = true → t.fld F.CIVIL_STATUS_SRC = 1 ∧ t.fld F.CIVIL_STATUS_VALID = 1) ∧
        (p.synced = true → s.flag F.CIVIL_STATUS_VALID = true ∧ off.natAbs ≤ 1000000 →
          t.time = { s.time with civilOff := off } ∧ t.fld F.CIVIL_STATUS_STEPPED = s.fld F.CIVIL_STATUS_STEPPED) ∧
        (p.synced = true → ¬ (s.flag F.CIVIL_STATUS_VALID = true ∧ off.natAbs ≤ 1000000) →
          t.time = { s.time with civil := p.tai % 2 ^ 64, civilOff := 0 } ∧ t.fld F.CIVIL_STATUS_STEPPED = 1) ∧
        RegsKept s t [R.CIVIL_STATUS.addr, R.WV_EVENTS.addr, R.REF_PHASE.key 4 0, R.REF_PERIOD.key 4 0] ∧
        t = settle { s with out := [], regs := t.regs, rcd := t.rcd, wv := t.wv, fc := t.fc, time := t.time })) ∧
    (∀ (c : Svc) (x : SvcSess) (ns : Nat), s.svcFind c = some x → x.role = .engineer → s.pwr.warn = false →
      Completes (.timeSet c ns) s (fun t => t.time = { s.time with civil := ns % 2 ^ 64, civilOff := 0 } ∧
        t.fld F.CIVIL_STATUS_SRC = 2 ∧ t.fld F.CIVIL_STATUS_VALID = 1 ∧ t.fld F.CIVIL_STATUS_STEPPED = 1 ∧
        Recorded s t [⟨.num 3, srcModule, false, false, false, !s.time.atValid, false, 0, 0, s.atNow, ns % 2 ^ 64, s.time.civil / 2 ^ 32 % 2 ^ 32, s.time.civil % 2 ^ 32⟩] ∧
        RegsKept s t [R.CIVIL_STATUS.addr] ∧
        t = settle { s.noted c x 2 0 (svcCode cmdTimeSet) 0 (ns / 2 ^ 32) (ns % 2 ^ 32) with regs := t.regs, rcd := t.rcd, time := t.time }))

/-- What follows at a base-cycle boundary when COUNT, the references and the length of the new cycle stand: adoption of the ring's COUNT,
the ring's schedule, a prepared switch of the pair, the forces, the sessions and the releases. -/
def State.boundaryTail (u : State) : State :=
  let s := ((u.adoptCount.ringBoundary).freshCycle.switchOver.countForces.forceSource).connectIdle
  (if s.sweepMode then s else s.heldReleases).leaveIntegrate false

/-! ### Tasks, sweep, seal and watchdog (spec/05) -/

/-- No fault source but CP_PROCESSOR, which only FAULT_RAISE raises, has a reset of a block or of the module as its reaction (R377,
R380). -/
def NoResets (s : State) : Prop := ∀ k, k < 128 → k ≠ 102 → NoResetReaction s k

/-- `u` is `s` when the cycle angle has run on to `a` in the base cycle in progress (R30, R48): only the times differ. -/
def AtAngle (s u : State) (a : Nat) : Prop :=
  u = { s with out := [], time := u.time, free := u.free } ∧ s.time.clockNs ≤ u.time.clockNs ∧
  u.time = { s.time with angle := max s.time.angle (min a 65535), clockNs := u.time.clockNs, civil := u.time.civil, civilOff := u.time.civilOff }

/-- The command has come to angle `a`, where the outputs that fall at it have gone out first (spec/01 R22). -/
def State.cameTo (s : State) (a : Nat) : State := (State.advanceTo { s with out := [] } a).outputsHere

/-- What a release of task `d` leaves in `t` when it takes effect in `u` (R111, R112): outputs due at the angle first, an event task's
input image frozen; the task is ready at its first group with its deadline, its clocks begin at 0 and the release is counted in each
spire, but in one that only now joins. -/
def Effective (u t : State) (d : TaskDef) : Prop :=
  let w := if 8 ≤ d.code then u.outputsHere.freeze d.code else u.outputsHere
  (w.mode.cur.runs = false → t = settle w.dispatch) ∧
  (w.mode.cur.runs = true → ∃ v : State, t = settle v.dispatch ∧
    (v.task d.code).ready = true ∧ (v.task d.code).held = false ∧ (v.task d.code).next = 0 ∧ (v.task d.code).rel = some w.absAngle ∧ (v.task d.code).marks = [] ∧
    (v.task d.code).deadline = some (if d.code < 8 then w.time.count * 65536 + d.dlAng else w.absAngle + d.dlRel) ∧
    (∀ j, j ≠ d.code → v.task j = w.task j) ∧ v.mode = w.mode ∧ v.time = w.time ∧ v.sched.cur = w.sched.cur ∧
    ∀ x, x < 3 → Sparse.get (fun _ => 0) (v.eng x).clkTask d.code = 0 ∧
      (w.bf.entering.get x = false → v.fld (relField d.code) (taskIdx d.code) x = min (w.fld (relField d.code) (taskIdx d.code) x + 1) (relField d.code).max))

/-- A release of task `d` in `u` (R112, R117, R192): held during a seal, and an event release during a hold; latched for the next barrier
while a task runs; else effective at once, and the schedulers choose. -/
def ReleasedFrom (u t : State) (d : TaskDef) : Prop :=
  let hold := u.sched.sealRuns = true ∨ (8 ≤ d.code ∧ (u.sched.hold = true ∨ u.bf.joinHold = true))
  (hold → (t.task d.code) = { u.task d.code with held := true } ∧ (∀ j, j ≠ d.code → t.task j = u.task j) ∧
    (8 ≤ d.code → ∀ c, c < 3 → t.fld F.SCH_EVENTS_HELD c = min (u.fld F.SCH_EVENTS_HELD c + 1) F.SCH_EVENTS_HELD.max) ∧ (d.code < 8 → t.regs = u.regs) ∧
    (∀ k, (∀ c, c < 3 → k ≠ R.SCH_EVENTS.key c 0) → t.word k = u.word k) ∧
    t = settle { u with sched := { u.sched with tasks := t.sched.tasks }, regs := t.regs }) ∧
  (¬ hold → u.sched.cur ≠ 31 → t = settle { u with sched := { u.sched with relq := u.sched.relq ++ [(d.code, u.absAngle)] } }) ∧
  (¬ hold → u.sched.cur = 31 → Effective u t d)

/-- What a freeze of task `k` in `w` leaves (R108): the image is the one that the checks of the sessions, queues and controllers leave;
NOW is the tick of the angle; pages of the image that were resident are dropped. -/
def Frozen (w t : State) (k : Nat) : Prop :=
  ∃ v : State, t = settle v ∧ v.task k = { w.task k with input := v.inputNow, now := w.tickNow, frozen := some w.time.count } ∧ (∀ j, j ≠ k → v.task j = w.task j) ∧
    v = { w with out := v.out, sess := v.sess, queues := v.queues, ctls := v.ctls, regs := v.regs, rcd := v.rcd, fc := v.fc, free := v.free
                 sp := v.sp, sched := { w.sched with tasks := v.sched.tasks } } ∧
    ∀ x, (v.spire x).mem = (w.spire x).mem ∧ (v.spire x).keep = (w.spire x).keep ∧ (v.spire x).eng = (w.spire x).eng

/-- What a completed barrier leaves before the schedulers go on (R112, spec/10 R212), where no BRST of the engine block waits for it:
counted by the live slices, no compared engine waits or runs. A BRST that waits is done by then (spec/19 R410). -/
def BarrierPassed (s u : State) (angle : Nat) : Prop :=
  u.flag F.RST_CMD_BUSY = false ∧
  (s.flag F.RST_CMD_BUSY = false →
    (∀ x, u.eng x = if s.isCompared x = true then { s.eng x with barrier := false, run := false } else s.eng x) ∧ u.bf = { s.bf with barrierReady := false } ∧
    (∀ c, c < 3 → u.rd R.BF_BARRIERS c = if s.bf.sliceIso.get c then s.rd R.BF_BARRIERS c else min (s.rd R.BF_BARRIERS c + 1) 0xFFFFFFFF) ∧
    u.time.angle = max s.time.angle (min angle 65535) ∧ u.time.count = s.time.count ∧ u.mode = s.mode ∧
    u.sched = { s.sched with tsel := [], xsel := [] } ∧ ∀ x, (u.spire x).mem = (s.spire x).mem ∧ (u.spire x).keep = (s.spire x).keep)

/-- What a seal leaves before the held releases (R117, spec/09 R192, R193, spec/15 R344). -/
def Sealed (s u : State) : Prop :=
  u.pair.snapSeq = (s.pair.snapSeq + 1) % 2 ^ 32 ∧ u.sched.sealRuns = false ∧ u.sched.sealDone = true ∧ u.sched.hold = false ∧ u.mode = s.mode ∧
  u.sched.sweepSeal = (if s.sweepMode = true then some s.absAngle else s.sched.sweepSeal) ∧
  (∀ x, s.isCompared x = true → (u.spire x).pg.copying = true ∧ (∀ q ∈ (u.spire x).pg.slots, q.dirty = false) ∧
    ∃ n, (u.spire x).pg.snaps = (n :: (s.spire x).pg.snaps).take 64 ∧ n.seq = u.pair.snapSeq ∧ n.count = s.time.count ∧ n.mem = (s.spire x).mem ∧ n.keep = (s.spire x).keep ∧
      n.sess = u.sess ∧ n.txSeq = s.txSeq) ∧
  (∀ x, (u.spire x).mem = (s.spire x).mem ∧ (u.spire x).keep = (s.spire x).keep) ∧ (∀ j, u.task j = s.task j)

/-! ### Intake, commands and the boundary of the token keep (spec/06 R133, R152, R153; spec/07 R158 to R169, R172) -/

/-- R133: the intake takes what has been received up to the input angle of the first task released, or the sweep's start. -/
def State.intakeLimit (s : State) : Nat := match s.sched.firstRel with | some e => e.2 | none => s.absAngle

/-- What has been received later waits for the next intake. -/
def State.keptEvents (s : State) : List (Nat × KEvent) := s.kevents.filter (fun e => decide (s.intakeLimit < e.1))

/-- A new intake of this cycle finds nothing but the events `ev`: no timer at its limit, no query that waits, no injection. -/
def IntakeOf (s : State) (ev : List KEvent) : Prop :=
  s.mode.cur.runs = true ∧ s.img.isSome = true ∧ s.sched.intake = false ∧ (s.kevents.filter (fun e => decide (e.1 ≤ s.intakeLimit))).map Prod.snd = ev ∧ s.fc.inject = [] ∧ s.expiredTimers = [] ∧ ∀ x, (s.spire x).keep.bt.queries = []

/-- A record that R158 takes in: three valid check values, for this module, from an admitted module that is not fenced, with a higher RSEQ,
fresh, about the boundary token k. -/
def TakenIn (s : State) (r : BRec) (k : Nat) : Prop :=
  r.cv = triSig s.content.ring.poly r.dst r.rseq r.body ∧ r.dst = s.kctx.own ∧ s.kctx.admitted.contains r.src = true ∧ s.kctx.tokenOf r.element = some k ∧
  s.time.count ≤ r.stamp / 65536 + ((s.content.peers.find? (fun d => d.addr == r.src)).map PeerDef.tFresh).getD 4 ∧
  ∀ x, s.isCompared x = true → (s.spire x).keep.bt.fences.contains (r.src, r.epoch) = false ∧ Sparse.get (fun _ => 0) (s.spire x).keep.bt.rseqRx r.src < r.rseq

/-- The change-log entry of an accepted write of KP_CMD, answered. -/
def State.kpNoted (s : State) (c : Svc) (x : SvcSess) (a : Nat) : State :=
  s.noted c x 1 (spireMask s.compared) (R.KP_CMD.key 0 0) (s.rd R.KP_CMD s.lead) a 0

/-- The timer `tm` of token k has reached its limit, in a mode in which tasks run; every compared spire holds token k and can read it. -/
def TimerDue (s : State) (kind : BtTimerKind) (k : Nat) (tm : BtTimer) : Prop :=
  s.mode.cur.runs = true ∧ s.img.isSome = true ∧ s.expiredTimers.find? (fun t => decide (t.kind = kind) && t.token == k) = some tm ∧ tm.token = k ∧ tm.kind = kind ∧
  ∀ x, s.isCompared x = true → k < (s.spire x).keep.tokens.length ∧ ((s.spire x).keep.token k).bad = false

/-- What every expiry leaves in the compared spires: the timer is gone, other tokens stand, the expiry is counted. -/
def TimerTaken (s t : State) (kind : BtTimerKind) (k : Nat) : Prop :=
  ∀ x, x < 3 → s.isCompared x = true → (∀ m ∈ (t.spire x).keep.bt.timers, ¬ (m.kind = kind ∧ m.token = k)) ∧ (∀ j, j ≠ k → (t.spire x).keep.token j = (s.spire x).keep.token j) ∧
    t.fld F.BT_TOCNT_EXPIRED x = min (s.fld F.BT_TOCNT_EXPIRED x + 1) F.BT_TOCNT_EXPIRED.max

/-- Queries of token k to the modules concerned wait (R163). -/
def QueriesWait (s t : State) (k : Nat) (withdraw : Bool) : Prop :=
  ∀ x, x < 3 → s.isCompared x = true → ∀ a ∈ s.kctx.concerned (s.spire x).keep k, ∃ b, (k, a, b) ∈ (t.spire x).keep.bt.queries ∧ (withdraw = true → b = true)

/-- Token k of the compared spires has RECON set and is otherwise the token it was, but for GEN and CRC (R162, R127). -/
def ReconSet (s t : State) (k : Nat) : Prop :=
  ∀ x, x < 3 → s.isCompared x = true → ∃ g c, (t.spire x).keep.token k = { (s.spire x).keep.token k with recon := true, gen := g, crc := c }

/-! ### Pager, banks and image load (spec/09, spec/03) -/

/-- The pager state of spire x. -/
def State.pgOf (s : State) (x : Nat) : PagerSt := (s.spire x).pg

/-- Only the pager of spire x, and registers, differ: memories, keep and engine of every spire stand. -/
def PagerOnly (s t : State) (x : Nat) : Prop :=
  (∀ y, y < 3 → (t.spire y).mem = (s.spire y).mem ∧ (t.spire y).keep = (s.spire y).keep ∧ (t.spire y).eng = (s.spire y).eng ∧ (y ≠ x → t.pgOf y = s.pgOf y)) ∧
  t = settle { s with out := [], sp := t.sp, regs := t.regs }

/-- The page that the fill channel of spire x serves (R186): the fill in progress, else the first request. -/
def State.channelOf (s : State) (x : Nat) : Option PageId :=
  if s.isCompared x then (s.pgOf x).filling <|> (s.fillWants x).head? else (s.pgOf x).filling

/-- A fill of `page` may end in spire x now (R186, R187, R190). -/
def FillDue (s : State) (x : Nat) (page : PageId) : Prop :=
  x < 3 ∧ s.img.isSome = true ∧ s.mode.cur.runs = true ∧ s.channelOf x = some page ∧ s.fc.inject = [] ∧ ∀ q ∈ (s.pgOf x).slots, q.page ≠ page

/-- A fill has ended in spire x (R179, R190): counted, the channel goes on to its next request. -/
def Filled (s t : State) (x : Nat) : Prop :=
  t.rd R.PG_FILLS x = min (s.rd R.PG_FILLS x + 1) 0xFFFFFFFF ∧ (t.pgOf x).filling = (if s.isCompared x then (t.fillWants x).head? else none)

/-- The slots that may give way in spire x (R188). -/
def State.mayGoOut (s : State) (x : Nat) (q : PgSlot) : Prop := q ∈ (s.pgOf x).slots ∧ q.pinned = false ∧ q.dirty = false ∧ s.inWindow x q.page = false

/-- R195: `n` collisions of the pager port in bank b of spire x, counted while the engine runs. -/
def Collided (s t : State) (x b n : Nat) : Prop :=
  t.fld F.BANK_STAT_COLL b x = if s.sched.cur = 31 then s.fld F.BANK_STAT_COLL b x else min (s.fld F.BANK_STAT_COLL b x + n) F.BANK_STAT_COLL.max

/-! ### Belfry (spec/10) -/

/-- Three spires and three slices compare, and no injection and no resetting reaction interferes. -/
def Comparing3 (s : State) : Prop :=
  s.comparing = true ∧ s.compared = [0, 1, 2] ∧ s.liveSlices = [0, 1, 2] ∧ s.fc.inject = [] ∧ NoResets s

/-- Spire x has been isolated from three compared ones with `others` left running as they were (R217, R222): its comparison-minority source
stands, and ACTIVE has become ACTIVE-2OO2. -/
def IsolatedFrom3 (s t : State) (x : Nat) : Prop :=
  t.bf.spst = s.bf.spst.set x .selftest ∧ t.bf.streams.get x = [] ∧ (t.src (24 * x + 10)).cond = true ∧ t.sched.noDelta = true ∧
  t.mode.cur = (if s.mode.cur = .active then .active2oo2 else s.mode.cur) ∧ (∀ y, y < 3 → y ≠ x → t.spire y = s.spire y) ∧ (t.spire x).mem = SMem.empty ∧ (t.spire x).keep = KeepSt.empty

/-- A module that finds no majority stops (R220, R405): the vote is zero, the module is in SAFE-HALT, or in ISOLATED where the source latches. -/
def NoMajorityLeft (s t : State) : Prop :=
  t.bf.stopped = true ∧ t.bf.vote = 0 ∧ t.io.word = 0 ∧ t.bf.barrierReady = false ∧ t.bf.spst = s.bf.spst ∧ (t.src 75).cond = true ∧
  t.mode.cur = (if (s.src 75).st = .latched ∨ ((s.src 75).st = .clear ∧ s.recLimit 75 ≤ (s.src 75).winCnt) then .isolated else .safeHalt)

/-- A spire's self-test in progress ends now without resetting reactions, in no trial. -/
def Testing (s : State) (x : Nat) : Prop := x < 3 ∧ s.bf.spst.get x = .selftest ∧ NoResets s ∧ s.trial = false

/-- A self-test passed (R200, R223, spec/20 R427): no bank is faulty, at most 64 corrected words, the measured start of the spire ended with
the tallies of the compared ones. -/
def TestPassed (s : State) (o : SpireTest) : Prop :=
  let u := (State.mapRows { s with out := [] } o.spire o.rows)
  let v := u.measuredStart o.spire o.start
  4 ≤ u.testsPassed o ∧ v.startEnds o.start = true ∧ v.talliesRepeat o.spire = true

/-- The other spires are compared, or wait, as before, and the mode stands. -/
def OthersStand (s t : State) (x : Nat) : Prop :=
  t.mode = s.mode ∧ ∀ y, y < 3 → y ≠ x → t.bf.spst.get y = s.bf.spst.get y ∧ (t.spire y).mem = (s.spire y).mem ∧ (t.spire y).keep = (s.spire y).keep

/-! ### Pair operation (spec/11) -/

/-- A chunk of this module's partner with three valid check values (R240, R242). -/
def GoodChunk (s : State) (k : Chunk) : Prop :=
  k.cv = k.cvOf s.content.ring.poly s.content.ring.addrA ∧ k.src = s.fld F.PAIR_CONF_PARTNER ∧ 1 ≤ k.kind ∧ k.kind ≤ 4

/-- The witnesses seen now and in the round before are a majority, or neither is (R248, R249). -/
def Witnessed (s : State) (b : Bool) : Prop := s.witMajority s.pair.witNow = b ∧ s.witMajority s.pair.witPrev = b

/-- The pair state but for the vital parts computed ahead, whose delay a change of NAK or of the mode starts (spec/19 R418). -/
def PairIs (t : State) (p : PairSt) : Prop := t.pair = { p with pre := t.pair.pre } ∧ (p.pre = none → t.pair.pre = none)

/-! ### Dytre ring (spec/12, spec/13) -/

/-- Ring `b` (false: α) has a node of its own here. -/
def OwnNode (s : State) (b : Bool) : Prop := s.img.isSome = true ∧ (b = true → s.betaIndep = true)

/-- Only the ring's state and registers differ, and what is forwarded. -/
def RingOnly (s t : State) : Prop := t = settle { s with out := t.out, ring := t.ring, ringB := t.ringB, regs := t.regs }

/-- The vital part of a frame passes the checks of R276 here, as the first of its slot in this round (R260). -/
def VitalPasses (s : State) (h : RingHdr) (v : VitalPart) : Prop :=
  v.cv = s.vitalCv h.round v.bytes ∧ s.slotOwner h.beta h.slot = some h.src ∧ h.countL = s.time.count % 2 ^ 32 ∧ h.round = (s.node h.beta).round ∧
  s.slotTaken h.beta h.slot = false

/-- Half-microsecond slots of the schedule in use, in ns. -/
def State.slotNs (s : State) (b : Bool) : Nat := ((s.ringSched b).map (fun (g : RingSched) => g.slotHalf * 500)).getD 0

/-- R262, R263, R278, R281, R282: rounds and own frames. -/
def RoundsAndOwnFrames : Prop :=
  ∀ (s : State),
    (∀ (o : RoundOp), OwnNode s o.beta → s.tbMs ≠ 0 → Completes (.roundStart o) s (fun t =>
      t.time.angle = max s.time.angle (min (s.roundAngle o.round) 65535) ∧ t.time.count = s.time.count ∧ t.img = s.img ∧
      (t.node o.beta).round = o.round ∧ (t.node o.beta).heardPrev = (s.node o.beta).heard ∧ (t.node o.beta).heard = [] ∧ (t.node o.beta).refsPrev = (s.node o.beta).heardRefs ∧
      (t.node o.beta).heardRefs = [] ∧ (t.node o.beta).best = none ∧ (t.node o.beta).txClosed = false ∧ (t.node o.beta).resBytes = 0 ∧ (t.node o.beta).msc = 1 ∧ (t.node o.beta).slotSeen = [] ∧
      (o.beta = false → s.mode.cur ≠ .integrate →
        t.pair.missRounds = if (s.ring.heard ++ (if s.betaIndep then s.ringB.heard else [])).contains (s.fld F.PAIR_CONF_PARTNER) then 0 else s.pair.missRounds + 1) ∧
      (∀ k a, (s.node o.beta).st ≠ .listen → (s.node o.beta).st ≠ .coldstart → s.slotOwner o.beta k = some a → a ≠ s.own o.beta →
        Sparse.get (fun _ => (0, 0, 0, 0)) (t.counts o.beta).slots k =
          (match (s.counts o.beta).seen k with | none => slotEmpty | some .accepted => id | some .invalid => slotInvalid | some .cut => slotTrunc)
            (Sparse.get (fun _ => (0, 0, 0, 0)) (s.counts o.beta).slots k)) ∧
      (∀ p, p < 4 → Nat.ble 2 p = o.beta → t.ring.portSilent.getD p 0 = if o.frames.getD p false then 0 else s.ring.portSilent.getD p 0 + 1))) ∧
    (∀ b k, OwnNode s b → s.ownsSlot b k = true → (s.node b).txClosed = false → (s.node b).mute = false →
      let reference := s.tmRank b == some k && s.eligible b
      ((s.node b).st = .sync → (s.node b).admitted = true ∨ (reference = true ∧ s.isMaster b = true) → Completes (.staticSlotTransmit b k) s (fun t => t.mode = s.mode ∧
        ∃ v, .staticFrame (s.txHead b) k (if reference then some (s.ownBlock b k) else none) v ∈ t.out ∧ v.pair = s.ownStatus b ∧ v.exports = s.exportNow b ∧
          v.cv = s.maskCv (s.vitalCv (s.node b).round v.bytes))) ∧
      (((s.node b).st = .sync ∧ (s.node b).admitted = false ∧ (reference = false ∨ s.isMaster b = false)) ∨ ((s.node b).st = .integrate ∧ (s.node b).announcing = true) →
        Completes (.staticSlotTransmit b k) s (fun t => (∃ hwid id cv, t.out = [.integrationFrame (s.txHead b) k hwid id s.time.mark s.serial cv]) ∧
          t = settle { s with out := t.out, regs := t.regs }))) ∧
    (∀ b k, s.img.isSome = true → s.ownsSlot b k = true →
      (s.node b).txClosed = true ∨ (s.node b).mute = true ∨ ((s.node b).st ≠ .sync ∧ ((s.node b).st ≠ .integrate ∨ (s.node b).announcing = false)) →
      Completes (.staticSlotTransmit b k) s (fun t => t = settle { s with out := [] })) ∧
    (∀ (d : DynOp) g n l, OwnNode s d.beta → s.ringSched d.beta = some g → d.pos ≠ 0 → g.positions[d.pos - 1]? = some (s.own d.beta, 0) → s.quotesFor d.beta = [] → d.bytes = n :: l → n ≤ 4128 →
      let u := State.each { s with out := [] } d.seen (fun s e => s.seeMini d.beta e)
      let r := u.node d.beta
      r.st = .sync → r.admitted = true → r.mute = false → r.txClosed = false → r.msc = d.pos → r.sfdNow = false → r.sfdLast = false →
      Completes (.dynamicTransmit d) s (fun t => t = settle { u with out := t.out, ring := t.ring, ringB := t.ringB, regs := t.regs } ∧
        (n + 44 ≤ d.roomBytes → t.out = u.out ++ [.dynamicFrame (u.txHead d.beta) d.pos n true] ∧ (t.node d.beta).msc = d.pos + 1 ∧ ∀ k, t.word k = s.word k) ∧
        (d.roomBytes < n + 44 → t.out = u.out ∧ t.ring = u.ring ∧ t.ringB = u.ringB ∧ t.fld F.RG_DYN_DEFER = min (s.fld F.RG_DYN_DEFER + 1) F.RG_DYN_DEFER.max))) ∧
    (∀ (d : DynOp), OwnNode s d.beta → d.pos = 0 →
      (d.seen = [.idle] → Completes (.dynamicTransmit d) s (fun t => RingOnly s t ∧ t.regs = s.regs ∧ t.out = [] ∧ (t.node d.beta).msc = (s.node d.beta).msc + 1)) ∧
      (∀ p a q last, d.seen = [.frame p a q last] → Completes (.dynamicTransmit d) s (fun t => RingOnly s t ∧ t.regs = s.regs ∧ (t.node d.beta).msc = if last then q + 1 else q)))

/-- R260, R265, R269, R274 to R278: frames received. -/
def FramesAreTaken : Prop :=
  ∀ (s : State), s.fc.inject = [] →
    (∀ (f : RefFrame) g, OwnNode s f.hdr.beta → f.hdr.ok 2 = true → s.content.scheds[f.hdr.sched]? = some g → f.hdr.src ≠ s.own f.hdr.beta → s.ownsSlot f.hdr.beta f.hdr.slot = false →
      (s.node f.hdr.beta).best = none →
      let b := f.hdr.beta
      let angle := s.roundAngle f.hdr.round + angleOf (f.block.rank * (g.slotHalf * 500) + 556) (s.tbMs * 1000000)
      ((s.node b).st = .listen ∨ (s.node b).st = .coldstart → f.tP.isSome = true ∨ f.tS.isSome = true → Completes (.referenceFrame f) s (fun t =>
        (t.node b).st = .integrate ∧ (t.node b).tm = f.hdr.src ∧ (t.node b).sched = f.hdr.sched ∧ (t.node b).round = f.hdr.round ∧ (t.node b).best = some f.ref ∧
        (b = false → s.time.atValid = false → t.time.count = (f.count + angle / 65536) % 2 ^ 48 ∧ t.time.angle = angle % 65536 ∧ t.time.tbNs = f.block.tbNs ∧ t.time.atValid = false) ∧
        (b = false → t.wv.lock = .follow ∧ t.wv.master = false ∧ t.time.adopt = true) ∧ t.mode = s.mode ∧ t.pair = s.pair)) ∧
      ((s.node b).st = .sync → s.trial = false → NoResets s → Completes (.referenceFrame f) s (fun t => (t.node b).best = some f.ref ∧ f.hdr.src ∈ (t.node b).heardRefs ∧
        (t.node b).sm = f.block.smAddr ∧ (b = false → s.isMaster false = false → t.wv.ringTb = f.block.tbNs ∧ t.wv.mhold = f.block.hold)))) ∧
    (∀ (f : StaticFrame) a, OwnNode s f.hdr.beta → s.slotOwner f.hdr.beta f.hdr.slot = some a → a ≠ s.own f.hdr.beta → (s.counts f.hdr.beta).seen f.hdr.slot = none →
      let b := f.hdr.beta
      (f.trunc = true → Completes (.staticFrame f) s (fun t => RingOnly s t ∧ t.regs = s.regs ∧ (t.counts b).seen f.hdr.slot = some .cut)) ∧
      (f.trunc = false → f.hdr.ok 1 = false → Completes (.staticFrame f) s (fun t => RingOnly s t ∧ t.regs = s.regs ∧ (t.counts b).seen f.hdr.slot = some .invalid)) ∧
      (f.trunc = false → f.hdr.ok 1 = true → VitalPasses s f.hdr f.vital → (s.node b).st = .sync → s.isAdmitted b a = false → Completes (.staticFrame f) s (fun t => RingOnly s t ∧
        f.hdr.src ∈ (t.node b).heard ∧ (t.counts b).seen f.hdr.slot = some .accepted ∧ t.rd R.RG_STATIC = min (s.rd R.RG_STATIC + 1) 0xFFFFFFFF)) ∧
      (f.trunc = false → f.hdr.ok 1 = true → VitalPasses s f.hdr f.vital → (s.node b).st = .sync → s.isAdmitted b a = true → s.mode.cur.track = false → f.vital.pair.handover = false →
        s.mode.cur ≠ .standby → Completes (.staticFrame f) s (fun t => f.hdr.src ∈ (t.node b).heard ∧ (t.counts b).seen f.hdr.slot = some .accepted ∧
          ((t.node b).peer f.hdr.src).mode = f.vital.pair.mode ∧ t.mode = s.mode ∧
          (s.content.pair.isSome = true → f.hdr.src = s.fld F.PAIR_CONF_PARTNER → t.pair = { s.pair with partner := f.vital.pair, missRounds := 0 }) ∧
          (s.content.pair.isNone = true → t.pair = s.pair) ∧ t.kevents = s.kevents)))

/-! ### Object-controller buses (spec/14) -/

/-- What channel ch counts of a frame that it takes in (R316, R319, R325). -/
def CanSeen (s t : State) (f : CanRx) : Prop :=
  t.rd R.CAN_RXCNT f.ch = min (s.rd R.CAN_RXCNT f.ch + 1) 0xFFFFFFFF ∧ t.fld F.CAN_ERR_REC f.ch = s.fld F.CAN_ERR_REC f.ch - 1 ∧
  t.fld F.CAN_STATUS_BUS f.ch = (if 128 ≤ s.fld F.CAN_ERR_TEC f.ch then 1 else 0) ∧
  t.fld F.CAN_REJ_STAMP f.ch = (if (s.stampAt f.ch f.sof f.prevRound).isNone then min (s.fld F.CAN_REJ_STAMP f.ch + 1) F.CAN_REJ_STAMP.max else s.fld F.CAN_REJ_STAMP f.ch)

/-- The frame is counted and dropped, and field `r` counts the rejection. -/
def CanDropped (s t : State) (f : CanRx) (r : Field) : Prop :=
  CanSeen s t f ∧ t.fld r f.ch = min (s.fld r f.ch + 1) r.max ∧ t = settle { s with out := [], regs := t.regs }

/-- The frame has the form of a status message of controller d (R317, R319). -/
def StatusFormed (c : CanChDef) (d : CtlDef) (f : CanRx) : Prop :=
  f.fd = true ∧ (c.data = 0 ∨ f.brs = true) ∧ f.data.length = d.len ∧ vitalLen d.len = true ∧ beNat (f.data.take 1) = 2 ∧
  beNat ((f.data.drop 1).take 1) = 128 + d.addr

/-- SEQ and ECHO of a status message, its check values and those that R332 asks for. -/
def statusSeq (f : CanRx) : Nat := beNat ((f.data.drop 2).take 4)
def statusEcho (f : CanRx) : Nat := beNat ((f.data.drop 6).take 2)
def statusCv (f : CanRx) : Three Nat :=
  let l := f.data.drop (f.data.length - 12)
  ⟨beNat (l.take 4), beNat ((l.drop 4).take 4), beNat ((l.drop 8).take 4)⟩
def statusWant (s : State) (c : CanChDef) (d : CtlDef) (f : CanRx) : Three Nat :=
  c.want (s.link c.ch (128 + d.addr)) (statusSeq f) (f.data.take (f.data.length - 12))

/-- Channel ch has gone bus-off with transmit error count n (R325). -/
def BusOffNow (s t : State) (ch n : Nat) : Prop :=
  (t.chan ch).queue = [] ∧ t.fld F.CAN_STATUS_BUS ch = 2 ∧ t.fld F.CAN_ERR_TEC ch = min n 511 ∧
  t.fld F.CAN_TXQ_DROP ch = min (s.fld F.CAN_TXQ_DROP ch + (s.chan ch).queue.length) F.CAN_TXQ_DROP.max ∧
  (t.src (92 + ch / 8)).cond = true ∧ t.mode = s.mode ∧ ∀ n, n ≠ ch → t.chan n = s.chan n

/-! ### Safe sessions, queues, check-value units, Ethernet ports (spec/15) -/

/-- A frame of session n is looked at: it runs, the spires decide, and no injection is armed (R338). -/
def Heard (s : State) (n : Nat) (d : SessDef) : Prop :=
  n < 64 ∧ (∀ p ∈ d.ports, p < 16) ∧ s.sessDef n = some d ∧ s.mode.cur.sessions = true ∧ s.decides = true ∧ s.fc.inject = []

/-- The frame is counted and rejected in field `r`; the session stands. -/
def FrameDropped (s t : State) (n : Nat) (r : Field) : Prop :=
  t.fld r n = min (s.fld r n + 1) r.max ∧ t = settle { s with out := [], regs := t.regs }

/-- Header, check values and MAC of a frame pass with nonces N_I and N_R (R339 checks 1 to 3). -/
def FramePasses (s : State) (d : SessDef) (f : SFrame) (nI nR : Nat) : Prop :=
  s.headerOk d f = true ∧ 2 ≤ triValid f.cv (f.cvOf d.poly) ∧ f.mac = f.macOf (s.sessKey d) nI nR

/-- A frame that fails check 1, 2 or 3 is counted where that check counts (R339). -/
def FailsCounted (s : State) (i : Instr) (n : Nat) (d : SessDef) (f : SFrame) (nI nR : Nat) : Prop :=
  (s.headerOk d f = false → Completes i s (fun t => FrameDropped s t n F.SSN_REJ_OTHER)) ∧
  (s.headerOk d f = true → triValid f.cv (f.cvOf d.poly) < 2 → Completes i s (fun t => FrameDropped s t n F.SSN_REJ_CHECK)) ∧
  (s.headerOk d f = true → 2 ≤ triValid f.cv (f.cvOf d.poly) → f.mac ≠ f.macOf (s.sessKey d) nI nR → Completes i s (fun t => FrameDropped s t n F.SSN_REJ_MAC))

/-- Session n has entered OPEN by frame f (R338). -/
def OpenedBy (s t : State) (n : Nat) (f : SFrame) (nI nR : Nat) : Prop :=
  t.sessAt n = { s.sessAt n with
    st := .opened, cause := if (s.sessAt n).st = .opened then 3 else (s.sessAt n).cause, nI := nI, nR := nR, txSeq := 1, rxSeq := 1, lastTs := f.ts, lastTsEcho := f.tsEcho, held := [], openAt := s.atNow, dataSeen := false } ∧
  (∀ m, m ≠ n → t.sessAt m = s.sessAt m) ∧ t.fld F.SSN_STATE_OPENS n = min (s.fld F.SSN_STATE_OPENS n + 1) F.SSN_STATE_OPENS.max ∧
  ((s.sessAt n).st ≠ .opened → Recorded s t [s.recOf .sessionOpen srcComms n 0]) ∧
  (∀ k, k ≠ 101 → t.src k = s.src k) ∧ ((t.src 101 = s.src 101) ∨ (∀ m, (t.sessAt m).cause = 1 → (t.sessAt m).st = .opened)) ∧ t.fc = { s.fc with src := t.fc.src }

/-- A frame leaves only where two secure elements give the same tag (R336). -/
def State.sentIf (s : State) (o : Output) : List Output := if s.tagAgreed then [o] else []

/-- What waits in queue q after a message arrives (R343). -/
def Enqueued (s u : State) (q : Nat) (x : Desc) : Prop :=
  (∀ k, k ≠ q → u.queueAt k = s.queueAt k) ∧
  (1 ≤ (s.queueAt q).free → u.queueAt q = { s.queueAt q with descs := (s.queueAt q).descs ++ [x], free := (s.queueAt q).free - 1 } ∧
    u.fld F.QU_CNT_ENQUEUED q = min (s.fld F.QU_CNT_ENQUEUED q + 1) F.QU_CNT_ENQUEUED.max) ∧
  ((s.queueAt q).free = 0 → u.queueAt q = { s.queueAt q with dropped := (s.queueAt q).dropped + 1, fullRec := true } ∧
    u.fld F.QU_CNT_DROPPED q = min (s.fld F.QU_CNT_DROPPED q + 1) F.QU_CNT_DROPPED.max ∧
    ((s.queueAt q).fullRec = false → Recorded s u [s.recOf .queueFull srcComms q 0]))

/-- The state after a message is enqueued, before the event tasks that the queue triggers are released. -/
def EnqueuedThen (s t : State) (q : Nat) (x : Desc) : Prop :=
  ∃ u : State, u = { s with out := [], regs := u.regs, queues := u.queues, rcd := u.rcd } ∧ Enqueued s u q x ∧
    t = settle (if (s.queueAt q).free = 0 then u else u.queueTrigger q)

/-- Unit u shows the value of remainder r (R346, R349). -/
def CvShows (t : State) (u : Nat) (p : CrcParams) (r : Nat) : Prop :=
  t.cvReg u = r ∧ t.rd R.CV_RES_LO u = p.fin r % 2 ^ 32 ∧ t.rd R.CV_RES_HI u = (if p.width ≤ 32 then 0 else p.fin r / 2 ^ 32 % 2 ^ 32)

/-! ### Local safe inputs and outputs (spec/16) -/

/-- Output n carries its own latch with a cause, and both its switches are open (R367). -/
def LatchedNow (t : State) (n cause : Nat) : Prop :=
  t.outLatched n = true ∧ t.fld F.IO_OST_CAUSE n = cause ∧ t.energised n = false

/-- Output n exists and is free of its own latch. -/
def LatchFree (s : State) (n : Nat) : Prop := n < 16 ∧ s.io.outs.length = 16 ∧ bitOf (s.rd R.IO_OLAT) n = false

/-- Output n. -/
def State.outAt (s : State) (n : Nat) : OutSt := s.io.outs.getD n OutSt.idle

/-- `u` is `s` when the clock has run on to `ns`, if that lay ahead: only the times differ. -/
def AtClock (s u : State) (ns : Nat) : Prop :=
  u = { s with out := [], time := u.time, free := u.free } ∧ u.time.clockNs = max s.time.clockNs ns ∧
  u.time = { s.time with clockNs := u.time.clockNs, civil := u.time.civil, civilOff := u.time.civilOff }

/-- `u` is `s` when the next window of the sample grid begins (spec/02 R47): only the times and the grid's last window differ. -/
def AtWindow (s u : State) : Prop :=
  u = { s with out := [], time := u.time, free := u.free, wv := { s.wv with winNs := some s.nextWindow } } ∧
  u.time.clockNs = max (max s.time.clockNs s.time.cycleNs) s.nextWindow ∧
  u.time = { s.time with clockNs := u.time.clockNs, angle := u.time.angle, civil := u.time.civil, civilOff := u.time.civilOff } ∧ s.time.angle ≤ u.time.angle

/-- R352, R355, R356, R358 to R360, R371, R109, spec/03 R58: one window of every input, of every pair and of RESTART_IN, before its
edges fire event tasks. -/
def WindowTaken (s u : State) (w : WindowReads) : Prop :=
  (s.ioMap = none → u.io.inputs = s.io.inputs.map (fun _ => InSt.idle)) ∧
  (s.ioMap.isSome = true → u.io.inputs = s.io.inputs.zipIdx.map (fun (e : InSt × Nat) => e.1.window (s.inDef e.2) (windowValue (s.inDef e.2) (w.inputs.getD e.2 [])))) ∧
  (∀ m p, s.ioMap = some m → p ∈ m.pairs → (m.pairs.map Prod.fst).Nodup → p.1 < s.io.pairs.length →
    u.io.pairs.getD p.1 PairInSt.idle = ((s.io.pairs.getD p.1 PairInSt.idle).window (p.2 * 10000000) s.time.clockNs
      (u.io.inputs.getD (2 * p.1) InSt.idle).val (u.io.inputs.getD (2 * p.1 + 1) InSt.idle).val).1) ∧
  (let v := lastOn 8 (w.restart.map (readClass false));
    (v = s.io.restart → u.io.restart = v ∧ u.io.restartCnt = 0 ∧ u.io.edge = s.io.edge) ∧
    (v ≠ s.io.restart → s.io.restartCnt < 4 → u.io.restart = s.io.restart ∧ u.io.restartCnt = s.io.restartCnt + 1 ∧ u.io.edge = s.io.edge) ∧
    (v ≠ s.io.restart → 4 ≤ s.io.restartCnt → u.io.restart = v ∧ u.io.restartCnt = 0)) ∧
  ((∃ e ∈ u.io.inputs.zipIdx, e.1.wb = true ∧ s.wbSuppressed e.2 = false) → (u.src 112).cond = true) ∧
  ((∀ e ∈ u.io.inputs.zipIdx, e.1.wb = true → s.wbSuppressed e.2 = true) → (s.src 112).force = false → (u.src 112).cond = false) ∧
  u.mode = s.mode ∧ u.io.outs = s.io.outs ∧ u.io.word = s.io.word

/-! ### Event recorder (spec/18) -/

/-- Nothing has been discarded since the last summaries (R395). -/
def NoDrops (s : State) : Prop := s.rcd.sinceIntake.any (fun n => n != 0) = false ∧ s.rcd.sinceAlarm.any (fun n => n != 0) = false

/-! ### Start, self-test, power and supplies (spec/19, spec/01) -/

/-- R420, R26: the bounds of a feed. -/
def feedAt (t : State) (f : Nat) : FeedSt := if f = 0 then t.pwr.feedA else t.pwr.feedB

/-! ### Quotes (spec/20) -/

/-- What R430 latches of the module for a quote. -/
def headNow (s : State) : QuoteHead :=
  ⟨s.mode.cur.code, s.atNow, match s.img with | some m => m.id | none => ⟨0, 0⟩, match s.img with | some m => m.ring.addrA | none => 0xFFFF,
    match s.img with | some m => m.pairAddr | none => 0xFFFF⟩

/-- The quote `o` answers the request q: who signed, with which tallies, and what was latched (R429, R430). -/
def QuoteFor (s t : State) (q : QuoteReq) (h : QuoteHead) (o : Quote) : Prop :=
  o.path = q.path ∧ o.nonce = q.nonce ∧ o.head = h ∧ bitOf o.qflags 0 = s.flag F.HW_ID_BENCH ∧
  bitOf o.qflags 1 = (threeIdx s.quotes).any (fun x => s.tally x 8 != 0) ∧
  ∀ x, x < 3 → bitOf o.signed x = s.quotes x ∧ (s.quotes x = true → o.tallies.get x = (List.range 8).map (fun k => s.tally x (k + 1))) ∧
    (s.quotes x = false → o.tallies.get x = List.replicate 8 0 ∧ o.sigs.get x = 0) ∧
    t.fld F.ATT_QCNT_SIGNED x = if s.quotes x then min (s.fld F.ATT_QCNT_SIGNED x + 1) F.ATT_QCNT_SIGNED.max else s.fld F.ATT_QCNT_SIGNED x

/-- A request that came over a ring. -/
def QuotePath.onRing : QuotePath → Bool
  | .ring _ _ => true
  | _ => false

/-- What the gateway copies to the other ring (spec/13 R302). -/
def State.relayed (s : State) (v : RingVia) (o : Output) : List Output :=
  if s.relays v.gws = true ∧ v.dst / 256 = s.own (!v.beta) / 256 ∧ v.dst / 256 ≠ s.own v.beta / 256 then [o] else []

/-- An admission message of this kind, cause and subject has been sent. -/
def AdmissionSent (t : State) (msg cause subject : Nat) : Prop := ∃ a, .admission a ∈ t.out ∧ a.msg = msg ∧ a.cause = cause ∧ a.subject = subject

/-! ### Updates and on-line change (spec/21) -/

/-- Spire y runs its management core (R442). -/
def MgmtRuns (s : State) (y : Nat) : Prop := y < 3 ∧ s.bf.spst.get y ≠ .selftest ∧ s.bf.spst.get y ≠ .latched

/-- The stage and UPD_FAIL that a verification leaves (R439). -/
def VerifiedAs (s t : State) (m : Manifest) (v : VerifyOp) (auditor : Bool) : Prop :=
  (s.verify m v auditor = none → t.upd.stage = .verified ∧ t.rd R.UPD_FAIL = 0 ∧ t.upd.newTb = v.image.image.timing.tbMs) ∧
  (∀ f, s.verify m v auditor = some f → t.upd.stage = .complete ∧ t.rd R.UPD_FAIL = (f.code + f.img % 256 * 256 + f.spires * 65536 + f.part % 16 * 1048576) % 2 ^ 32) ∧
  (m.formBad = true → t.upd.stage = .complete ∧ t.rd R.UPD_FAIL = 1 + 7 * 65536) ∧
  t.upd.secVer = v.counters ∧ t.upd.boot = s.upd.boot ∧ t.mode = s.mode

/-- Nothing is staged, received or armed on line (R448). -/
def NothingStaged (t : State) : Prop :=
  t.upd.staged = none ∧ t.upd.target = none ∧ t.upd.olNext = Three.all 0 ∧ t.rd R.STG_ID_LO = 0 ∧ t.rd R.STG_ID_HI = 0 ∧ t.rd R.STG_STATUS = 0 ∧
  t.rd R.OL_TARGET = 0 ∧ t.fld F.OL_STATUS_STATE = 0

/-- The image place that the boot records name once an armed change is written back (R437, R450). -/
def BackWritten (s t : State) : Prop :=
  (s.upd.target = none → t.upd.boot = s.upd.boot) ∧ (s.upd.target.isSome = true → ∀ y, y < 3 → (t.upd.boot.get y).img = s.upd.backImg ∧ (t.upd.boot.get y).seq = (s.upd.boot.get y).seq + 1)

end Sys2Proof.Machine

open Sys2Proof Sys2Proof.Machine

/-! ### The queue, reset and what holds of every command -/

/-- Every command of the queue stands behind the front one as before, and the front one acts on the rest. -/
def Obligations.StepRunsFrontCommand : Prop :=
  ∀ (c : Instr) (rest : List Instr) (s : State), step { s with pending := c :: rest } = exec c { s with pending := rest }

/-- R30, R417: with nothing waiting the cycle angle runs on by 1 CAU and stays below 65,536 (the model's choice, log entry 10);
a release that waits for a later angle, or for a barrier, goes on waiting. -/
def Obligations.IdleStepAdvancesTheAngle : Prop :=
  ∀ (s : State), s.pending = [] → s.time.angle ≤ 65535 →
    (s.sched.cur ≠ 31 ∨ ∀ e ∈ s.sched.relq, s.time.count * 65536 + s.time.angle + 1 < e.2) →
    ∃ τ f, step s = .next (settle { s with out := [], time := τ, free := f }) ∧ τ.angle = min (s.time.angle + 1) 65535 ∧
      τ.count = s.time.count ∧ s.time.clockNs ≤ τ.clockNs

/-- R14: right after reset every register reads its reset value; those whose reading follows something else than the
register tables' reset value are FC_STATUS (its FOUT bit shows the coil, R379) and the three supply readings (log entry 5). -/
def Obligations.RegistersReadTheirResetValue : Prop :=
  ∀ (k : Nat) (r : Reg), regAt k = some r → r ∉ [R.FC_STATUS, R.SUP_STATUS, R.SUP_FEEDS, R.SUP_HOLDUP] →
    viewReg State.reset k = some (BitVec.ofNat 32 r.reset)

/-- R404, R24, R362, R379: the module starts in BOOT, controls no track, and drives nothing. -/
def Obligations.ResetIsFailSafe : Prop :=
  FailSafe State.reset ∧ State.reset.mode.cur = .boot ∧ State.reset.faultOut = true ∧ State.reset.pending = [] ∧
  (∀ n, State.reset.energised n = false) ∧ State.reset.img = none ∧ ∀ x, (State.reset.eng x).run = false

/-- R6, R24, R231, R362, R367: whatever command comes, and on an idle step, a fail-safe module stays fail-safe. -/
def Obligations.FailSafeKept : Prop := ∀ (s t : State), FailSafe s → step s = .next t → FailSafe t

/-- Every run from reset, whatever commands are put into its queue between its steps, is fail-safe. -/
def Obligations.EveryRunIsFailSafe : Prop :=
  ∀ (q : List Instr), SafeRun { State.reset with pending := q }

/-- R405, R409: from BOOT, SELFTEST, SAFE-HALT, ISOLATED, MAINTENANCE and UPDATE no command leads into control of track, nor to
INTEGRATE, SHADOW or STANDBY. -/
def Obligations.NoCommandTakesTrackFromAHaltedModule : Prop :=
  ∀ (i : Instr) (s t : State), s.mode.cur.haltedOrStarting = true → s.mode.cur ≠ .load → exec i s = .next t →
    t.mode.cur.haltedOrStarting = true

/-- R409: ISOLATED is left only to SAFE-HALT, by the edge reset, or by a reset to BOOT. -/
def Obligations.IsolatedIsLeftOnlyByResets : Prop :=
  ∀ (i : Instr) (s t : State), s.mode.cur = .isolated → exec i s = .next t →
    t.mode.cur = .isolated ∨ t.mode.cur = .boot ∨ (t.mode.cur = .safeHalt ∧ ∃ c, i = .ioRestart c)

/-- Every step keeps the register file and the fault sources canonical, so equal contents are equal data. -/
def Obligations.RegistersStayCanonical : Prop :=
  ∀ (s t : State), step s = .next t → (RegsCanonical s → RegsCanonical t) ∧ (SourcesCanonical s → SourcesCanonical t)

/-- R454: a request whose session, TAG or SEQ fails is discarded without an answer and changes nothing. -/
def Obligations.UnverifiedRequestsAreDiscarded : Prop :=
  ∀ (i : Instr) (c : Svc) (s : State), requestOf i = some c → s.svcFind c = none →
    exec i s = .next (settle { s with out := [] })

/-! ### Logic engine (spec/04) -/

/-- R85, R77: LD, LDN, AND, ANDN, OR, ORN and XOR on every space and modifier of the opcode table. -/
def Obligations.BitLoadsSetAcc : Prop :=
  ∀ (s : State) (o : EngOp), EngineReady s o → Addressable s o false (s.eng o.spire).en → o.sp ∈ [0, 1, 2, 3, 4, 7] →
    (o.sp = 7 → o.idx ≤ 1) →
    (o.md = 0 → Completes (.ld o) s (fun t => BitResult s t o (fun _ b => b))) ∧
    (o.md = 0 → Completes (.ldn o) s (fun t => BitResult s t o (fun _ b => !b))) ∧
    (o.md ≤ 1 → Completes (.andI o) s (fun t => BitResult s t o (fun a b => (a != (o.md == 1)) && b))) ∧
    (o.md ≤ 1 → Completes (.andn o) s (fun t => BitResult s t o (fun a b => (a != (o.md == 1)) && !b))) ∧
    (o.md ≤ 1 → Completes (.orI o) s (fun t => BitResult s t o (fun a b => (a != (o.md == 1)) || b))) ∧
    (o.md ≤ 1 → Completes (.orn o) s (fun t => BitResult s t o (fun a b => (a != (o.md == 1)) || !b))) ∧
    (o.md ≤ 1 → Completes (.xorI o) s (fun t => BitResult s t o (fun a b => (a != (o.md == 1)) != b)))

/-- R85, R77, R78, R102, R103: ST, SET and CLR. -/
def Obligations.BitStoresSetMemory : Prop :=
  ∀ (s : State) (o : EngOp), EngineReady s o → o.sp ∈ [0, 1, 3] → o.md ≤ 1 → ¬ (o.sp = 0 ∧ o.idx = 511) →
    (Addressable s o false (s.eng o.spire).en →
      Completes (.st o) s (fun t => StoreResult s t o (s.eng o.spire).en (fun j => laneIn (s.eng o.spire).acc j != (o.md == 1)))) ∧
    (let m := if o.md = 1 then (s.eng o.spire).en &&& ~~~(s.eng o.spire).acc else (s.eng o.spire).en &&& (s.eng o.spire).acc
     Addressable s o false m →
      Completes (.setI o) s (fun t => StoreResult s t o m (fun _ => true)) ∧
      Completes (.clr o) s (fun t => StoreResult s t o m (fun _ => false)))

/-- R86, R78: EDR and EDF: ACC becomes the edge in every lane of EN, or 0 while FIRST is 1, and P takes the input. (A detector that an
on-line change has just brought in, spec/21 R451, counts as FIRST: none is left here.) -/
def Obligations.EdgesCompareWithPrevious : Prop :=
  ∀ (s : State) (o : EngOp), EngineReady s o → Addressable s o false (s.eng o.spire).en → o.sp ∈ [0, 1] → o.md = 0 →
    ¬ (o.sp = 0 ∧ o.idx = 511) → (s.eng o.spire).freshEdges = [] →
    let e := s.eng o.spire
    let first := fun j => s.bitVal o.spire 0 j 511
    let P := fun (t : State) (f : Bool → Bool → Bool) =>
      (∀ j, j < 8 → laneIn (t.eng o.spire).acc j =
        if laneIn e.en j then (if first j then false else f (laneIn e.acc j) (opBit s o j)) else laneIn e.acc j) ∧
      BitsStored s t o e.en (laneIn e.acc) ∧ Streamed s t o.spire (bitStoreRecs s o e.en (laneIn e.acc)) ∧
      (t.eng o.spire).wacc = e.wacc ∧ (t.eng o.spire).stack = e.stack ∧ (t.eng o.spire).freshEdges = [] ∧ StoreOnly s t o.spire 1 []
    Completes (.edr o) s (fun t => P t (fun a p => a && !p)) ∧ Completes (.edf o) s (fun t => P t (fun a p => !a && p))

/-- R87, R88: IF, ELSE, ENDIF and SKIPZ act on the mask stack and on what follows, and on nothing else. -/
def Obligations.BranchesMoveTheMask : Prop :=
  ∀ (s : State) (o : EngOp), EngineReady s o → o.sp = 0 →
    let e := s.eng o.spire
    let only := fun (t : State) (stack : List (BitVec 8)) => (t.eng o.spire).stack = stack ∧ (t.eng o.spire).acc = e.acc ∧
      (t.eng o.spire).wacc = e.wacc ∧ (t.eng o.spire).freshEdges = e.freshEdges ∧ EngineOnly s t o.spire 1 [] ∧ t.regs = s.regs
    (o.md ≤ 1 → o.idx = 0 → e.stack.length ≤ 16 → Completes (.ifI o) s (fun t =>
      only t ((if o.md = 1 then e.en &&& ~~~e.acc else e.en &&& e.acc) :: e.stack))) ∧
    (∀ top under rest, o.md = 0 → o.idx = 0 → e.stack = top :: under :: rest →
      Completes (.elseI o) s (fun t => only t ((under &&& ~~~top) :: under :: rest)) ∧
      Completes (.endif o) s (fun t => only t (under :: rest))) ∧
    (o.md = 0 → 1 ≤ o.idx → o.idx ≤ 255 → Completes (.skipz o) s (fun t =>
      (t.eng o.spire) = { e with pc := e.pc + 1, clkCycle := e.clkCycle + 1, clkTask := (t.eng o.spire).clkTask, skip := if e.en = 0 then o.idx else 0 } ∧
      t = settle { s with out := [], sp := t.sp } ∧ t.spire o.spire = { s.spire o.spire with eng := t.eng o.spire } ∧ ∀ y, y < 3 → y ≠ o.spire → t.spire y = s.spire y)) ∧
    -- an instruction that SKIPZ passes over changes nothing but the count and the pc
    (∀ (i : Instr) (u : State) (n : Nat), u = s.updEng o.spire (fun e => { e with skip := n + 1 }) → i ∈ engineInstrs o →
      Completes i u (fun t => t = settle ({ u with out := [] }.updEng o.spire (fun e => { e with skip := n, pc := e.pc + 1 }))))

/-- R97: IN and OUT. -/
def Obligations.InputAndOutputMoveWords : Prop :=
  ∀ (s : State) (o : EngOp), EngineReady s o → o.md = 0 → (s.eng o.spire).wacc.length = 8 →
    let x := o.spire
    let e := s.eng x
    let a := addrOf s o true
    (o.sp = 2 → Addressable s o true e.en → Completes (.inI o) s (fun t => WordResult s t o (fun c _ v => (c, v)) ∧
      ∀ j ∈ lanesOf e.en, ∀ i, i < 32 → ((t.eng x).w j).getLsbD i = s.loadBit x 2 (a j + i))) ∧
    (o.sp = 3 → Addressable s o true (e.en &&& e.acc) → Completes (.outI o) s (fun t =>
      (∀ j ∈ lanesOf (e.en &&& e.acc), (∀ i ∈ lanesOf (e.en &&& e.acc), j < i → a i ≠ a j) →
        ∀ i, i < 32 → Sparse.get (fun _ => false) (t.spire x).mem.q (a j + i) = (e.w j).getLsbD i) ∧
      (∀ k, (∀ j ∈ lanesOf (e.en &&& e.acc), ¬ (a j ≤ k ∧ k < a j + 32)) → Sparse.get (fun _ => false) (t.spire x).mem.q k = Sparse.get (fun _ => false) (s.spire x).mem.q k) ∧
      (t.spire x).mem = { (s.spire x).mem with q := (t.spire x).mem.q } ∧
      (t.eng x).acc = e.acc ∧ (t.eng x).wacc = e.wacc ∧ (t.eng x).stack = e.stack ∧ (t.eng x).freshEdges = e.freshEdges ∧ StoreOnly s t x 1 []))

/-- R90 to R94: TON, TOF, TPL and TTST. -/
def Obligations.TimersFollowTheirTable : Prop :=
  ∀ (s : State) (o : EngOp), EngineReady s o → Addressable s o true (s.eng o.spire).en → o.sp = 4 → o.md = 0 → (s.eng o.spire).wacc.length = 8 →
    let x := o.spire
    let e := s.eng x
    let a := addrOf s o true
    let old := fun j => Sparse.get (fun _ => (0 : Word)) (s.spire x).mem.t (a j)
    let P := fun (kind : Nat) (t : State) => ∃ w : Nat → Word,
      (∀ j ∈ lanesOf e.en, TimerMoves kind s.nowTick (e.w j).toNat (laneIn e.acc j) (old j) (w j)) ∧
      (∀ j ∈ lanesOf e.en, (∀ i ∈ lanesOf e.en, j < i → a i ≠ a j) → Sparse.get (fun _ => (0 : Word)) (t.spire x).mem.t (a j) = w j) ∧
      (∀ k, (∀ j ∈ lanesOf e.en, k ≠ a j) → Sparse.get (fun _ => (0 : Word)) (t.spire x).mem.t k = Sparse.get (fun _ => (0 : Word)) (s.spire x).mem.t k) ∧
      (t.spire x).mem = { (s.spire x).mem with t := (t.spire x).mem.t } ∧
      (∀ j, j < 8 → laneIn (t.eng x).acc j = if laneIn e.en j then timerDone (w j) && !startsTooLong kind (e.w j).toNat (laneIn e.acc j) (old j) else laneIn e.acc j) ∧
      (t.eng x).wacc = e.wacc ∧ (t.eng x).stack = e.stack ∧ (t.eng x).freshEdges = e.freshEdges ∧
      Streamed s t x ((lanesOf e.en).map (fun j => wrec 5 (a j) (2 ^ j) (w j).toNat)) ∧
      t.rd R.LE_PRESET_CNT x = min (s.rd R.LE_PRESET_CNT x +
        ((lanesOf e.en).filter (fun j => startsTooLong kind (e.w j).toNat (laneIn e.acc j) (old j))).length) 0xFFFFFFFF ∧
      Passed s t x 2 ∧ (t.spire x).keep = (s.spire x).keep ∧ RegsKept s t (pagerKeys x ++ fifoKeys x ++ [R.LE_PRESET_CNT.key x 0]) ∧
      t = settle { s with out := t.out, sp := t.sp, regs := t.regs, free := t.free, fc := t.fc, rcd := t.rcd, bf := { s.bf with streams := t.bf.streams } }
    (NoResetReaction s (24 * x + 17) → Completes (.ton o) s (P 0) ∧ Completes (.tof o) s (P 1) ∧ Completes (.tpl o) s (P 2)) ∧
    Completes (.ttst o) s (fun t =>
      (∀ j, j < 8 → laneIn (t.eng x).acc j = if laneIn e.en j then timerDone (old j) else laneIn e.acc j) ∧
      (∀ j ∈ lanesOf e.en, timerRun (old j) = true → ¬ expired s.nowTick (old j) → (((t.eng x).w j).toNat : Int) = ((timerExp (old j) : Int) - s.nowTick) % 2 ^ 30) ∧
      (∀ j ∈ lanesOf e.en, timerRun (old j) = false ∨ expired s.nowTick (old j) → (t.eng x).w j = 0) ∧
      (∀ j, j < 8 → laneIn e.en j = false → (t.eng x).w j = e.w j) ∧ (t.eng x).stack = e.stack ∧ (t.eng x).freshEdges = e.freshEdges ∧ EngineOnly s t x 2 [])

/-- R98, R99: EMIT and FIN. -/
def Obligations.EmitAndFinialFollowTheirRules : Prop := EmitMarks ∧ FinialEnds

/-- R89, R102, R103: word instructions and WST. -/
def Obligations.WordsAreComputedAndStoredInTheLanes : Prop := WordResults ∧ WordStores

/-! ### Keep instructions (spec/04 R95, spec/06 R130 to R139) -/

/-- R95, R96, R130, R131, R135, R137, R138, R139: CLAIM, RELS, SHARE and UNSHARE in all acting lanes. -/
def Obligations.KeepInstructionsFollowTheirRules : Prop :=
  ∀ (s : State) (o : EngOp), EngineReady s o → o.md = 0 → KeepFine s o.spire → (s.eng o.spire).wacc.length = 8 →
    Addressable s o true ((s.eng o.spire).en &&& (s.eng o.spire).acc) →
    let x := o.spire
    let e := s.eng x
    let lanes := lanesOf (e.en &&& e.acc)
    let w := fun j => (e.w j).toNat
    let K := fun j => (s.lane x j).krefs.getD (addrOf s o true j) 0
    let N := s.content.transactions
    let operand := fun j => w j % 4096 < N ∨ w j = 0xFFFFFFFF
    (o.sp = 0 → (∀ j ∈ lanes, s.content.routes.find? (fun d => d.number == w j % 32768) ≠ none) →
      Completes (.claim o) s (fun t => KeepResult s t o 0x08 (fun j p r => ∀ d, s.content.routes.find? (fun d => d.number == w j % 32768) = some d →
        ClaimRel s.kctx p d (s.lane x j).inst r))) ∧
    (o.sp = 5 → (∀ j ∈ lanes, operand j ∧ K j < (s.spire x).keep.tokens.length) →
      Completes (.relsK o) s (fun t => KeepResult s t o 0x09 (fun j p r => RelsKRel p (K j) (w j) r)) ∧
      Completes (.unshare o) s (fun t => KeepResult s t o 0x0B (fun j p r => UnshareRel p (K j) (w j) r)) ∧
      ((∀ j ∈ lanes, 1 ≤ bits (w j) 16 3 ∧ bits (w j) 16 3 ≤ 5) →
        Completes (.share o) s (fun t => KeepResult s t o 0x0A (fun j p r => ShareRel s.kctx p (K j) (w j) (bits (w j) 16 3) r)))) ∧
    (o.sp = 0 → (∀ j ∈ lanes, (opWord s o j).toNat = 0xFFFFFFFF ∨ (opWord s o j).toNat < N) →
      Completes (.relsV o) s (fun t => KeepResult s t o 0x09 (fun j p r => RelsVRel p (opWord s o j).toNat r)))

/-- R95, R138: OFFER, ACPT and QRY. -/
def Obligations.TransferInstructionsFollowTheirRules : Prop :=
  ∀ (s : State) (o : EngOp), EngineReady s o → o.md = 0 → KeepFine s o.spire → (s.eng o.spire).wacc.length = 8 → o.sp = 5 →
    let x := o.spire
    let e := s.eng x
    let w := fun j => (e.w j).toNat
    let K := fun j => (s.lane x j).krefs.getD (addrOf s o true j) 0
    (Addressable s o true (e.en &&& e.acc) → (∀ j ∈ lanesOf (e.en &&& e.acc), K j < (s.spire x).keep.tokens.length) →
      Completes (.offer o) s (fun t => KeepResult s t o 0x0D (fun j p r => OfferRel s.kctx p (K j) (w j % 65536) r)) ∧
      Completes (.acpt o) s (fun t => KeepResult s t o 0x0E (fun j p r => AcceptRel s.kctx p (K j) (w j % 65536) r))) ∧
    (Addressable s o true e.en → (∀ j ∈ lanesOf e.en, K j < (s.spire x).keep.tokens.length) →
      Completes (.qry o) s (fun t =>
        (∀ j, j < 8 → (t.eng x).w j = if laneIn e.en j then BitVec.ofNat 32 (((s.spire x).keep.token (K j)).quarter 0) else e.w j) ∧
        (∀ j, j < 8 → laneIn (t.eng x).acc j = if laneIn e.en j then ((s.spire x).keep.token (K j)).st == 0 else laneIn e.acc j) ∧
        (t.eng x).stack = e.stack ∧ (t.eng x).freshEdges = e.freshEdges ∧ EngineOnly s t x 2 []))

/-! ### Forces (spec/04 R100, R101) -/

/-- R100, R101, R105, R9: a write of FORCEk. -/
def Obligations.ForcesAnswerLoads : Prop :=
  ∀ (s : State) (c : Svc) (x : SvcSess) (k a : Nat) (v : SpireVals), s.svcFind c = some x → v.common s.compared = some a →
    let w := a % 2 ^ 32 &&& 0x81FFFFFF
    let space := bits a 21 3
    let index := bits a 0 21
    (s.mode.cur = .maintenance → x.role = .maintainer → s.pwr.warn = false → k < 32 → s.forceOk k a = true →
      (∀ y, y < 3 → NoResetReaction s (24 * y + 19)) →
      Completes (.forceWrite c k v) s (fun t =>
        (∀ y, y < 3 → t.rd R.FORCE k y = if s.isCompared y then w else s.rd R.FORCE k y) ∧
        (∀ i, i < 32 → i ≠ k → ∀ y, y < 3 → t.rd R.FORCE i y = s.rd R.FORCE i y) ∧
        (∀ y, y < 3 → t.fld F.FORCE_COUNT_COUNT y = ((List.range 32).filter (fun i => t.flag F.FORCE_ENABLE i y)).length) ∧
        (bitOf a 31 = true → t.loadBit s.lead space index = bitOf a 24) ∧
        (bitOf a 31 = true → (∀ y, (t.spire y).mem = (s.spire y).mem)) ∧
        t.chg.head? = some ⟨s.chgNext, x.role.code, x.port, 1, spireMask s.compared, s.atNow, s.time.civil, R.FORCE.key k 0, s.rd R.FORCE k s.lead, a, 0⟩ ∧
        RegsKept s t (wakeKeys ++ (List.range 3).flatMap (fun y => [R.FORCE.key k y, R.FORCE_COUNT.key y 0])) ∧ SpiresAwake s t ∧
        t = settle { s.noted c x 1 (spireMask s.compared) (R.FORCE.key k 0) (s.rd R.FORCE k s.lead) a 0 with
          out := t.out, regs := t.regs, fc := t.fc, rcd := t.rcd, pwr := t.pwr })) ∧
    (¬ (s.mode.cur = .maintenance ∧ x.role = .maintainer) ∨ 32 ≤ k ∨ s.forceOk k a = false →
      Completes (.forceWrite c k v) s (fun t => RefusedBy s t c x (R.FORCE.key k 0)))

/-! ### Modes and resets (spec/19) -/

/-- R405: MAINT_EXIT and UPDATE_ENTER from MAINTENANCE, where no suppressed wire break stands. -/
def Obligations.LeavingMaintenanceLiftsForces : Prop :=
  ∀ (s : State) (c : Svc) (x : SvcSess), s.svcFind c = some x → s.pwr.warn = false → NoTrial s → s.mode.cur = .maintenance →
    (s.flag F.IO_OVR_IN_EN = false ∨ (s.io.inputs.getD (s.fld F.IO_OVR_IN) InSt.idle).wb = false) →
    (x.role = .maintainer → Completes (.maintExit c) s (fun t => ModeIs s t .safeHalt 1 ∧ Lifted s t ∧ Stopped t ∧
      t = settle { s.noted c x 2 0 0x0204 0 0 0 with
        mode := t.mode, sched := t.sched, bf := t.bf, sp := t.sp, pair := { s.pair with pre := t.pair.pre }, pwr := t.pwr
        rcd := t.rcd, regs := t.regs, fc := t.fc, chg := t.chg, chgNext := t.chgNext })) ∧
    (x.role = .engineer → Completes (.updateEnter c) s (fun t => ModeIs s t .update 1 ∧ Lifted s t ∧ Stopped t ∧
      t = settle { s.noted c x 2 0 0x0205 0 0 0 with
        mode := t.mode, sched := t.sched, bf := t.bf, sp := t.sp, pair := { s.pair with pre := t.pair.pre }, pwr := t.pwr, sess := t.sess
        rcd := t.rcd, regs := t.regs, fc := t.fc, chg := t.chg, chgNext := t.chgNext }))

/-- R410, R412, R413, R423: MODULE_RESET and RESET_N. -/
def Obligations.ResetsReturnRegistersByRetention : Prop :=
  ∀ (s : State), NoTrial s → NotInReset s → SourcesCanonical s →
    let mrst := fun (t : State) (cause : Nat) => AfterReset s t (fun r => r = .n ∨ r = .p) cause F.RST_CNT_MRST []
    (∀ (c : Svc) (x : SvcSess), s.svcFind c = some x → s.pwr.warn = false → x.role = .engineer ∨ x.role = .maintainer → s.mode.cur.track = false →
      Completes (.moduleReset c) s (fun t => mrst t 16)) ∧
    (∀ us, 1000 ≤ us → Completes (.resetN us) s (fun t => mrst t 64)) ∧
    (∀ us, us < 100 → Completes (.resetN us) s (fun t => t = settle { s with out := [], time := t.time, free := t.free } ∧ s.time.clockNs + us * 1000 = t.time.clockNs)) ∧
    (∀ us, 100 ≤ us → us < 1000 → Completes (.resetN us) s (fun t => mrst t 64 ∨ (t.mode = s.mode ∧ t.regs = s.regs ∧ t.sp = s.sp)))

/-- R410, R413, R420, R461: a power-on reset within the ratings. -/
def Obligations.PowerOnResetKeepsOnlyTheNonVolatile : Prop :=
  ∀ (s : State) (p : PorOp), NoTrial s → SourcesCanonical s → p.aMv ≤ 60000 → p.bMv ≤ 60000 → p.silent = [] → p.torn = [] →
    let carries := fun mv => decide (16800 ≤ mv) && decide (mv ≤ 36000)
    Completes (.powerOnReset p) s (fun t => AfterReset s t (fun r => r = .n) (if p.holdup then 3 else 1) F.RST_CNT_POR s.pwr.deferRows ∧
      t.fc.first = none ∧ t.mode.restartPending = false ∧ t.pwr.porHeld = !(decide (20000 ≤ p.busMv) && (carries p.aMv || carries p.bMv)) ∧
      t.rd R.STRAP % 512 = p.strap % 512 ∧
      ∀ q a, exec (.powerOnReset p) { s with rcd := { s.rcd with intake := q, alarm := a } } = .next t)

/-- R408: the two steps of the authorised restart, and its expiry. -/
def Obligations.RestartNeedsConfirmation : Prop :=
  ∀ (s : State) (c : Svc) (x : SvcSess) (both : Bool), s.svcFind c = some x → s.pwr.warn = false → NoTrial s → NotInReset s → SourcesCanonical s → x.role = .maintainer →
    let waits := s.svc.confirms.any (fun p => p.code == 0x0202 && p.opnds == [] && decide (s.time.clockNs ≤ p.untilNs))
    (waits = false → s.mode.cur = .integrate ∨ s.mode.cur = .safeHalt → Completes (.modeRestart c both) s (fun t =>
      t = settle { s.noted c x 2 0 0x0202 0 0 0 with svc := { (s.svcTouch c).svc with
        confirms := ⟨0x0202, [], s.time.clockNs + 60000000000⟩ :: s.svc.confirms.filter (fun p => p.code != 0x0202) } })) ∧
    (waits = true → s.mode.cur = .safeHalt → Completes (.modeRestart c both) s (fun t =>
      AfterReset s t (fun r => r = .n ∨ r = .p) 256 F.RST_CNT_MRST [] ∧ t.mode.restartPending = true ∧ t.mode.restartUntil = s.time.clockNs + 600000000000)) ∧
    (waits = true → s.mode.cur = .integrate → s.time.atValid = false → Completes (.modeRestart c both) s (fun t =>
      t = settle { s.noted c x 2 0 0x0202 0 0 0 with
        svc := { (s.svcTouch c).svc with confirms := s.svc.confirms.filter (fun p => p.code != 0x0202) }
        mode := { s.mode with restartPending := true, restartUntil := s.time.clockNs + 600000000000 } })) ∧
    (s.mode.restartPending = true → Completes .restartExpired s (fun t => s.mode.restartUntil ≤ t.time.clockNs ∧
      Recorded s t [t.recOf .restartExpired srcModule (Config.recParam 1 RecName.restartExpired.idx 0 0) (Config.recParam 2 RecName.restartExpired.idx 0 0)] ∧
      RegsKept s t [] ∧ t = settle { s with out := [], mode := { s.mode with restartPending := false, restartUntil := 0 }, time := t.time, free := t.free, rcd := t.rcd, regs := t.regs }))

/-- R405, R408, R128: at the end of INTEGRATE an unpaired module with a pending restart takes control of track from TOKEN_DEF. -/
def Obligations.RestartTakesControlFromTokenDef : Prop :=
  ∀ (s : State) (c : Svc) (x : SvcSess) (both : Bool) (m : ImageContent), s.svcFind c = some x → s.pwr.warn = false → NoTrial s → x.role = .maintainer →
    s.svc.confirms.any (fun p => p.code == 0x0202 && p.opnds == [] && decide (s.time.clockNs ≤ p.untilNs)) = true → s.mode.cur = .integrate →
    s.time.atValid = true → s.ring.st = .sync → s.ring.admitted = true → s.img = some m → m.pair = none → s.benchOk = true →
    let ep := (s.rd R.BT_EPOCH 0 + 1) % 65536
    Completes (.modeRestart c both) s (fun t => t.mode.cur = (if s.compared.length = 3 then .active else .active2oo2) ∧ t.mode.restartPending = false ∧
      (∀ y, y < 3 → s.isCompared y = true → (t.spire y).mem = m.mem ∧ (t.spire y).keep = m.keep ep s.time.count) ∧ (∀ y, y < 3 → t.rd R.BT_EPOCH y = ep) ∧
      SpiresAwake s t ∧ RegsKept s t (wakeKeys ++ [R.BT_EPOCH.key 0 0, R.BT_EPOCH.key 1 0, R.BT_EPOCH.key 2 0]) ∧
      t = settle { s.noted c x 2 0 0x0202 0 0 0 with
        svc := t.svc, mode := t.mode, sp := t.sp, txSeq := [], bf := t.bf, pair := { s.pair with pre := t.pair.pre }, pwr := t.pwr
        rcd := t.rcd, regs := t.regs })

/-- R410, R411, R329, R349: a block reset of the management core. -/
def Obligations.BlockResetsReachTheirBlock : Prop :=
  ∀ (s : State) (c : Svc) (x : SvcSess) (v : Nat), s.svcFind c = some x → s.pwr.warn = false → s.mode.cur = .maintenance → x.role = .maintainer →
    v < 2 ^ 31 →
    (∀ ch, ch < 40 → v % 256 = ch → Completes (.rstCmdWrite c v) s (fun t =>
      (∀ k r, regAt k = some r → r.ret = .b → 0x90000 + ch * 0x400 ≤ k → k < 0x90000 + ch * 0x400 + 0x400 → k ≠ R.CAN_STATUS.key ch 0 → t.word k = regReset k) ∧
      t.fld F.CAN_STATUS_BUS ch = 3 ∧ t.fld F.RST_CMD_BLOCK = ch ∧ (∀ j, j ≠ ch → Sparse.get (fun _ => CanCh.idle) t.can j = Sparse.get (fun _ => CanCh.idle) s.can j) ∧
      Recorded s t [s.recOf .blockReset srcModule ch 0] ∧ t.mode = s.mode)) ∧
    (v % 256 = 0x70 → Completes (.rstCmdWrite c v) s (fun t => t.cv = [] ∧
      (∀ k r, regAt k = some r → r.ret = .b → 0xB1000 ≤ k → k < 0xB1200 → t.word k = regReset k) ∧ Recorded s t [s.recOf .blockReset srcModule 0x70 0] ∧ t.mode = s.mode)) ∧
    (v % 256 = 0x60 → s.sched.cur ≠ 31 → Completes (.rstCmdWrite c v) s (fun t => t.flag F.RST_CMD_BUSY = true ∧ t.fld F.RST_CMD_BLOCK = 0x60 ∧
      RegsKept s t [R.RST_CMD.addr] ∧ t = settle { s.noted c x 1 0 R.RST_CMD.addr (s.rd R.RST_CMD) v 0 with regs := t.regs }))

/-- R405, R407: mode commands, and their refusals. -/
def Obligations.ModeCommandsActOrAreRefused : Prop := ModeCommandsAct ∧ OtherModeCommandsRefused

/-! ### Service side (spec/21 R454 to R456, spec/18 R394, spec/02 R50, spec/00 R9 to R12) -/

/-- R9, R10, R12: a service transaction acts whole, or is refused whole. -/
def Obligations.RegisterWritesActWholeOrNotAtAll : Prop := TransactionsActWhole ∧ OwnRowsActAlone ∧ TransactionsAreRefusedWhole

/-- R394, R455, R33, R50: the requests that are answered at once. -/
def Obligations.SmallRequestsAreAnswered : Prop := AlarmSubscriptionsKept ∧ AddressesAnswered ∧ LowReadsLatch

/-- R456, R454, R440: LOGIN and PROOF, and the timed ends of the service side. -/
def Obligations.LoginsOpenSessionsOrLockOut : Prop := LoginOpens ∧ WrongProofsLockOut ∧ ServiceTimersRunOut

/-! ### The counter-clear commands (W1S bits of the CTRL registers) -/

/-- The W1S clears of spec/11, 12, 13, 14, 15, 16 and 19: one command each, and the registers of its table. -/
def Obligations.ModuleCountersAreCleared : Prop :=
  ∀ (s : State) (c : Svc) (x : SvcSess), s.svcFind c = some x →
    let slot := fun (r : RingSt) (n : Nat) => Sparse.get (fun _ => (0, 0, 0, 0)) r.slots n
    let noCounts := fun (r r' : RingSt) => r' = { r with slots := r'.slots } ∧ ∀ n, (slot r' n).1 = 0 ∧ (slot r' n).2.1 = 0
    let noLosses := fun (r r' : RingSt) => r' = { r with slots := r'.slots } ∧ ∀ n, (slot r' n).2.2 = (0, 0)
    Completes (.pairCtrlClrCnt c) s (fun t => Wrote s t c x [R.PAIR_DMAX.addr, R.PAIR_EVENTS.addr, R.PAIR_REJ.addr] []) ∧
    Completes (.pwrCtrlClrCnt c) s (fun t => Wrote s t c x [R.PWR_WAKES.addr] []) ∧
    Completes (.ioCtrlClrCnt c) s (fun t => t.io.fsMin = none ∧ t = settle { s.answered c x with regs := t.regs, io := { s.io with fsMin := none } } ∧
      t.word R.IO_CNT.addr = 0 ∧ t.word R.IO_TCNT.addr = 0 ∧ ∀ k, k ≠ R.IO_CNT.addr → k ≠ R.IO_TCNT.addr → t.word k = s.word k) ∧
    Completes (.ethCtrlClrCnt c) s (fun t => Wrote s t c x
      ((List.range 16).flatMap (fun p => [R.ETH_RXCNT.key p 0, R.ETH_TXCNT.key p 0, R.ETH_ERR.key p 0])) ((List.range 16).map (fun p => R.ETH_STATUS.key p 0)) ∧
      ∀ p, p < 16 → t.fld F.ETH_STATUS_DOWNS p = 0 ∧ t.fld F.ETH_STATUS_PTP p = s.fld F.ETH_STATUS_PTP p) ∧
    Completes (.ssCtrlClrCnt c) s (fun t => Wrote s t c x
      ((List.range 64).flatMap (fun n => [R.SSN_CNT.key n 0, R.SSN_REJ.key n 0, R.QU_CNT.key n 0]))
      ((List.range 64).flatMap (fun n => [R.SSN_AGE.key n 0, R.QU_CRED.key n 0])) ∧
      ∀ n, n < 64 → t.fld F.SSN_AGE_MAX_MS n = 0 ∧ t.fld F.QU_CRED_FAILS n = 0) ∧
    (∀ ch, ch < 40 → Completes (.canCtrlClrCnt c ch) s (fun t => Wrote s t c x [R.CAN_TXCNT.key ch 0, R.CAN_RXCNT.key ch 0, R.CAN_REJ.key ch 0]
      [R.CAN_TXQ.key ch 0, R.CAN_ERR.key ch 0] ∧ t.fld F.CAN_TXQ_PEAK ch = 0 ∧ t.fld F.CAN_TXQ_DROP ch = 0 ∧ t.fld F.CAN_ERR_BUSOFF_CNT ch = 0)) ∧
    Completes (.rgCtrlClrCnt c) s (fun t => t = settle { s.answered c x with regs := t.regs, ring := t.ring, ringB := t.ringB } ∧
      noCounts s.ring t.ring ∧ noCounts s.ringB t.ringB ∧ t.word R.RG_STATIC.addr = 0 ∧ t.fld F.RG_DYN_DEFER = 0 ∧
      ∀ k, k ≠ R.RG_STATIC.addr → k ≠ R.RG_DYN.addr → t.word k = s.word k) ∧
    Completes (.rgGctrlClrCnt c) s (fun t => t = settle { s.answered c x with regs := t.regs, ring := t.ring, ringB := t.ringB } ∧
      noLosses s.ring t.ring ∧ noLosses s.ringB t.ringB ∧ t.fld F.RG_CS_COLLISIONS = 0 ∧ t.fld F.RG_INTEG_TIMEOUTS = 0 ∧ t.word R.RG_GTX.addr = 0 ∧
      (∀ p, p < 4 → t.word (R.RG_GFWD.key p 0) = 0) ∧ t.fld F.RG_HEAL_HEALS = 0 ∧ t.word R.RG_LOSS.addr = 0 ∧
      ∀ k, k ∉ [R.RG_CS.addr, R.RG_INTEG.addr, R.RG_GTX.addr, R.RG_HEAL.addr, R.RG_LOSS.addr] → (∀ p, p < 4 → k ≠ R.RG_GFWD.key p 0) → t.word k = s.word k)

/-- The CLR_CNT and CLR_MAX commands of blocks with a copy per spire or slice. -/
def Obligations.CopiedCountersAreCleared : Prop := SpireCountersCleared ∧ SliceCountersCleared

/-! ### Fault collector (spec/17) -/

/-- R376, R405, R222: what the detecting block does for severity 3 and 4. -/
def Obligations.SevereRaisesStopTheSpireOrTheModule : Prop :=
  ∀ (s : State) (r : RaiseOp) (d : SrcDef), sourceDef r.source = some d → NoResetReaction s r.source → s.trial = false →
    (d.sev = 4 → s.mode.cur ∈ [.integrate, .shadow, .standby, .active, .active2oo2, .maintenance, .update] →
      Completes (.faultRaise [r]) s (fun t => t.bf.vote = 0 ∧ t.io.word = 0 ∧ (t.src r.source).cond = true ∧
        (if (s.src r.source).st = .latched ∨ ((s.src r.source).st = .clear ∧ s.recLimit r.source ≤ (s.src r.source).winCnt)
          then t.mode.cur = .isolated else t.mode.cur = .safeHalt) ∧
        (s.mode.cur.track = true → t.pair.handover = true ∧ ∀ y, (t.spire y).keep = KeepSt.empty))) ∧
    (d.sev = 3 → r.source < 72 → r.source % 24 ≠ 2 → r.source % 24 ≠ 10 → s.isCompared (r.source / 24) = true → NoResetReaction s (24 * (r.source / 24) + 10) →
      s.mode.cur = .active → s.compared.length = 3 →
      Completes (.faultRaise [r]) s (fun t => t.isCompared (r.source / 24) = false ∧ (∀ y, y < 3 → y ≠ r.source / 24 → t.isCompared y = true) ∧
        t.mode.cur = .active2oo2 ∧ t.mode.prev = 7 ∧ (t.src r.source).cond = true ∧ (t.src (24 * (r.source / 24) + 10)).cond = true ∧
        t.bf.streams.get (r.source / 24) = [] ∧ t.sched.noDelta = true ∧ (∀ y, y < 3 → y ≠ r.source / 24 → t.spire y = s.spire y)))

/-- R381, R385, R387, R389: the end of a condition, of the quiet period and of the recovery window. -/
def Obligations.ConditionsEndThroughTheQuietPeriod : Prop :=
  ∀ (s : State) (k : Nat),
    ((s.src k).cond = true → (s.src k).force = false → Completes (.conditionEnd k) s (fun t =>
      let x := s.src k
      let quiets := x.st = .active ∧ s.quietCode k ≠ 0
      (t.src k).cond = false ∧ (t.src k).gone = (x.gone || x.sticky) ∧ (quiets → (t.src k).st = .quiet ∧ (t.src k).quietEnd = s.time.clockNs + quietTime (s.quietCode k)) ∧
      (¬ quiets → (t.src k).st = x.st) ∧ (∀ j, j ≠ k → t.src j = s.src j) ∧
      t = settle { s with out := [], fc := { s.fc with src := t.fc.src }, regs := t.regs } ∧ (k ≠ 98 → k ≠ 99 → t.regs = s.regs) ∧
      (k = 98 → ∀ ch, ch < 40 → t.flag F.CAN_STATUS_GROUP_FAIL ch = false) ∧
      (k = 99 → ∀ p, p < 15 → (s.sessionPort p || s.ptpCarried p) = true → t.flag F.ETH_STATUS_LINK p = true))) ∧
    ((s.src k).st = .quiet → Completes (.quietExpiry k) s (fun t =>
      let x := s.src k
      (t.src k).st = .clear ∧ x.quietEnd ≤ t.time.clockNs ∧ (∀ j, j ≠ k → t.src j = s.src j) ∧
      (x.forced = true → (t.src k).recCnt = x.recCnt ∧ (t.src k).winCnt = x.winCnt ∧ (t.src k).forced = false) ∧
      (x.forced = false → (t.src k).recCnt = min (x.recCnt + 1) 255 ∧ (t.src k).winCnt = x.winCnt + 1 ∧ (t.src k).winOpen = true ∧
        (t.src k).winEnd = if x.winOpen then x.winEnd else t.time.clockNs + s.recWin * 3600000000000) ∧
      (k < 72 → k % 24 = 10 → s.bf.spst.get (k / 24) = .quiet → t.bf.spst.get (k / 24) = .copy) ∧ t.regs = s.regs ∧ t.mode = s.mode ∧
      t = settle { s with out := [], fc := { s.fc with src := t.fc.src }, time := t.time, free := t.free, bf := { s.bf with spst := t.bf.spst, freed := t.bf.freed, copySeq := t.bf.copySeq } })) ∧
    ((s.src k).winOpen = true → Completes (.recoveryWindowClose k) s (fun t =>
      t.src k = { s.src k with winOpen := false, winEnd := 0, winCnt := 0 } ∧ (s.src k).winEnd ≤ t.time.clockNs ∧ (∀ j, j ≠ k → t.src j = s.src j) ∧
      t = settle { s with out := [], fc := { s.fc with src := t.fc.src }, time := t.time, free := t.free }))

/-- R385, R386, R389, R390: the collector's service commands. -/
def Obligations.CollectorCommandsClearWhatTheyName : Prop :=
  ∀ (s : State) (c : Svc) (x : SvcSess), s.svcFind c = some x →
    Completes (.fcCtrlClrFirst c) s (fun t => t = settle { s.answered c x with fc := { s.fc with first := none } }) ∧
    Completes (.fcCtrlClrOcc c) s (fun t => t = settle { s.answered c x with fc := { s.fc with src := t.fc.src } } ∧
      (∀ k, k < 128 → t.src k = { s.src k with occ := 0 }) ∧ ∀ k, 128 ≤ k → t.src k = s.src k) ∧
    (∀ w m, w < 4 → (∀ j, j < 32 → bitOf m j = true → (sourceDef (32 * w + j)).isSome = true) →
      Completes (.fcStickyClear c w m) s (fun t => t = settle { s.answered c x with fc := { s.fc with src := t.fc.src } } ∧
        ∀ k, t.src k = if 32 * w ≤ k ∧ k < 32 * w + 32 ∧ bitOf m (k - 32 * w) = true ∧ ((s.src k).st = .clear ∨ (s.src k).st = .quiet)
          then { s.src k with sticky := false, gone := false } else s.src k)) ∧
    (∀ w m, w < 4 → (∃ j, j < 32 ∧ bitOf m j = true ∧ sourceDef (32 * w + j) = none) →
      Completes (.fcStickyClear c w m) s (fun t => RefusedBy s t c x (R.FC_STICKY.key w 0))) ∧
    (x.role = .auditor → s.pwr.warn = false → Completes (.fcRecClear c) s (fun t =>
      (∀ k, k < 128 → t.src k = { s.src k with recCnt := 0, winCnt := 0, winOpen := false, winEnd := 0 }) ∧
      Recorded s t [s.recOf .fcRecClear srcService x.role.code x.port] ∧ RegsKept s t [] ∧
      t = settle { s.noted c x 2 0 (svcCode cmdFcRecClear) 0 0 0 with fc := { s.fc with src := t.fc.src }, rcd := t.rcd, regs := t.regs }))

/-- R387, R388: force bits and injections, in MAINTENANCE by a maintainer, in SELFTEST by the firmware. -/
def Obligations.ForceBitsAndInjectionsAreArmed : Prop :=
  ∀ (s : State) (w value : Nat),
    let low := ∀ j, j < 32 → bitOf value j = true → (s.src (32 * w + j)).force = false →
      (∃ d, sourceDef (32 * w + j) = some d ∧ d.sev ≤ 2) ∧ NoResetReaction s (32 * w + j)
    let forced := fun (t : State) => (∀ j, j < 32 → (t.src (32 * w + j)).force = bitOf value j ∧
        (bitOf value j = true → (s.src (32 * w + j)).force = false → (t.src (32 * w + j)).cond = true ∧ (t.src (32 * w + j)).st ≠ .clear) ∧
        (bitOf value j = false → (s.src (32 * w + j)).force = true → (t.src (32 * w + j)).cond = false) ∧
        (bitOf value j = (s.src (32 * w + j)).force → t.src (32 * w + j) = s.src (32 * w + j))) ∧
      (∀ k, k < 32 * w ∨ 32 * w + 32 ≤ k → t.src k = s.src k) ∧ RegsKept s t wakeKeys
    let armed := fun (t : State) (v : Nat) => t.fc.inject = (if bitOf v 31 then ⟨bits v 0 5, bitOf v 5, bits v 6 2, bits v 8 6⟩ :: s.fc.inject else s.fc.inject) ∧
      t.rd R.FC_INJ = v &&& R.FC_INJ.rwm ∧ ∀ k, k ≠ R.FC_INJ.addr → t.word k = s.word k
    (low → forceWordOk w value = true →
      (∀ c x, s.svcFind c = some x → s.mode.cur = .maintenance → x.role = .maintainer → s.pwr.warn = false →
        Completes (.fcForceWrite (.service c) w value) s (fun t => forced t ∧
          t = settle { s.noted c x 1 0 (R.FC_FORCE.key w 0) (s.forceWord w) value 0 with out := t.out, fc := t.fc, rcd := t.rcd, regs := t.regs, pwr := t.pwr })) ∧
      (s.mode.cur = .selftest → Completes (.fcForceWrite .firmware w value) s (fun t => forced t ∧
        t = settle { s with out := t.out, fc := t.fc, rcd := t.rcd, regs := t.regs, pwr := t.pwr }))) ∧
    (s.injectOk value = true →
      (∀ c x, s.svcFind c = some x → s.mode.cur = .maintenance → x.role = .maintainer → s.pwr.warn = false →
        Completes (.fcInjWrite (.service c) value) s (fun t => armed t value ∧
          t = settle { s.noted c x 1 0 R.FC_INJ.addr (s.rd R.FC_INJ) value 0 with fc := { s.fc with inject := t.fc.inject }, regs := t.regs })) ∧
      (s.mode.cur = .selftest → Completes (.fcInjWrite .firmware value) s (fun t => armed t value ∧
        t = settle { s with out := [], fc := { s.fc with inject := t.fc.inject }, regs := t.regs }))) ∧
    (∀ c x, s.svcFind c = some x → ¬ (s.mode.cur = .maintenance ∧ x.role = .maintainer) →
      Completes (.fcForceWrite (.service c) w value) s (fun t => RefusedBy s t c x (R.FC_FORCE.key w 0)) ∧
      Completes (.fcInjWrite (.service c) value) s (fun t => RefusedBy s t c x R.FC_INJ.addr))

/-- R381, R384, R386: raises of severity 0 to 2, and the first fault of a tick. -/
def Obligations.RaisesMoveSourcesAndTheFirstIsHeld : Prop := RaisesMoveSources ∧ FirstFaultIsTheMostSevere

/-! ### Angle time, the weathervane and civil time (spec/02) -/

/-- R39, R40, R43, R46, R47, R48, R49: references, PTP and TIME_SET. -/
def Obligations.ReferencesAndCivilTimeFollowTheirSources : Prop := EdgesAreStamped ∧ CivilTimeFollowsItsSources

/-- R30, R32, R34, R35, R37, R42: a base-cycle boundary, and the write of the AT mark. -/
def Obligations.BaseCyclesFollowEachOther : Prop :=
  ∀ (s : State),
    (s.img.isSome = true → NoResetReaction s 127 → ∀ b, Completes (.baseCycleBoundary b) s (fun t => ∃ u : State, t = settle u.boundaryTail ∧
      u.time.angle = 0 ∧ u.time.cycleNs = u.time.clockNs ∧ s.time.cycleNs + s.time.tbNs ≤ u.time.clockNs ∧ s.time.clockNs ≤ u.time.clockNs ∧
      u.time.count = max ((s.time.count + 1) % 2 ^ 48) (max ((s.time.jumpTo.map (fun c => c % 2 ^ 48)).getD 0)
        (if s.time.adopt && s.synced then (s.wv.ringCount.map (fun n => (n + 1) % 2 ^ 48)).getD 0 else 0)) ∧ u.time.jumpTo = none ∧ u.time.atValid = s.time.atValid ∧ u.time.mark = s.time.mark ∧
      u.time.tbNs ≤ s.time.tbNs + s.tbMs * 1000000 / 2000 ∧ s.time.tbNs ≤ u.time.tbNs + s.tbMs * 1000000 / 2000 ∧
      u.rd R.TB_MEAS = min s.time.tbNs 0xFFFFFFFF ∧
      (∀ x, x < 3 → u.rd R.LE_CLK_LAST x = min (s.eng x).clkCycle 0xFFFFFFFF ∧ (u.eng x).clkCycle = 0 ∧
        u.rd R.LE_CLK_MAX x = max (min (s.eng x).clkCycle 0xFFFFFFFF) (s.rd R.LE_CLK_MAX x)) ∧
      u.mode = s.mode ∧ u.pair = s.pair ∧ u.ring = s.ring ∧ (∀ n, n ≠ 91 → n ≠ 127 → u.src n = s.src n) ∧ (∀ x, (u.spire x).mem = (s.spire x).mem ∧ (u.spire x).keep = (s.spire x).keep))) ∧
    (s.img = none → ∀ b, Completes (.baseCycleBoundary b) s (fun t => t = settle { s with out := [] })) ∧
    (s.time.atValid = true →
      let m := (s.time.count + 1024) % 2 ^ 48
      (s.pwr.warn = true → ∀ ok, Completes (.atMarkWrite ok) s (fun t => t = settle { s with out := [], time := { s.time with markDeferred := some m } })) ∧
      (s.pwr.warn = false → Completes (.atMarkWrite true) s (fun t => Recorded s t [s.evOf .atMarkEvent srcModule] ∧ RegsKept s t [] ∧
        t = settle { s with out := [], time := { s.time with mark := max s.time.mark m, markDeferred := none }, rcd := t.rcd, regs := t.regs })) ∧
      (s.pwr.warn = false → Completes (.atMarkWrite false) s (fun t => t = settle { s with out := [] })))

/-! ### Tasks, sweep, seal and watchdog (spec/05) -/

/-- R108 to R112, R118, spec/09 R187, spec/01 R22: freezes, releases, separated triggers, lead fills and the start of a sweep. -/
def Obligations.FreezesAndReleasesFollowTheSchedule : Prop :=
  ∀ (s : State), NoResets s → s.fc.inject = [] →
    (∀ k d, s.taskDef k = some d → s.isDue d = true → s.mode.cur.sessions = true →
      ((s.task k).frozen ≠ some s.time.count → Completes (.inputFreeze k) s (fun t => Frozen (s.cameTo d.inAng) t k)) ∧
      ((s.task k).frozen = some s.time.count → Completes (.inputFreeze k) s (fun t => t = settle { s with out := [] }))) ∧
    (∀ k d, s.taskDef k = some d → s.isDue d = true → s.mode.cur.runs = true → s.releasedNow k = false → (s.task k).ready = false → s.releaseWaits k = false →
      Completes (.periodicRelease k) s (fun t => ∃ u f : State, AtAngle f { u with out := [] } d.relAng ∧ u.out = f.out ∧ ReleasedFrom u t d ∧
        ((s.task k).frozen = some s.time.count → f = { s with out := [] }) ∧
        ((s.task k).frozen ≠ some s.time.count → Frozen (s.cameTo d.inAng) (settle f) k))) ∧
    (∀ k d a r, s.taskDef k = some d → 8 ≤ k → s.mode.cur.runs = true → (s.task k).pend = true → (s.task k).ready = false → s.releaseWaits k = false →
      (s.task k).rel = some r → (r + d.minSep) / 65536 = s.time.count → a = (r + d.minSep) % 65536 →
      Completes (.minSepElapsed k) s (fun t => ∃ u v : State, AtAngle s u a ∧ r + d.minSep ≤ u.absAngle ∧
        v = { u with sched := { u.sched with tasks := v.sched.tasks } } ∧ v.task k = { u.task k with pend := false } ∧ (∀ j, j ≠ k → v.task j = u.task j) ∧
        (s.depth = 0 ∨ s.sched.cur ≠ 31 → ReleasedFrom v.wakeSpires t d) ∧
        (s.depth ≠ 0 → s.sched.cur = 31 →
          t = settle { v.wakeSpires with sched := { v.sched with relq := s.sched.relq ++ [(k, u.absAngle + s.wakeCau s.depth)] } }))) ∧
    (∀ k, s.mode.cur.runs = true →
      (∀ a, s.leadNow k = some a → Completes (.leadFillStart k) s (fun t => ∃ u : State, AtAngle s u a ∧
        t.task k = { s.task k with lead := true } ∧ (∀ j, j ≠ k → t.task j = s.task j) ∧
        t = settle { u with sched := { u.sched with tasks := t.sched.tasks }, sp := t.sp } ∧
        ∀ x, t.spire x = { s.spire x with pg := { (s.spire x).pg with filling := (t.spire x).pg.filling } } ∧
          ((s.spire x).pg.filling.isSome = true ∨ s.isCompared x = false → (t.spire x).pg.filling = (s.spire x).pg.filling))) ∧
      (s.leadNow k = none → Completes (.leadFillStart k) s (fun t => t = settle { s with out := [] }))) ∧
    (∀ k ang, s.content.sched.starts[k]? = some ang → ang < 65536 → s.sweepMode = true → s.mode.cur.runs = true → s.sched.cur = 31 → s.sched.sealRuns = false → s.sched.sweepStart = none →
      (∀ q, s.sched.sweepSeal = some q → q < s.time.count * 65536 + ang) → s.time.angle ≤ ang → (s.cameTo ang).mode.cur.runs = true →
      let w := (s.cameTo ang).freeze 24
      let a := s.time.count * 65536 + ang
      Completes (.sweepStart k) s (fun t => ∃ u : State, t = settle (u.runTask 24) ∧ u.sched.sweepStart = some a ∧ u.absAngle = a ∧
        (u.task 24).ready = true ∧ (u.task 24).next = 0 ∧ (u.task 24).rel = some a ∧ (u.task 24).deadline = some (a + s.content.sched.bound * 65536) ∧ (u.task 24).marks = [] ∧
        (u.task 24).input = (w.task 24).input ∧ (∀ j, j ≠ 24 → u.task j = w.task j) ∧
        u.sched.audited = false ∧ u.sched.auditOk = false ∧ u.sched.intake = false ∧ u.sched.firstRel = some (24, a) ∧ u.sched.noDelta = false ∧ u.sched.sealDone = false ∧
        (∀ x, x < 3 → Sparse.get (fun _ => 0) (u.eng x).clkTask 24 = 0) ∧ u.mode = w.mode ∧ u.time = w.time ∧
        ∀ x, w.bf.entering.get x = false → (u.spire x).mem = (w.spire x).mem ∧ (u.spire x).keep = (w.spire x).keep))

/-- R112, R113, R116, R117, R119: barriers, the angle of the seal and its end. -/
def Obligations.BarriersAndSealsEndTheWorkOfACycle : Prop :=
  ∀ (s : State), NoResets s →
    (∀ a, s.barrierDone = true → s.sched.cur ≠ 31 → Completes (.finialBarrierComplete a) s (fun t => ∃ u : State, BarrierPassed s u a ∧
      (u.sched.cur = 25 → t = settle u.endAudit) ∧ (u.sched.cur = 31 → t = settle u) ∧ (u.sched.cur ≠ 25 → u.sched.cur ≠ 31 → t = settle (u.endGroup u.sched.cur)))) ∧
    (∀ a k d, s.barrierDone = true → s.sched.cur = k → s.sweepMode = false → s.taskDef k = some d → k < 8 → s.flag F.RST_CMD_BUSY = false → s.sched.relq = [] → s.fc.inject = [] →
      s.sched.audited = true → s.sched.sealWaits = false → (∀ e ∈ s.content.sched.tasks, e.code ≠ k → (s.task e.code).ready = false) →
      (s.content.run k).2 ≤ (s.task k).next + 1 →
      Completes (.finialBarrierComplete a) s (fun t => t.sched.cur = 31 ∧ (t.task k).ready = false ∧ (t.task k).next = 0 ∧ (t.task k).deadline = none ∧
        (t.task k).fin = some t.absAngle ∧ (t.task k).sent = false ∧ (∀ j, j ≠ k → t.task j = s.task j) ∧ t.mode = s.mode ∧
        (∀ x, s.isCompared x = true → ∀ p, p < 8 → (p, k) ∈ (t.spire x).pg.qpend))) ∧
    (s.sweepMode = false → s.img.isSome = true → s.mode.cur.runs = true → s.sched.hold = false → s.sched.sealDone = false → s.sched.sealRuns = false →
      let a := s.content.sched.sealAng
      let w := s.cameTo a
      Completes .sealAngle s (fun t =>
        (w.sched.cur = 25 → t = settle (w.watchdogTrip 25 a)) ∧
        (w.sched.cur = 31 → w.mayS = true → t = settle { w with sched := { w.sched with hold := true, sealWaits := false, sealRuns := true } }) ∧
        (w.sched.cur = 31 → w.mayS = false → t = settle (State.dispatch { w with sched := { w.sched with hold := true, sealWaits := false } })) ∧
        (w.sched.cur ≠ 25 → w.sched.cur ≠ 31 → t = settle { w with sched := { w.sched with hold := true, sealWaits := true } }))) ∧
    (∀ meets : List BankMeet, s.sched.sealRuns = true → Completes (.sealComplete meets) s (fun t => ∃ v u : State,
      v = State.each { s with out := [] } meets (fun s m => if s.isCompared m.spire then s.portRead m.spire m.bank m.port else s) ∧ (meets = [] → v = { s with out := [] }) ∧ Sealed v u ∧
      ((∀ x, x < 3 → u.bf.spst.get x ≠ .join) → u.bf.joinHold = v.bf.joinHold ∧ t = settle u.heldReleases) ∧
      ((∃ x, x < 3 ∧ u.bf.spst.get x = .join) → u.bf.joinHold = true ∧ u.bf.joinSince = s.time.clockNs ∧
        t = settle ((u.each ((u.sched.tasks.filter (fun (e : Nat × TaskSt) => e.2.held && e.1 < 8)).map (fun e => e.1)) (fun s t => s.takeEffect t)).dispatch))))

/-- R111, R115, R119, R341, spec/10 R211, R230, spec/16 R369: output angles; R121, R122: the cycle watchdog. -/
def Obligations.OutputsLeaveAndTheWatchdogStopsTheModule : Prop :=
  ∀ (s : State), NoResets s → (s.content.sessions.map SessDef.n).Nodup →
    (∀ k d v, s.taskDef k = some d → s.mode.cur.sessions = true →
      let a := State.advanceTo { s with out := [] } d.outAng
      let w := a.each (a.outputsAt d.outAng d.prio) (fun s t => s.outputOnce t d.outAng VoteOp.plain)
      let now := fun (t : State) => (t.task k).lastOut = some (w.time.count * 65536 + d.outAng) ∧ t.time = w.time ∧
        (∀ e ∈ s.content.sessions, t.mode.cur.sessions = true →
          (t.sessAt e.n).txSeq = if e.task = k ∧ (w.sessAt e.n).st = .opened then ((w.sessAt e.n).txSeq + 1) % 2 ^ 32 else (w.sessAt e.n).txSeq)
      a.time.angle = max s.time.angle (min d.outAng 65535) ∧
      (w.outputDone k d.outAng = true → Completes (.outputAngle k v) s (fun t => t = settle w)) ∧
      (w.outputDone k d.outAng = false → k ≠ 0 → k ≠ 24 → w.fc.inject = [] → w.mode.cur.sessions = true → Completes (.outputAngle k v) s (fun t => now t ∧
        t.mode = w.mode ∧ t.bf.vote = (if w.mode.cur.track then w.bf.vote else 0) ∧ t.io.word = (if w.mode.cur.track then w.io.word else 0) ∧ (∀ j, j ≠ k → t.task j = w.task j) ∧
        (∀ f, (w.task k).fin = some f → (if k < 8 then f ≤ w.absAngle else f < w.absAngle) → (t.task k).sent = true))) ∧
      (∀ f (x : BitVec 16), w.outputDone k d.outAng = false → k = 0 → v = VoteOp.plain → w.mode.cur.track = true → w.fc.inject = [] → w.bf.stopped = false →
        (w.task 0).fin = some f → f ≤ w.absAngle → w.compared = [0, 1, 2] → w.liveSlices = [0, 1, 2] → (∀ y, y < 3 → w.localWord y 0 = x) →
        (∀ y, y < 3 → ∀ e ∈ (w.spire y).pg.qpend, e.2 ≠ 0) →
        Completes (.outputAngle k v) s (fun t => now t ∧ t.bf.vote = x ∧ t.io.word = x ∧ t.io.hold = false ∧ t.io.silence = false ∧ t.io.present = some t.time.clockNs ∧
          .present x false ∈ t.out ∧ t.mode = w.mode ∧ t.bf.spst = w.bf.spst ∧ t.bf.sliceIso = w.bf.sliceIso ∧ (t.task 0).sent = true))) ∧
    (∀ k ang v, s.content.sched.outs[k]? = some ang → s.sweepMode = true → s.mode.cur.sessions = true →
      let w := State.advanceTo { s with out := [] } ang
      let now := fun (t : State) => (t.task 24).lastOut = some (w.time.count * 65536 + ang) ∧ t.time = w.time ∧
        (∀ e ∈ s.content.sessions, (t.sessAt e.n).txSeq = if e.task = 24 ∧ (s.sessAt e.n).st = .opened then ((s.sessAt e.n).txSeq + 1) % 2 ^ 32 else (s.sessAt e.n).txSeq)
      w.time.angle = max s.time.angle (min ang 65535) ∧
      (w.outputDone 24 ang = true → Completes (.sweepOutput k v) s (fun t => t = settle w)) ∧
      (w.outputDone 24 ang = false → (∀ f, (s.task 24).fin = some f → w.absAngle ≤ f) → s.fc.inject = [] → Completes (.sweepOutput k v) s (fun t => now t ∧ t.mode = s.mode ∧
        t.bf.vote = (if s.mode.cur.track then s.bf.vote else 0) ∧ (∀ j, j ≠ 24 → t.task j = s.task j))) ∧
      (∀ f (x : BitVec 16), w.outputDone 24 ang = false → v = VoteOp.plain → s.mode.cur.track = true → s.fc.inject = [] → s.bf.stopped = false →
        (s.task 24).fin = some f → f < w.absAngle → s.compared = [0, 1, 2] → s.liveSlices = [0, 1, 2] → (∀ y, y < 3 → s.localWord y 24 = x) →
        (∀ y, y < 3 → ∀ e ∈ (s.spire y).pg.qpend, e.2 ≠ 24) →
        Completes (.sweepOutput k v) s (fun t => now t ∧ t.bf.vote = x ∧ t.io.word = x ∧ .present x false ∈ t.out ∧ t.mode = s.mode ∧ (t.task 24).sent = true))) ∧
    (∀ k dl, s.armed k = some dl → s.mode.cur.runs = true → dl / 65536 ≤ s.time.count → k < 32 → s.trial = false → s.lagging = false → Completes (.watchdogTrip k) s (fun t =>
      t.bf.vote = 0 ∧ t.io.word = 0 ∧ (t.src 126).cond = true ∧
      t.mode.cur = (if (s.src 126).st = .latched ∨ ((s.src 126).st = .clear ∧ s.recLimit 126 ≤ (s.src 126).winCnt) then .isolated else .safeHalt) ∧
      t.sched.cur = 31 ∧ t.sched.tasks = [] ∧ t.sched.noDelta = true ∧ (∀ x, (t.eng x).run = false ∧ (t.eng x).barrier = false) ∧
      (∀ x, x < 3 → t.rd R.LE_ERROR x = 9 ∧ t.rd R.LE_ERR_PC x = (s.eng x).pc % 2 ^ 32 ∧ t.fld F.WDOG_STATUS_TASK x = k % 32 ∧ t.fld F.WDOG_STATUS_ANGLE x = dl % 65536) ∧
      (∀ x, x < 3 → s.isCompared x = true → (t.src (24 * x + 2)).cond = true) ∧ (∀ ch, (t.chan ch).queue = [])))

/-! ### Intake, commands and the boundary of the token keep (spec/06 R133, R152, R153; spec/07 R158 to R169, R172) -/

/-- R133, R152, R153, R160: the intake of a cycle, the commands of KP_CMD and the inspection of a token. -/
def Obligations.IntakeAndKeepCommandsFollowTheirRules : Prop :=
  ∀ (s : State),
    (s.mode.cur.runs = true → s.img.isSome = true → s.sched.intake = true → Completes .keepIntake s (fun t => t = settle { s with out := [] })) ∧
    (IntakeOf s [] → Completes .keepIntake s (fun t => t = settle { s with out := [], kevents := s.keptEvents, sched := { s.sched with intake := true } })) ∧
    (∀ r k, IntakeOf s [.brec r] → TakenIn s r k → r.kind = 1 → s.compared ≠ [] →
      (∀ x, s.isCompared x = true → ((s.spire x).keep.token k).st = 5 ∧ ((s.spire x).keep.token k).recon = false ∧ ((s.spire x).keep.token k).bad = false ∧ (s.spire x).keep.transfers < 256) → (s.kctx.listing k).contains r.src = true →
      Completes .keepIntake s (fun t => t.kevents = s.keptEvents ∧ t.sched.intake = true ∧ t.mode = s.mode ∧
        ∀ x, x < 3 → s.isCompared x = true → (t.spire x).keep = { (s.spire x).keep with bt := { (s.spire x).keep.bt with
            offers := (s.spire x).keep.bt.offers.filter (fun o => !(o.src == r.src && o.token == k)) ++ [⟨r.src, k, r.tseq⟩]
            rseqRx := Sparse.set (fun _ => 0) (s.spire x).keep.bt.rseqRx r.src r.rseq
            fences := (s.spire x).keep.bt.fences.filter (fun f => f.1 != r.src) } } ∧
          t.rd R.BT_RXCNT x = min (s.rd R.BT_RXCNT x + 1) 0xFFFFFFFF)) ∧
    (∀ k, IntakeOf s [.cmd k 1] → s.compared ≠ [] →
      (∀ x, s.isCompared x = true → k < (s.spire x).keep.tokens.length ∧ ((s.spire x).keep.token k).st = 0 ∧ ((s.spire x).keep.token k).holder = 0xFFFF ∧ ((s.spire x).keep.token k).recon = false ∧ ((s.spire x).keep.token k).bad = false) →
      Completes .keepIntake s (fun t => t.kevents = s.keptEvents ∧ t.sched.intake = true ∧ Recorded s t [s.recOf .keepBlock srcKeep k 0] ∧
        (∀ x, x < 3 → s.isCompared x = true → ((t.spire x).keep.token k).st = 3 ∧ ((t.spire x).keep.token k).gen = (((s.spire x).keep.token k).gen + 1) % 65536 ∧
          ∀ j, j ≠ k → (t.spire x).keep.token j = (s.spire x).keep.token j) ∧
        ∀ x, x < 3 → t.flag F.KP_CMD_BUSY x = false ∧ t.rd R.KP_CMD_RES x = 256)) ∧
    (∀ (c : Svc) (x : SvcSess) (v : SpireVals) (a : Nat), s.svcFind c = some x → v.common s.compared = some a → x.role = .maintainer → s.pwr.warn = false → bits a 0 16 < s.content.tokens.length → roOk R.KP_CMD.addr (s.word (R.KP_CMD.key s.lead 0)) a = true →
      let busy := fun (t : State) => SpiresAwake s t ∧ ∀ y, y < 3 → t.rd R.KP_CMD y = if s.isCompared y then a % 2 ^ 20 + 2 ^ 31 else s.rd R.KP_CMD y
      let keys := wakeKeys ++ (List.range 3).map (fun y => R.KP_CMD.key y 0)
      (s.mode.cur.track = true ∨ s.mode.cur = .maintenance → bits a 16 4 = 1 → Completes (.kpCmdBlock c v) s (fun t => busy t ∧ (∀ k, k ∉ keys → t.word k = s.word k) ∧
        t = settle { s.kpNoted c x a with kevents := s.kevents ++ [(s.absAngle, .cmd (bits a 0 16) 1)], regs := t.regs, pwr := t.pwr })) ∧
      (s.mode.cur = .maintenance → bits a 16 4 = 2 → Completes (.kpCmdUnblock c v) s (fun t => busy t ∧ (∀ k, k ∉ keys → t.word k = s.word k) ∧
        (∀ p ∈ t.svc.confirms, p.code ≠ cmdKpUnblock) ∧ t = settle { s.kpNoted c x a with kevents := s.kevents ++ [(s.absAngle, .cmd (bits a 0 16) 2)], regs := t.regs, pwr := t.pwr, svc := t.svc })) ∧
      (s.mode.cur.track = true → bits a 16 4 = 2 → Completes (.kpCmdUnblock c v) s (fun t => busy t ∧ (∀ k, k ∉ keys → t.word k = s.word k) ∧
        (if s.svc.confirms.any (fun p => p.code == cmdKpUnblock && p.opnds == [a] && decide (s.time.clockNs ≤ p.untilNs)) then
          t.kevents = s.kevents ++ [(s.absAngle, .cmd (bits a 0 16) 2)] ∧ ∀ p ∈ t.svc.confirms, p.code ≠ cmdKpUnblock
        else t.kevents = s.kevents ∧ ⟨cmdKpUnblock, [a], s.time.clockNs + 60000000000⟩ ∈ t.svc.confirms) ∧
        t = settle { s.kpNoted c x a with kevents := t.kevents, regs := t.regs, pwr := t.pwr, svc := t.svc }))) ∧
    (∀ (c : Svc) (x : SvcSess) (v : SpireVals) (a : Nat), s.svcFind c = some x → v.common s.compared = some a →
      (roOk R.KP_TSEL.addr (s.word (R.KP_TSEL.key s.lead 0)) a = true → Completes (.kpTselWrite c v) s (fun t => SpiresAwake s t ∧
        (∀ y, y < 3 → s.isCompared y = true → t.fld F.KP_TSEL_TOKEN y = a % 65536 ∧ (s.sched.cur = 31 → t.flag F.KP_TSEL_READY y = true ∧
          ∀ q, q < 4 → t.rd R.KP_TQ q y = ((s.spire y).keep.token (a % 65536)).quarter q % 2 ^ 32)) ∧
        (s.sched.cur ≠ 31 → t.sched = { s.sched with tsel := s.compared }) ∧ (s.sched.cur = 31 → t.sched = { s.sched with tsel := [], xsel := [] }) ∧
        t = settle { s.answered c x with sched := t.sched, regs := t.regs, pwr := t.pwr })) ∧
      (roOk R.KP_XSEL.addr (s.word (R.KP_XSEL.key s.lead 0)) a = true → Completes (.kpXselWrite c v) s (fun t => SpiresAwake s t ∧
        (∀ y, y < 3 → s.isCompared y = true → t.fld F.KP_XSEL_SLOT y = a % 4096 ∧ (s.sched.cur = 31 → t.flag F.KP_XSEL_READY y = true ∧
          ∀ w, w < 64 → t.rd R.KP_XWIN w y = ((s.spire y).keep.slot (a % 4096)).word w % 2 ^ 32)) ∧
        (s.sched.cur ≠ 31 → t.sched = { s.sched with xsel := s.compared }) ∧ (s.sched.cur = 31 → t.sched = { s.sched with tsel := [], xsel := [] }) ∧
        t = settle { s.answered c x with sched := t.sched, regs := t.regs, pwr := t.pwr }))) ∧
    (∀ (c : Svc) (x : SvcSess) (v : SpireVals) (a : Nat), s.svcFind c = some x → v.common s.compared = some a →
      (roOk R.KP_TSEL.addr (s.word (R.KP_TSEL.key s.lead 0)) a = false → Completes (.kpTselWrite c v) s (fun t => RefusedBy s t c x (R.KP_TSEL.key 0 0))) ∧
      (roOk R.KP_XSEL.addr (s.word (R.KP_XSEL.key s.lead 0)) a = false → Completes (.kpXselWrite c v) s (fun t => RefusedBy s t c x (R.KP_XSEL.key 0 0))))

/-- R159, R162, R163, R167 to R169, R172: boundary timers, transmission, authorised reconciliation, admission. -/
def Obligations.BoundaryTimersAndReconciliationFollowTheirRules : Prop :=
  ∀ (s : State), NoResets s →
    (∀ k tm, TimerDue s .offer k tm → Completes (.offerTimeout k) s (fun t => TimerTaken s t .offer k ∧ QueriesWait s t k true ∧ t.mode = s.mode ∧
      (∀ x, x < 3 → (t.spire x).keep.tokens = (s.spire x).keep.tokens))) ∧
    (∀ k tm, TimerDue s .confirm k tm → Completes (.confirmTimeout k) s (fun t => TimerTaken s t .confirm k ∧ QueriesWait s t k false ∧ ReconSet s t k ∧ t.mode = s.mode)) ∧
    (∀ k tm, TimerDue s .completion k tm → Completes (.completionTimeout k) s (fun t => TimerTaken s t .completion k ∧ QueriesWait s t k false ∧ ReconSet s t k ∧ t.mode = s.mode)) ∧
    (∀ k tm, TimerDue s .retry k tm → Completes (.retryTimeout k) s (fun t => TimerTaken s t .retry k ∧ QueriesWait s t k false ∧ t.mode = s.mode ∧
      (∀ x, x < 3 → (t.spire x).keep.tokens = (s.spire x).keep.tokens))) ∧
    (∀ k tm, TimerDue s .long k tm → Completes (.longPartitionTimeout k) s (fun t => TimerTaken s t .long k ∧ t.mode = s.mode ∧ (t.src 123).cond = true ∧
      (∀ x, x < 3 → s.isCompared x = true → (∀ a ∈ s.kctx.concerned (s.spire x).keep k, (k, a) ∈ (t.spire x).keep.bt.authReq) ∧ (t.spire x).keep.tokens = (s.spire x).keep.tokens))) ∧
    (s.mode.cur.track = true →
      let sent := ((s.theKeep.bt.outbox.filter s.mayLeave).take s.brecRoom).map (fun e => e.2)
      Completes .boundaryTransmit s (fun t =>
        t.out = sent.map (fun r => .boundary { r with cv := s.maskCv (triSig s.content.ring.poly r.dst r.rseq r.body) }) ∧
        (∀ x, x < 3 → s.isCompared x = true → (t.spire x).keep.bt.outbox = (s.spire x).keep.bt.outbox.filter (fun e => !sent.contains e.2) ∧
          (t.spire x).keep.tokens = (s.spire x).keep.tokens ∧ t.rd R.BT_TXCNT x = (if sent = [] then s.rd R.BT_TXCNT x else min (s.rd R.BT_TXCNT x + sent.length) 0xFFFFFFFF)) ∧
        t = settle { s with out := t.out, sp := t.sp, regs := t.regs })) ∧
    (s.mode.cur.track = false → Completes .boundaryTransmit s (fun t => t = settle { s with out := [] })) ∧
    (∀ (c : Svc) (x : SvcSess) (o : SettleOp), s.svcFind c = some x → x.role = .maintainer → s.pwr.warn = false → s.mode.cur.settles = true → s.settleTokens o ≠ [] →
      Completes (.settle c o) s (fun t =>
        (∀ y, y < 3 → s.isCompared y = true → (t.spire y).keep.tokens = (s.spire y).keep.tokens ∧ ∀ k ∈ s.settleTokens o,
          ⟨o.number % 65536, x.role.code, k, s.kctx.listing k, s.time.count⟩ ∈ (t.spire y).keep.bt.settles ∧
          ∀ a ∈ s.kctx.listing k, ∃ r, (s.time.count, r) ∈ (t.spire y).keep.bt.outbox ∧ r.kind = 7 ∧ r.dst = a ∧ r.aux = o.number % 65536) ∧
        t = settle { s.noted c x 2 0 (svcCode cmdSettle) 0 (o.element.getD o.peer) o.number with sp := t.sp })) ∧
    (∀ e, s.theKeep.bt.settles.filter (fun e => decide (e.start + s.settleLimit e.token ≤ s.time.count)) = [e] → Completes .settleTimeout s (fun t =>
      (∀ x, x < 3 → s.isCompared x = true → (t.spire x).keep.bt.settles = (s.spire x).keep.bt.settles.filter (fun f => f.token != e.token)) ∧
      (∀ y, y < 3 → t.rd R.BT_AUTH_RES y = 3 + e.number % 65536 * 65536) ∧ Recorded s t [s.recOf .btReconAuth srcKeep (s.elementOf e.token) (e.role * 256 + 3)] ∧
      t = settle { s with out := [], sp := t.sp, regs := t.regs, rcd := t.rcd })) ∧
    (∀ (c : Svc) (x : SvcSess) (o : SettleOp) (k : Nat), s.svcFind c = some x → s.pwr.warn = false → s.mode.cur.settles = true → o.element.bind s.kctx.tokenOf = some k → s.fenceOk o k = true →
      let opnds := [o.element.getD 0, o.peer, o.number]
      let waits := s.svc.confirms.any (fun p => p.code == cmdFence && p.opnds == opnds && decide (s.time.clockNs ≤ p.untilNs))
      (x.role = .maintainer → Completes (.fence c o) s (fun t => ⟨cmdFence, opnds, s.time.clockNs + 60000000000⟩ ∈ t.svc.confirms ∧
        t = settle { s.noted c x 2 0 (svcCode cmdFence) 0 (o.element.getD 0) o.peer with svc := t.svc })) ∧
      (x.role = .auditor → waits = true → (∀ y, s.isCompared y = true → k < (s.spire y).keep.tokens.length ∧ ((s.spire y).keep.token k).bad = false) → Completes (.fence c o) s (fun t =>
        (∀ y, y < 3 → s.isCompared y = true → ((t.spire y).keep.token k).st = 0 ∧ ((t.spire y).keep.token k).recon = false ∧ ((t.spire y).keep.token k).holder = 0xFFFF ∧
          ((t.spire y).keep.token k).resident = decide (((s.spire y).keep.token k).home ≠ s.kctx.own) ∧
          (o.peer, ((s.peers.find? (fun p => p.addr == o.peer)).map PeerSt.seenEpoch).getD 0) ∈ (t.spire y).keep.bt.fences) ∧
        (∀ y, y < 3 → t.rd R.BT_AUTH_RES y = 9 + o.number % 65536 * 65536) ∧ (∀ p ∈ t.svc.confirms, p.code ≠ cmdFence) ∧ t.mode = s.mode))) ∧
    (∀ peer cause, s.peers.any (fun p => p.addr == peer && p.admitted) = true → Completes (.admissionLapse peer cause) s (fun t =>
      t.peers = s.peers.map (fun p => if p.addr == peer then { p with admitted := false } else p) ∧ t.src 125 = raisedSrc s 125 2 0 peer false ∧ (∀ n, n ≠ 125 → t.src n = s.src n) ∧
      Recorded s t [s.evOf .btAdmitLost srcKeep peer cause, s.raiseRec 125 2 0 peer false false ((t.src 125).st == .latched)] ∧
      RegsKept s t [] ∧ t = settle { s with out := t.out, peers := t.peers, fc := t.fc, rcd := t.rcd, regs := t.regs }))

/-! ### Pager, banks and image load (spec/09, spec/03) -/

/-- R179, R180, R181, R186, R188, R190, R193 to R196, R201 to R203, spec/10 R226, spec/19 R416. -/
def Obligations.PagesAndBanksAreKept : Prop :=
  ∀ (s : State), NoResets s →
    (∀ x page n err, FillDue s x page → (s.pgOf x).empty? = some n → Completes (.pageFill x page err) s (fun t => Filled s t x ∧ t.mode = s.mode ∧
      (t.pgOf x).slots = (s.pgOf x).slots ++ [⟨page, n, false, false, false, err == some true⟩] ∧
      t.fld F.PG_DRAM_ECC_UNCORR x = (if err = some true then min (s.fld F.PG_DRAM_ECC_UNCORR x + 1) F.PG_DRAM_ECC_UNCORR.max else s.fld F.PG_DRAM_ECC_UNCORR x) ∧
      t.fld F.PG_DRAM_ECC_CORR x = (if err = some false then min (s.fld F.PG_DRAM_ECC_CORR x + 1) F.PG_DRAM_ECC_CORR.max else s.fld F.PG_DRAM_ECC_CORR x) ∧
      (err = some true → (t.src (24 * x + 14)).cond = true) ∧ (err = none → PagerOnly s t x))) ∧
    (∀ x page, FillDue s x page → (s.pgOf x).empty? = none → Completes (.pageFill x page none) s (fun t => PagerOnly s t x ∧
      ((∀ q, ¬ s.mayGoOut x q) → t.pgOf x = { s.pgOf x with filling := some page } ∧ t.regs = s.regs) ∧
      ((∃ q, s.mayGoOut x q) → Filled s t x ∧ ∃ v, s.mayGoOut x v ∧ ((∃ q, s.mayGoOut x q ∧ q.demand = true) → v.demand = true) ∧
        ((∀ q, s.mayGoOut x q → q.demand = false) → (∃ q, s.mayGoOut x q ∧ s.inAnyWindow x q.page = false) → s.inAnyWindow x v.page = false) ∧
        (t.pgOf x).slots = (s.pgOf x).slots.filter (fun r => decide (r ≠ v)) ++ [⟨page, v.home, false, false, false, false⟩]))) ∧
    (∀ x page err, x < 3 → s.mode.cur.runs = true → s.channelOf x ≠ some page → Completes (.pageFill x page err) s (fun t => t.regs = s.regs ∧ PagerOnly s t x ∧
      t.pgOf x = { s.pgOf x with filling := s.channelOf x })) ∧
    (∀ x g n, x < 3 → s.fc.inject = [] → ¬ ((s.eng x).run = true ∧ (s.eng x).group = g) → (∃ q ∈ (s.pgOf x).slots, q.page = .group g ∧ q.dirty = true) →
      Completes (.writeBack x g ⟨n, none⟩) s (fun t =>
        t.pgOf x = { s.pgOf x with slots := (s.pgOf x).slots.map (fun q => if q.page = .group g then { q with dirty := false } else q) } ∧
        t.rd R.PG_WBACK x = min (s.rd R.PG_WBACK x + 1) 0xFFFFFFFF ∧ (∀ b, b < 24 → s.pageBank x (.group g) = some b → Collided s t x b n) ∧ PagerOnly s t x)) ∧
    (∀ x page n e l, x < 3 → s.fc.inject = [] → (s.pgOf x).qpend = e :: l → e.1 = page → Sparse.wf (fun _ => false) (s.spire x).mem.q = true →
      Sparse.wf (fun _ => false) (Sparse.get (fun _ => ([] : Sparse Bool)) (s.pgOf x).qcopy e.2) = true →
      let copy := fun (u : State) k => Sparse.get (fun _ => ([] : Sparse Bool)) (u.pgOf x).qcopy k
      Completes (.qPageCopy x page ⟨n, none⟩) s (fun t =>
        (∀ a, Sparse.get (fun _ => false) (copy t e.2) a = if page * 32768 ≤ a ∧ a < page * 32768 + 32768 then Sparse.get (fun _ => false) (s.spire x).mem.q a
          else Sparse.get (fun _ => false) (copy s e.2) a) ∧ (∀ k, k ≠ e.2 → copy t k = copy s k) ∧
        (∀ d, d ∈ (t.pgOf x).qpend ↔ d ∈ (s.pgOf x).qpend ∧ d ≠ e) ∧ (∀ b, b < 24 → s.pageBank x (.q page) = some b → Collided s t x b n) ∧ PagerOnly s t x ∧
        (s.sched.cur = 31 → t.regs = s.regs))) ∧
    (∀ x page p, x < 3 → (∀ e, (s.pgOf x).qpend.head? = some e → e.1 ≠ page) → Completes (.qPageCopy x page p) s (fun t => t = settle { s with out := [] })) ∧
    (∀ x p, x < 3 → s.fc.inject = [] → (s.pgOf x).scrubPos < 786432 →
      let w := (s.pgOf x).scrubPos
      let b := w / 32768
      (2 ≤ s.fld (pwrField x) → Completes (.scrubRead x p) s (fun t => t = settle { s with out := [] })) ∧
      (s.fld (pwrField x) < 2 → s.keepClosed b = true → Completes (.scrubRead x p) s (fun t => Collided s t x b (max 1 p.coll) ∧ (∀ k, k ≠ R.BANK_STAT.key b x → t.word k = s.word k) ∧
        t = settle { s with out := [], regs := t.regs })) ∧
      (s.fld (pwrField x) < 2 → s.keepClosed b = false →
        (p.err = none → Completes (.scrubRead x p) s (fun t => t.pgOf x = { s.pgOf x with scrubPos := (w + 1) % 786432 } ∧ Collided s t x b p.coll ∧ PagerOnly s t x ∧
          (∀ k, k ≠ R.BANK_STAT.key b x → t.word k = s.word k))) ∧
        (p.err = some false → Completes (.scrubRead x p) s (fun t => (t.pgOf x).scrubPos = (w + 1) % 786432 ∧ t.mode = s.mode ∧ Collided s t x b p.coll ∧
          t.fld F.BANK_STAT_ECC_CORR b x = min (s.fld F.BANK_STAT_ECC_CORR b x + 1) F.BANK_STAT_ECC_CORR.max ∧ RegsKept s t (R.BANK_STAT.key b x :: wakeKeys))) ∧
        (p.err = some true → s.trial = false → (s.src (24 * x + 5)).force = false → Completes (.scrubRead x p) s (fun t => (t.src (24 * x + 5)).cond = true ∧ (t.src (24 * x + 5)).sev = 3 ∧
          (t.src (24 * x + 5)).unit = b ∧ (s.isCompared x = true → t.isCompared x = false) ∧ (s.isCompared x = false → (t.pgOf x).scrubPos = (w + 1) % 786432))))) ∧
    (∀ x, x < 3 → (s.pgOf x).copying = true → s.fc.inject = [] → Completes (.snapshotCopyComplete x none) s (fun t => (t.pgOf x).copying = false ∧ (∀ y, y < 3 → y ≠ x → t.pgOf y = s.pgOf y) ∧
      (∀ y, y < 3 → (t.spire y).mem = (s.spire y).mem ∧ (t.spire y).keep = (s.spire y).keep) ∧ t.mode = s.mode ∧
      (s.isCompared x = false ∨ (∃ y, y < 3 ∧ y ≠ x ∧ s.isCompared y = true ∧ (s.pgOf y).copying = true) → t = settle { s with out := [], sp := t.sp }) ∧
      (∀ n l y, s.isCompared x = true → (∀ z, z < 3 → z ≠ x → s.isCompared z = true → (s.pgOf z).copying = false) → (s.pgOf s.bodySpire).snaps = n :: l → s.compared.length = 2 →
        y < 3 → s.bf.spst.get y = .copy → s.bf.copySeq.get y = none → t.bf.copySeq.get y = some n.seq))) ∧
    (∀ (m : MarchOp) (q : MarchReq), s.compared ≠ [] → (∀ x ∈ s.compared, s.fld (pwrField x) < 2) → m.bank < 24 → (s.pgOf s.bodySpire).march = some q → q.bank = m.bank → q.block = m.block →
      q.go = true ∨ s.sched.cur = 31 → m.faulty = Three.all none →
      let unit := s.content.banks.getD m.bank 0
      let off := s.content.bankOffset m.bank m.block
      Completes (.marchStep m) s (fun t =>
        (∀ x, x < 3 → s.isCompared x = true →
          t.pgOf x = { s.pgOf x with march := if m.block + 1 < 64 then some { q with block := m.block + 1, go := false } else none } ∧ t.flag F.MT_STATUS_BUSY x = decide (m.block + 1 < 64) ∧
          t.flag F.BANK_STAT_FENCED m.bank x = (unit == 0) ∧ Collided s t x m.bank (m.coll.get x) ∧
          (m.block = 0 → t.fld F.MT_STATUS_RESULT x = 0) ∧ (m.block ≠ 0 → t.fld F.MT_STATUS_RESULT x = s.fld F.MT_STATUS_RESULT x)) ∧
        (s.sched.cur = 31 → ∀ x, t.eng x = s.eng x) ∧
        (q.preserve = true ∨ (∀ u ∈ [2, 3, 4, 5, 6], unit ≠ u) → ∀ x, x < 3 → (t.spire x).mem = (s.spire x).mem ∧ (t.spire x).keep = (s.spire x).keep) ∧
        (q.preserve = false → unit = 2 → ∀ x, x < 3 → (t.spire x).mem = (s.spire x).mem ∧
          (t.spire x).keep = { (s.spire x).keep with tokens := (t.spire x).keep.tokens } ∧ (t.spire x).keep.tokens.length = (s.spire x).keep.tokens.length ∧
          ∀ k, k < off / 16 ∨ off / 16 + 256 ≤ k → (t.spire x).keep.tokens[k]? = (s.spire x).keep.tokens[k]?) ∧
        (q.preserve = false → unit = 3 → ∀ x, x < 3 → (t.spire x).mem = (s.spire x).mem ∧ (t.spire x).keep = { (s.spire x).keep with slots := (t.spire x).keep.slots } ∧
          ∀ k, k < off / 256 ∨ off / 256 + 16 ≤ k → Sparse.get (fun _ => TSlot.closed) (t.spire x).keep.slots k = Sparse.get (fun _ => TSlot.closed) (s.spire x).keep.slots k) ∧
        (q.preserve = false → unit = 5 → ∀ x, x < 3 → (t.spire x).keep = (s.spire x).keep ∧ (t.spire x).mem = { (s.spire x).mem with t := (t.spire x).mem.t }) ∧
        (unit = 4 ∨ unit = 6 → ∀ x, x < 3 → (t.spire x).keep = (s.spire x).keep) ∧
        (q.preserve = true ∨ (unit ≠ 4 ∧ unit ≠ 6) → t = settle { s with out := [], free := t.free, sp := t.sp, regs := t.regs }))) ∧
    (∀ (m : MarchOp), (∃ x ∈ s.compared, 2 ≤ s.fld (pwrField x)) → Completes (.marchStep m) s (fun t => t = settle { s with out := [] })) ∧
    (∀ (m : MarchOp) (q : MarchReq) (x row : Nat), (∀ x ∈ s.compared, s.fld (pwrField x) < 2) → s.isCompared x = true → x < 3 → m.bank < 24 → (s.pgOf s.bodySpire).march = some q → q.bank = m.bank → q.block = m.block →
      s.sched.cur = 31 → q.preserve = true → m.faulty = (Three.all none).set x (some row) → (m.bank, row) ∉ (s.pgOf x).repair → (s.pgOf x).sparesOf m.bank < 8 →
      Completes (.marchStep m) s (fun t => (t.pgOf x).repair = (s.pgOf x).repair ++ [(m.bank, row)] ∧
        (t.src (24 * x + 5)).cond = true ∧ (t.src (24 * x + 5)).sev = 1 ∧ t.mode = s.mode ∧ (t.pgOf x).march = (if m.block + 1 < 64 then some { q with block := m.block + 1, go := false } else none) ∧
        Recorded s t [s.recOf .bankRowSpared (srcSpire x) m.bank row, s.raiseRec (24 * x + 5) 1 m.bank 4 false false ((t.src (24 * x + 5)).st == .latched)])) ∧
    (∀ (m : MarchOp), s.compared ≠ [] → (∀ x ∈ s.compared, s.fld (pwrField x) < 2) → (s.pgOf s.bodySpire).march = none → s.flag F.MT_AUTO_PERIOD s.bodySpire = true → s.sched.cur = 31 → s.stepFits = true →
      m.faulty = Three.all none → m.block < 64 → m.bank < 24 → (s.pgOf s.bodySpire).autoPos = m.bank * 64 + m.block →
      Completes (.marchStep m) s (fun t => ∀ x, x < 3 → s.isCompared x = true → (t.pgOf x).autoPos = (if m.bank * 64 + m.block + 1 = 1536 then 0 else m.bank * 64 + m.block + 1) ∧
        t.rd R.MT_PASS x = (if m.bank * 64 + m.block + 1 = 1536 then min (s.rd R.MT_PASS x + 1) 0xFFFFFFFF else s.rd R.MT_PASS x))) ∧
    (∀ (c : Svc) (x : SvcSess) (v : SpireVals) (a : Nat), s.svcFind c = some x → v.common s.compared = some a →
      (s.mode.cur = .maintenance → x.role = .maintainer → s.pwr.warn = false → a % 32 ≤ 23 → bits a 8 2 ≤ 1 → bitOf a 31 = true → Completes (.mtCtrlStart c v) s (fun t => SpiresAwake s t ∧
        (∀ y, y < 3 → s.isCompared y = true →
          ((s.pgOf y).march = none → t.pgOf y = { s.pgOf y with march := some ⟨a % 32, bits a 8 2, bitOf a 12, 0, s.sched.cur == 31⟩ } ∧ (s.sched.cur = 31 → t.rd R.MT_STATUS y = 1 + a % 32 * 8 ∧ t.flag F.BANK_STAT_FENCED (a % 32) y = true)) ∧
          ((s.pgOf y).march.isSome = true → t.pgOf y = s.pgOf y ∧ t.fld F.MT_STATUS_RESULT y = 3)) ∧
        (∀ y, y < 3 → s.isCompared y = false → t.pgOf y = s.pgOf y) ∧
        t = settle { s.noted c x 1 (spireMask s.compared) (R.MT_CTRL.key 0 0) (s.rd R.MT_CTRL s.bodySpire) a 0 with sp := t.sp, regs := t.regs, pwr := t.pwr })) ∧
      (24 ≤ a % 32 ∨ 2 ≤ bits a 8 2 → Completes (.mtCtrlStart c v) s (fun t => RefusedBy s t c x (R.MT_CTRL.key 0 0))))

/-- R70 to R73, spec/21 R448: IMAGE_LOAD and STAGED_IMAGE_CHECK. -/
def Obligations.ImagesAreTakenByAgreeingSpires : Prop :=
  ∀ (s : State), s.compared = [0, 1, 2] →
    (s.mode.cur = .load → s.trial = false → ∀ docs : Three ImageDoc,
      let fails := fun x => match s.checkImage (docs.get x) with | some f => some f | none => if (docs.get x).delta then some (failAt 0x1F 48) else none
      Completes (.imageLoad docs) s (fun t =>
        (fails 0 = none → fails 1 = none → fails 2 = none → docs.b = docs.a → docs.c = docs.a →
          let m := s.forStrap docs.a.image
          t.img = some m ∧ ModeIs s t .integrate 0 ∧ t.fld F.IMG_STATUS_FAIL_CODE = 0 ∧ t.compared = [0, 1, 2] ∧
          t.rd R.IMG_ID_LO = m.id.hash % 2 ^ 32 ∧ t.rd R.IMG_VERSION = m.id.version % 2 ^ 32 ∧
          (∀ x, x < 3 → (t.spire x).mem = m.mem ∧ (t.spire x).keep.tokens = (m.keep (t.rd R.BT_EPOCH) s.time.count).tokens) ∧ (∀ n, t.src n = s.src n)) ∧
        (∀ f, fails 0 = some f → fails 1 ≠ none → fails 2 ≠ none → t.img = s.img ∧ ModeIs s t .safeHalt 11 ∧ t.fld F.IMG_STATUS_FAIL_CODE = f.code % 256 ∧
          (∀ x, x < 3 → (t.spire x).mem = (s.spire x).mem)))) ∧
    (∀ (h : OlHeader) (docs : Three ImageDoc) (removed : List (Nat × Nat)), s.upd.olHeader = some h → s.deltaComplete = true → s.img.isSome = true →
      let fails := fun x => s.checkMerged h removed (docs.get x)
      Completes (.stagedImageCheck docs removed) s (fun t => t.img = s.img ∧ t.mode = s.mode ∧ t.sp = s.sp ∧
        (fails 0 = none → fails 1 = none → fails 2 = none → docs.b = docs.a → docs.c = docs.a →
          t.upd = { s.upd with staged := some (s.forStrap docs.a.image) } ∧ t.fld F.OL_STATUS_STATE = 1 ∧ t.rd R.STG_ID_LO = (s.forStrap docs.a.image).id.hash % 2 ^ 32) ∧
        (fails 0 ≠ none → fails 1 ≠ none → fails 2 ≠ none → t.upd = { s.upd with staged := none })))

/-! ### Belfry (spec/10) -/

/-- R208, R212, R217 to R222: the record triple at the heads of the delay registers. -/
def Obligations.TriplesAreVotedOn : Prop :=
  ∀ (s : State), Comparing3 s →
    let next := fun (t : State) r => t.bf.pos = s.bf.pos + 1 ∧ t.bf.barrierReady = (isBarrier r || s.bf.barrierReady) ∧
      (∀ c, c < 3 → t.rd R.BF_RECS c = min (s.rd R.BF_RECS c + 1) 0xFFFFFFFF)
    (∀ r, s.headRec 0 = some r → s.headRec 1 = some r → s.headRec 2 = some r → Completes (.recordCompare ⟨[], []⟩ none) s (fun t => next t r ∧
      t = settle { s with out := [], bf := t.bf, regs := t.regs } ∧ t.bf.spst = s.bf.spst ∧ t.bf.sliceIso = s.bf.sliceIso ∧ (∀ x, x < 3 → t.bf.streams.get x = (s.bf.streams.get x).tail))) ∧
    (∀ r w x, x < 3 → r ≠ w → (∀ y, y < 3 → s.headRec y = some (if y = x then w else r)) → s.mode.cur.runs = true → Completes (.recordCompare ⟨[], []⟩ none) s (fun t =>
      next t r ∧ IsolatedFrom3 s t x ∧ t.bf.sliceIso = s.bf.sliceIso ∧ (∀ y, y < 3 → y ≠ x → t.bf.streams.get y = (s.bf.streams.get y).tail) ∧
      (∀ c, c < 3 → t.fld F.BF_MM_VERDICT c = 1 + x))) ∧
    (∀ a b c, s.headRec 0 = some a → s.headRec 1 = some b → s.headRec 2 = some c → a ≠ b → b ≠ c → a ≠ c → s.mode.cur.runs = true → s.trial = false → (s.src 75).force = false →
      Completes (.recordCompare ⟨[], []⟩ none) s (fun t => NoMajorityLeft s t ∧ ∀ k, k < 3 → t.fld F.BF_MM_VERDICT k = 4)) ∧
    (∀ r w a b x y, x < 3 → y < 3 → x ≠ y → r ≠ w → a ≠ b → (∀ z, z < 3 → s.headRec z = some (if z = x then w else r)) → (∀ z, z < 3 → s.recAt 1 z = some (if z = y then b else a)) →
      s.mode.cur.runs = true → s.trial = false → (s.src 75).force = false → Completes (.recordCompare ⟨[], []⟩ (some ⟨[], []⟩)) s (fun t => NoMajorityLeft s t)) ∧
    (∀ r i v, i < 3 → 1 ≤ v → v ≤ 7 → s.headRec 0 = some r → s.headRec 1 = some r → s.headRec 2 = some r → Completes (.recordCompare ⟨[], [(i, v)]⟩ none) s (fun t =>
      t.bf.sliceIso = s.bf.sliceIso.set i true ∧ t.bf.spst = s.bf.spst ∧ (t.src (72 + i)).cond = true ∧ t.mode = s.mode ∧ t.bf.pos = s.bf.pos + 1 ∧
      (∀ c, c < 3 → t.rd R.BF_RECS c = if c = i then s.rd R.BF_RECS c else min (s.rd R.BF_RECS c + 1) 0xFFFFFFFF))) ∧
    (∀ r x, x < 3 → (∀ y, y < 3 → s.headRec y = if y = x then none else some r) → s.mode.cur.runs = true → Completes .lagTimeout s (fun t =>
      next t r ∧ IsolatedFrom3 s t x ∧ (∀ y, y < 3 → y ≠ x → t.bf.streams.get y = (s.bf.streams.get y).tail))) ∧
    (∀ l, s.tbMs ≠ 0 → s.bf.openL4 = false → Completes (.tickWindow ⟨Three.all (some l), [], none⟩) s (fun t =>
      ∃ u, AtAngle s u (tickAngle s.tbMs (ticksAt s.tbMs s.time.angle - 1 + 1)) ∧ t = settle { u with bf := { s.bf with openL4 := s.inL4 }, regs := t.regs } ∧
        (∀ c, c < 3 → t.rd R.BF_SIGWIN c = min (s.rd R.BF_SIGWIN c + 1) 0xFFFFFFFF) ∧ ∀ k, (∀ c, c < 3 → k ≠ R.BF_SIGWIN.key c 0) → t.word k = s.word k)) ∧
    (∀ w, s.tbMs ≠ 0 → s.bf.openL4 = true → Completes (.tickWindow w) s (fun t =>
      ∃ u, AtAngle s u (tickAngle s.tbMs (ticksAt s.tbMs s.time.angle - 1 + 1)) ∧ t = settle { u with bf := { s.bf with openL4 := s.inL4 } })) ∧
    (∀ (w : Three (Option WinWrites)) l m x, x < 3 → s.tbMs ≠ 0 → s.bf.openL4 = false → misr l ≠ misr m → (∀ y, y < 3 → w.get y = some (if y = x then m else l)) → s.mode.cur.runs = true →
      Completes (.tickWindow ⟨w, [], none⟩) s (fun t => IsolatedFrom3 s t x ∧ (∀ c, c < 3 → t.fld F.BF_MM_VERDICT c = 1 + x))) ∧
    (∀ id l, Completes (.serviceWindowClose id ⟨Three.all (some l), [], none⟩) s (fun t => t = settle { s with out := [], regs := t.regs } ∧
      (∀ c, c < 3 → t.rd R.BF_SIGWIN c = min (s.rd R.BF_SIGWIN c + 1) 0xFFFFFFFF) ∧ ∀ k, (∀ c, c < 3 → k ≠ R.BF_SIGWIN.key c 0) → t.word k = s.word k)) ∧
    (∀ (w : Three (Option WinWrites)) id l m x, x < 3 → misr l ≠ misr m → (∀ y, y < 3 → w.get y = some (if y = x then m else l)) → s.mode.cur.runs = true →
      Completes (.serviceWindowClose id ⟨w, [], none⟩) s (fun t => IsolatedFrom3 s t x))

/-- R223, R224, R226, R227, R232 to R234, R478: a spire's way back, isolation and injection on command. -/
def Obligations.SpiresComeBackThroughTheirTests : Prop :=
  ∀ (s : State),
    (∀ (o : SpireTest), Testing s o.spire → TestPassed s o →
      let k := 24 * o.spire + 10
      Completes (.spireSelftestEnd o) s (fun t => OthersStand s t o.spire ∧
        ((s.src k).st = .latched → t.bf.spst.get o.spire = .latched ∧ t.src k = s.src k) ∧
        ((s.src k).st = .active → (s.src k).cond = true → (s.src k).force = false → s.quietCode k ≠ 0 → s.bf.freed.get o.spire = false →
          t.bf.spst.get o.spire = .quiet ∧ (t.src k).st = .quiet ∧ (t.src k).quietEnd = s.time.clockNs - o.reloadMs * 1000000 + quietNs (s.quietCode k)) ∧
        ((s.src k).st = .clear → (s.src k).cond = false → s.bf.freed.get o.spire = false → t.bf.spst.get o.spire = .copy))) ∧
    (∀ (o : SpireTest), Testing s o.spire → ¬ TestPassed s o → Completes (.spireSelftestEnd o) s (fun t => OthersStand s t o.spire ∧
      t.bf.spst.get o.spire = .latched ∧ (t.src (24 * o.spire + 10)).st = .latched ∧ (t.src (24 * o.spire + 11)).cond = true)) ∧
    (∀ x test, Testing s x → Completes (.selftestTimeout x test) s (fun t => OthersStand s t x ∧
      t.bf.spst.get x = .latched ∧ (t.src (24 * x + 10)).st = .latched ∧ (t.src (24 * x + 11)).cond = true ∧ (t.src (24 * x + 11)).unit = test)) ∧
    (∀ x d e m n o, x < 3 → s.compared = [d, e] → s.bf.spst.get x = .copy → s.bf.copySeq.get x = some m → NoResets s →
      (s.spire d).pg.snaps.find? (fun n => n.seq == m) = some n → (s.spire e).pg.snaps.find? (fun n => n.seq == m) = some o →
      (∀ mis, (∃ off, mis = some off) ∨ n ≠ o ∨ s.donorRegsAgree d e = false → s.bf.retries.get x < 2 → Completes (.reintCopyComplete x mis) s (fun t => OthersStand s t x ∧
        t.bf.spst.get x = .quiet ∧ t.bf.copySeq.get x = none ∧ t.bf.retries.get x = s.bf.retries.get x + 1 ∧ (t.src 80).cond = true ∧ (t.src 80).unit = x)) ∧
      (∀ mis, (∃ off, mis = some off) ∨ n ≠ o ∨ s.donorRegsAgree d e = false → 2 ≤ s.bf.retries.get x → Completes (.reintCopyComplete x mis) s (fun t => OthersStand s t x ∧
        t.bf.spst.get x = .latched ∧ (t.src (24 * x + 10)).st = .latched)) ∧
      (n = o → s.donorRegsAgree d e = true → Completes (.reintCopyComplete x none) s (fun t => OthersStand s t x ∧ t.bf.spst.get x = .join ∧
        (t.spire x).mem = n.mem ∧ (t.spire x).keep = n.keep))) ∧
    (∀ x d e, x < 3 → s.compared = [d, e] → s.bf.spst.get x = .join → s.bf.joinHold = true → s.bf.entering.get x = false → NoResets s →
      ((s.time.clockNs - s.bf.joinSince) / 1000 ≤ 5000 → s.donorsAgree d e = true → Completes (.spireRejoined x none) s (fun t => ∃ u : State, t = settle u.endJoinHold ∧
        u.bf.entering.get x = true ∧ u.bf.spst = s.bf.spst ∧ u.bf.retries.get x = 0 ∧ (u.spire x).mem = (s.spire d).mem ∧ (u.spire x).keep = (s.spire d).keep ∧
        (∀ y, y < 3 → y ≠ x → u.spire y = s.spire y) ∧
        u.mode.cur = (if s.mode.cur = .active2oo2 then .active else s.mode.cur) ∧ (s.mode.cur = .active2oo2 → u.mode.cause = 9 ∧ u.mode.prev = 8))) ∧
      (∀ mis, (s.time.clockNs - s.bf.joinSince) / 1000 ≤ 5000 → (∃ off, mis = some off) ∨ s.donorsAgree d e = false → s.bf.retries.get x < 2 → Completes (.spireRejoined x mis) s (fun t =>
        ∃ u : State, t = settle u.endJoinHold ∧ u.bf.spst = s.bf.spst.set x .quiet ∧ u.bf.retries.get x = s.bf.retries.get x + 1 ∧ (u.src 80).cond = true ∧ (u.src 80).unit = x ∧ u.mode = s.mode)) ∧
      (s.bf.retries.get x < 2 → Completes (.reintJoinTimeout x) s (fun t => ∃ u : State, t = settle u.endJoinHold ∧ u.bf.spst = s.bf.spst ∧ u.bf.retries.get x = s.bf.retries.get x + 1 ∧
        (u.src 81).cond = true ∧ (u.src 81).unit = x ∧ s.bf.joinSince + 5000000 ≤ u.time.clockNs ∧ u.mode = s.mode))) ∧
    (∀ x d e, x < 3 → s.compared = [d, e] → s.bf.entering.get x = true → s.bf.entering.get d = false → s.bf.entering.get e = false →
      let u := s.enterJoined
      u.compared = [0, 1, 2] ∧ u.bf.entering.get x = false ∧ u.bf.streams.get x = s.bf.streams.get d ∧ (u.spire x).eng = (s.spire d).eng ∧ (u.spire x).mem = (s.spire d).mem ∧
        (u.spire x).keep = (s.spire d).keep ∧ (u.spire x).pg.repair = (s.spire x).pg.repair ∧ ∀ y, y < 3 → y ≠ x → u.spire y = s.spire y) ∧
    (∀ (c : Svc) (v : SpireVals) (a : Nat) (q : SvcSess), s.svcFind c = some q → v.common s.liveSlices = some a → q.role = .maintainer → s.mode.cur = .maintenance → s.pwr.warn = false → NoResets s → s.bfCmdRo a = true →
      (bits a 2 2 = 1 → bits a 0 2 < 3 → s.compared = [0, 1, 2] → Completes (.bfCmdIsolate c v) s (fun t => t.bf.spst = s.bf.spst.set (bits a 0 2) .selftest ∧
        t.bf.uncounted.get (bits a 0 2) = true ∧ (t.src (24 * bits a 0 2 + 10)).cond = true ∧ ((s.src (24 * bits a 0 2 + 10)).st = .clear → (t.src (24 * bits a 0 2 + 10)).forced = true) ∧
        t.mode = s.mode ∧ t.chgNext = s.chgNext + 1)) ∧
      (bits a 2 2 = 2 → bits a 0 2 < 3 → Completes (.bfCmdInject c v none) s (fun t => t.bf = { s.bf with injectFailed := false, vote := 0 } ∧ (∀ y, y < 3 → t.rd R.BF_INJ y = 1) ∧
        t = settle { s.noted c q 1 (spireMask s.liveSlices) (R.BF_CMD.key 0 0) (s.rd R.BF_CMD s.leadSlice) a 0 with bf := t.bf, regs := t.regs })) ∧
      (∀ f g p, bits a 2 2 = 2 → bits a 0 2 < 3 → s.trial = false → Completes (.bfCmdInject c v (some (f, g, p))) s (fun t => t.bf.injectFailed = true ∧ t.bf.vote = 0 ∧
        (∀ y, y < 3 → t.rd R.BF_INJ y = 1 + 2 ^ (f % 3 + 1) + g % 16 * 16 + p % 512 * 65536) ∧
        t.mode.cur = (if (s.src 77).st = .latched ∨ ((s.src 77).st = .clear ∧ s.recLimit 77 ≤ (s.src 77).winCnt) then .isolated else .safeHalt))))

/-! ### Pair operation (spec/11) -/

/-- R242 to R256: chunks, deltas, missing frames, takeover and the switch-over. -/
def Obligations.ThePairKeepsOneActiveMember : Prop :=
  ∀ (s : State), NoResets s →
    (∀ k, s.mode.cur = .shadow ∨ s.mode.cur = .standby → s.pair.decided = none → s.fc.inject = [] →
      (GoodChunk s k → s.mode.cur = .standby → k.kind ≤ 2 → (∀ c ∈ s.pair.chunks, ¬ (c.snapSeq = k.snapSeq ∧ c.chunk = k.chunk ∧ c.kind = k.kind)) →
        Completes (.pairChunk k) s (fun t => PairIs t { s.pair with chunks := k :: s.pair.chunks } ∧ t = settle { s with out := [], pair := t.pair, regs := t.regs, pwr := t.pwr })) ∧
      (GoodChunk s k → s.mode.cur = .shadow → 3 ≤ k.kind → k ∉ s.pair.copy → (∀ c ∈ s.pair.copy, c.snapSeq = k.snapSeq) → wholeOf (k :: s.pair.copy) = none →
        Completes (.pairChunk k) s (fun t => PairIs t { s.pair with copy := k :: s.pair.copy } ∧
          t.fld F.PAIR_COPY_DONE = min ((k :: s.pair.copy).filter (fun c => c.kind == 3)).length 65535 % 2 ^ F.PAIR_COPY_DONE.w ∧
          t = settle { s with out := [], pair := t.pair, regs := t.regs, pwr := t.pwr })) ∧
      (triValid k.cv (k.cvOf s.content.ring.poly s.content.ring.addrA) < 2 → Completes (.pairChunk k) s (fun t => t.fld F.PAIR_STATUS_NAK = k.chunk % 65536 ∧
        t.fld F.PAIR_REJ_CHECK = min (s.fld F.PAIR_REJ_CHECK + 1) F.PAIR_REJ_CHECK.max ∧ PairIs t s.pair ∧ t = settle { s with out := [], pair := t.pair, regs := t.regs, pwr := t.pwr })) ∧
      (2 ≤ triValid k.cv (k.cvOf s.content.ring.poly s.content.ring.addrA) → k.src ≠ s.fld F.PAIR_CONF_PARTNER ∨ k.kind = 0 ∨ 4 < k.kind → Completes (.pairChunk k) s (fun t =>
        t.fld F.PAIR_STATUS_NAK = k.chunk % 65536 ∧ t.fld F.PAIR_REJ_OTHER = min (s.fld F.PAIR_REJ_OTHER + 1) F.PAIR_REJ_OTHER.max ∧ PairIs t s.pair ∧ t = settle { s with out := [], pair := t.pair, regs := t.regs, pwr := t.pwr }))) ∧
    (∀ d z, s.mode.cur = .standby → s.pair.decided = none → wholeSeal s.pair.chunks = some (d, z) →
      let rest := s.pair.chunks.filter (fun k => decide (z.snapSeq < k.snapSeq))
      (z.snapSeq ≤ s.pair.snapSeq → Completes .deltaApply s (fun t => t.pair = { s.pair with chunks := rest } ∧ t.fld F.PAIR_REJ_OTHER = min (s.fld F.PAIR_REJ_OTHER + 1) F.PAIR_REJ_OTHER.max ∧
        SpiresAwake s t ∧ t = settle { s with out := [], pair := t.pair, regs := t.regs, pwr := t.pwr })) ∧
      (s.pair.snapSeq < z.snapSeq → z.trailer.base ≠ s.pair.snapSeq ∨ (z.trailer.id ≠ s.content.id ∧ s.upd.staged = none) → Completes .deltaApply s (fun t =>
        ModeIs s t .shadow 7 ∧ PairIs t { s.pair with chunks := [], buffered := [], copy := [], copyReq := true, snapSeq := 0 } ∧ t.sp = s.sp ∧
        t.fld F.PAIR_EVENTS_RESYNCS = min (s.fld F.PAIR_EVENTS_RESYNCS + 1) F.PAIR_EVENTS_RESYNCS.max)) ∧
      (∀ e, s.pair.snapSeq < z.snapSeq → z.trailer.base = s.pair.snapSeq → z.trailer.id = s.content.id → s.fc.inject = [] → 2 ≤ s.compared.length → 2 ≤ s.liveSlices.length → allEntries d z.trailer = some e →
        let n := s.appliedTo s.bodySpire false z.snapSeq z.trailer e
        (∀ x, s.isCompared x = true → s.appliedTo x false z.snapSeq z.trailer e = n) → s.kctx.audit n.keep false = none → s.kctx.digest n.keep = z.trailer.digest →
        Completes .deltaApply s (fun t => t.mode = s.mode ∧ t.pair = { s.pair with chunks := rest, snapSeq := z.snapSeq, pre := t.pair.pre } ∧ (t.pair.pre.map PreVital.upTo) = some (s.time.count + 1) ∧ t.sess = n.sess ∧ t.txSeq = n.txSeq ∧
          (∀ x, x < 3 → s.isCompared x = true → (t.spire x).mem = n.mem ∧ (t.spire x).keep = n.keep ∧ (t.pgOf x).snaps.head? = some n) ∧ (∀ k, t.src k = s.src k)))) ∧
    (s.content.pair.isSome = true → 2 ≤ s.pair.missRounds →
      (s.mode.cur.track = true → s.trial = false → Witnessed s false → Completes .pairFramesMissing s (fun t => ModeIs s t .safeHalt 7 ∧ t.pair.handover = true ∧ t.bf.vote = 0 ∧
        t.fld F.PAIR_EVENTS_STEPDOWNS = min (s.fld F.PAIR_EVENTS_STEPDOWNS + 1) F.PAIR_EVENTS_STEPDOWNS.max ∧ t.fld F.PAIR_LAST_CAUSE = 5 ∧ ∀ x, (t.spire x).keep = KeepSt.empty)) ∧
      (s.mode.cur.track = true → ¬ Witnessed s false → Completes .pairFramesMissing s (fun t =>
        Recorded s t [s.evOf .pairUnprotected srcModule, s.raiseRec 120 1 0 0 false false ((t.src 120).st == .latched)] ∧ t.src 120 = raisedSrc s 120 1 0 0 false ∧ RegsKept s t [] ∧
        t = settle { s with out := t.out, rcd := t.rcd, regs := t.regs, fc := t.fc })) ∧
      (s.mode.cur = .standby → s.pair.decided = none → Witnessed s true → s.time.atValid = true → s.mayTakeOver = true → s.pair.chunks = [] →
        (∀ x, s.isCompared x = true → (s.spire x).keep = s.theKeep) → (∀ k, k < s.theKeep.tokens.length → (s.theKeep.token k).bad = false) → Completes .pairFramesMissing s (fun t =>
        t.mode = s.mode ∧ t.pair.decided = some (1, s.time.clockNs) ∧ t.pair.takeover = true ∧ t.kevents = [] ∧
        (∀ m ∈ s.content.msgs, Sparse.get (fun _ => 0) t.txSeq m.num = (Sparse.get (fun _ => 0) s.txSeq m.num + 65536) % 2 ^ 32) ∧
        (∀ x, x < 3 → s.isCompared x = true → ∀ k, k < s.theKeep.tokens.length → (s.theKeep.token k).st = 4 ∨ (s.theKeep.token k).st = 6 ∨ (s.theKeep.token k).st = 7 →
          ((t.spire x).keep.token k).recon = true))) ∧
      (s.mode.cur = .standby → Witnessed s true → s.mayTakeOver = false ∨ s.time.atValid = false → Completes .pairFramesMissing s (fun t => t = settle { s with out := [] })) ∧
      (s.mode.cur = .standby → ¬ Witnessed s true → Completes .pairFramesMissing s (fun t =>
        Recorded s t [s.evOf .pairNoQuorum srcModule, s.raiseRec 122 2 0 0 false false ((t.src 122).st == .latched)] ∧ t.src 122 = raisedSrc s 122 2 0 0 false ∧
        t.fld F.PAIR_EVENTS_NO_QUORUM = min (s.fld F.PAIR_EVENTS_NO_QUORUM + 1) F.PAIR_EVENTS_NO_QUORUM.max ∧ RegsKept s t [R.PAIR_EVENTS.addr] ∧
        t = settle { s with out := t.out, rcd := t.rcd, regs := t.regs, fc := t.fc })) ∧
      (s.mode.cur = .shadow → ¬ Witnessed s true → Completes .pairFramesMissing s (fun t => t = settle { s with out := [] })) ∧
      (s.mode.cur = .shadow → s.trial = false → Witnessed s true → Completes .pairFramesMissing s (fun t => ModeIs s t .safeHalt 7 ∧ PairIs t s.pair))) ∧
    (∀ cause ns, s.pair.decided = some (cause, ns) → s.mode.cur = .standby → s.time.angle = 0 → s.mayTakeOver = true → cause = 3 ∨ ns + s.content.tkPrep ≤ s.time.clockNs → Completes .takeoverEntry s (fun t =>
      ModeIs s t (if s.compared.length = 3 then .active else .active2oo2) 7 ∧ t.pair.decided = none ∧ t.pair.handover = false ∧ t.pair.takeover = s.pair.takeover ∧ t.pair.snapSeq = s.pair.snapSeq ∧
      t.fld F.PAIR_EVENTS_TAKEOVERS = min (s.fld F.PAIR_EVENTS_TAKEOVERS + 1) F.PAIR_EVENTS_TAKEOVERS.max ∧ t.fld F.PAIR_LAST_CAUSE = cause % 2 ^ F.PAIR_LAST_CAUSE.w ∧
      t.fld F.PAIR_LAST_SEQ = s.pair.snapSeq % 2 ^ 24 ∧ t.sp = s.sp)) ∧
    (∀ (c : Svc) (x : SvcSess), s.svcFind c = some x → x.role = .maintainer → s.pwr.warn = false → s.maySwitch = true → Completes (.pairSwitch c) s (fun t =>
      t = settle { s.noted c x 2 0 (svcCode cmdPairSwitch) 0 0 0 with pair := { s.pair with switching := some (x.sid, (s.pair.snapSeq + 1) % 2 ^ 32), switchReady := false } })) ∧
    (∀ sid q, s.pair.switching = some (sid, q) → s.pair.switchReady = false → s.twoAfterSeal q = true → Completes .pairSwitchTimeout s (fun t =>
      t = settle { s with out := [.refusal sid (svcCode cmdPairSwitch)], pair := { s.pair with switching := none, handover := false } }))

/-! ### Dytre ring (spec/12, spec/13) -/

/-- R42, R258, R267, R268, R271, R286: corrections, masters, the switch of schedules, optics. -/
def Obligations.TheRingFollowsItsReference : Prop :=
  RoundsAndOwnFrames ∧ FramesAreTaken ∧ ∀ (s : State),
    (∀ b, OwnNode s b → (s.node b).st ≠ .listen → (s.node b).st ≠ .coldstart →
      let e := if s.isMaster b then some 0 else (s.ringError b (s.slotNs b)).1
      let odd := match e with | none => true | some x => decide (250 < x.natAbs)
      let bad := odd && !(s.counts b).loopExempt
      Completes (.syncCorrection b) s (fun t => (t.node b).err = e ∧ (t.node b).mute = bad ∧
        (t.node b).unsync = (if bad then (s.node b).unsync + 1 else if odd then (s.node b).unsync else 0) ∧
        (e = none → (t.node b).offset = (s.node b).offset ∧ (t.node b).rate = (s.node b).rate) ∧
        (∀ x, e = some x → (t.node b).offset = (s.node b).offset - limitInt x 1000 ∧ (t.node b).rate.natAbs ≤ 200000) ∧
        (b = true ∨ s.isMaster b = true ∨ e = none → t.time = s.time) ∧
        (∀ x, e = some x → b = false → s.isMaster b = false → t.time = { s.time with corrNs := s.time.corrNs + limitInt x 1000, tbNs := t.time.tbNs } ∧
          (s.wv.lock ≠ .follow → t.time.tbNs = s.time.tbNs) ∧
          (s.wv.lock = .follow → s.time.lastNs ≠ 0 → t.time.tbNs ≤ s.time.lastNs + s.tbMs * 500 ∧ s.time.lastNs ≤ t.time.tbNs + s.tbMs * 500)) ∧
        t = settle { s with out := [], ring := t.ring, ringB := t.ringB, regs := t.regs, time := t.time })) ∧
    (∀ b a, OwnNode s b → (s.node b).st = .sync →
      (2 ≤ (s.node b).tmMissing → (s.node b).tm ≠ s.own b →
        s.lowestRank b (((s.node b).heardRefs ++ (s.node b).refsPrev).filter (fun x => x != (s.node b).tm) ++ (if s.eligible b then [s.own b] else [])) = some a →
        Completes (.timeMasterTakeover b) s (fun t => (t.node b).tm = a ∧ (t.node b).tmMissing = 0 ∧ (t.node b).st = .sync ∧ t.time = s.time ∧
          (a = s.own b → (s.tmRank b).isSome = true → b = false → t.wv.master = true ∧ t.wv.lock ≠ .follow))) ∧
      (∀ j k, s.time.angle = 0 → s.lowestRank b (((s.node b).nodes.filter (fun (n : NodeSt) => Nat.ble 16 n.refCycles)).map NodeSt.addr) = some a → s.rankOf b a = some j →
        s.rankOf b (s.node b).tm = some k → j < k → Completes (.timeMasterReturn b) s (fun t => (t.node b).tm = a ∧ (t.node b).tmMissing = 0 ∧ (t.node b).st = .sync ∧ t.time = s.time))) ∧
    (∀ (c : Svc) (x : SvcSess) k, s.svcFind c = some x → x.role = .engineer →
      (s.isMaster false = true → s.ring.sw = .idle → (s.content.scheds[k]?).isSome = true → k ≠ s.ring.sched → s.pwr.warn = false → Completes (.ringSwitch c k) s (fun t =>
        t.ring.sw = .voting ∧ t.ring.swTarget = k ∧ t.ring.swReq = (s.ring.swReq + 1) % 256 ∧ t.ring.swRounds = 0 ∧ (∀ n ∈ t.ring.nodes, n.votes = []) ∧ t.ring.sched = s.ring.sched ∧
        t = settle { s.noted c x 2 0 (svcCode cmdRingSwitch) 0 k 0 with ring := t.ring })) ∧
      (s.isMaster false = false → Completes (.ringSwitch c k) s (fun t => t.ring = { s.ring with swResult := 5 } ∧ .refusal x.sid (svcCode cmdRingSwitch) ∈ t.out)) ∧
      (s.isMaster false = true → s.ring.sw = .idle → (s.content.scheds[k]?).isNone = true ∨ k = s.ring.sched → Completes (.ringSwitch c k) s (fun t =>
        t.ring = { s.ring with swResult := 6 } ∧ .refusal x.sid (svcCode cmdRingSwitch) ∈ t.out))) ∧
    (s.ring.sw = .voting → 5 ≤ s.ring.swRounds → Completes .ringSwitchTimeout s (fun t => t = settle { s with out := [], ring := { s.ring with sw := .idle, swResult := 3 } })) ∧
    (∀ (o : SfpOp), o.port < 4 → let p := o.port
      (o.optic = 1 ∨ o.optic = 2 → Completes (.sfpInsert o) s (fun t => t.flag ⟨R.RG_PORT, 8 * p, 1⟩ = true ∧ t.flag ⟨R.RG_PORT, 8 * p + 1, 1⟩ = true ∧ t.flag ⟨R.RG_PORT, 8 * p + 2, 1⟩ = o.link ∧
        t.flag ⟨R.RG_PORT, 8 * p + 3, 1⟩ = (Nat.blt p 2 || s.betaUsed) ∧ t.fld ⟨R.RG_PORT, 8 * p + 4, 2⟩ = o.optic ∧ (∀ k, k ≠ R.RG_PORT.addr → t.word k = s.word k) ∧
        t = settle { s with out := [], regs := t.regs, fwd := { s.fwd with up := s.fwd.up.set p (Nat.blt p 2 || s.betaUsed) } })) ∧
      (o.optic ≠ 1 → o.optic ≠ 2 → NoResetReaction s 88 → Completes (.sfpInsert o) s (fun t => t.flag ⟨R.RG_PORT, 8 * p + 3, 1⟩ = false ∧ t.flag ⟨R.RG_PORT, 8 * p + 2, 1⟩ = false ∧
        t.src 88 = raisedSrc s 88 1 p (min o.optic 3) false ∧ t.mode = s.mode)))

/-- R3, R289 to R312: cold start, joining, admission, guardians, loss and healing. -/
def Obligations.NodesStartJoinAndLeaveTheRing : Prop :=
  ∀ (s : State),
    (∀ b, s.mayStart b = true → (s.node b).st = .listen → (s.node b).csBlock = 0 →
      let rank := (s.tmRank b).getD 0
      Completes (.coldstartTrigger b) s (fun t => (t.node b) = { s.node b with st := .coldstart, csAttempt := 1, csClean := 0, round := 0 } ∧ t.fld F.RG_CS_ATTEMPT = 1 ∧
        (b = false → t.time.count = (if s.time.atValid then s.time.count + (if s.time.angle = 0 then 0 else 1) else s.time.mark) % 2 ^ 48 ∧ t.time.angle = 0 ∧
          (s.time.tbNs = 0 → t.time.tbNs = s.tbMs * 1000000) ∧ (s.time.tbNs ≠ 0 → t.time.tbNs ≤ s.time.tbNs + s.tbMs * 500 ∧ s.time.tbNs ≤ t.time.tbNs + s.tbMs * 500)) ∧ (b = true → t.time = s.time) ∧
        t.out = [.coldstartFrame (t.txHead b) rank 1 (s.tbMs * 1000000)] ∧ Recorded { s with time := t.time } t [{ s with time := t.time }.evOf .ringCsStart srcComms] ∧ t.mode = s.mode)) ∧
    (∀ (f : CsFrame), OwnNode s f.hdr.beta → s.fc.inject = [] → f.hdr.ok 4 = true → (s.node f.hdr.beta).st = .coldstart → f.hdr.src ≠ s.own f.hdr.beta → Completes (.coldstartFrame f) s (fun t =>
      t.fld F.RG_CS_COLLISIONS = min (s.fld F.RG_CS_COLLISIONS + 1) F.RG_CS_COLLISIONS.max ∧ (t.node f.hdr.beta).csClean = 0 ∧
      (t.node f.hdr.beta).st = (if f.hdr.src < s.own f.hdr.beta then .listen else .coldstart) ∧ t = settle { s with out := [], ring := t.ring, ringB := t.ringB, regs := t.regs, rcd := t.rcd })) ∧
    (∀ (r : CsRound), OwnNode s r.beta → (s.node r.beta).st = .coldstart →
      (r.ownBack = true → r.foreign = false → 1 ≤ (s.node r.beta).csClean → Completes (.coldstartRound r) s (fun t => (t.node r.beta).st = .sync ∧ (t.node r.beta).tm = s.own r.beta ∧
        t.fld F.RG_CS_WINNER = s.own r.beta % 2 ^ F.RG_CS_WINNER.w ∧ (r.beta = false → t.time = { s.time with atValid := s.time.atValid || decide (s.time.mark ≤ s.time.count) }) ∧
        (r.beta = false → (s.tmRank false).isSome = true → t.wv.master = true ∧ t.wv.lock ≠ .follow))) ∧
      (r.ownBack = true → r.foreign = false → (s.node r.beta).csClean = 0 → Completes (.coldstartRound r) s (fun t => (t.node r.beta) = { s.node r.beta with csClean := 1 } ∧
        t = settle { s with out := [.coldstartFrame (s.txHead r.beta) ((s.tmRank r.beta).getD 0) (s.node r.beta).csAttempt (s.tbMs * 1000000)], ring := t.ring, ringB := t.ringB })) ∧
      (r.ownBack = false ∨ r.foreign = true → (s.node r.beta).csAttempt < 16 → Completes (.coldstartRound r) s (fun t => (t.node r.beta).csAttempt = (s.node r.beta).csAttempt + 1 ∧
        (t.node r.beta).csClean = 0 ∧ (t.node r.beta).st = .coldstart ∧ t.out = [.coldstartFrame (s.txHead r.beta) ((s.tmRank r.beta).getD 0) ((s.node r.beta).csAttempt + 1) (s.tbMs * 1000000)])) ∧
      (r.ownBack = false ∨ r.foreign = true → 16 ≤ (s.node r.beta).csAttempt → Completes (.coldstartRound r) s (fun t => (t.node r.beta).st = .listen ∧
        (t.node r.beta).csBlock = s.time.clockNs + 64 * s.roundNs ∧ t.out = [] ∧ Recorded s t [s.evOf .ringCsFail srcComms]))) ∧
    (∀ b, OwnNode s b → Completes (.coldstartBackoffEnd b) s (fun t => (t.node b) = { s.node b with csBlock := 0 } ∧ t = settle { s with out := [], ring := t.ring, ringB := t.ringB })) ∧
    (∀ b, OwnNode s b → (s.node b).st = .integrate →
      ((s.node b).announcing = false → 8 ≤ (s.node b).passive → (s.node b).avgDelays.isSome = true → (s.node b).pauseNs = none → Completes (.integrateAnnounce b) s (fun t =>
        (t.node b) = { s.node b with announcing := true, announceNs := some s.time.clockNs } ∧ t = settle { s with out := [], ring := t.ring, ringB := t.ringB })) ∧
      ((s.node b).pauseNs.isSome = true → Completes (.announcePauseEnd b) s (fun t =>
        (t.node b) = { s.node b with announcing := true, announceNs := some s.time.clockNs, pauseNs := none } ∧ t = settle { s with out := [], ring := t.ring, ringB := t.ringB })) ∧
      ((s.node b).announcing = true → Completes (.ringAdmitTimeout b) s (fun t =>
        (t.node b) = { s.node b with announcing := false, announceNs := none, pauseNs := some s.time.clockNs } ∧
        t.fld F.RG_INTEG_TIMEOUTS = min (s.fld F.RG_INTEG_TIMEOUTS + 1) F.RG_INTEG_TIMEOUTS.max ∧ Recorded s t [s.evOf .ringAdmitTimeout srcComms] ∧
        t = settle { s with out := [], ring := t.ring, ringB := t.ringB, regs := t.regs, rcd := t.rcd }))) ∧
    (∀ (f : IntegFrame), OwnNode s f.hdr.beta → f.hdr.ok 5 = true → s.slotOwner f.hdr.beta f.hdr.slot = some f.hdr.src → f.hdr.src ≠ s.own f.hdr.beta → s.fc.inject = [] →
      f.cv = s.vitalCv f.hdr.round f.bytes → Completes (.integrationFrame f) s (fun t =>
        ((t.node f.hdr.beta).peer f.hdr.src).mark = f.mark % 2 ^ 48 ∧ ((t.node f.hdr.beta).peer f.hdr.src).silent = 0 ∧ t.mode = s.mode ∧
        ((t.node f.hdr.beta).peer f.hdr.src).bench = bitOf f.hwid 0 ∧
        ((s.counts f.hdr.beta).seen f.hdr.slot = none → (t.counts f.hdr.beta).seen f.hdr.slot = some .accepted) ∧
        (s.isSm f.hdr.beta = false → t = settle { s with out := t.out, ring := t.ring, ringB := t.ringB, regs := t.regs }) ∧
        (s.isSm f.hdr.beta = true → (∀ q ∈ (s.node f.hdr.beta).quotes, q.addr ≠ f.hdr.src) → ∃ n, n < 2 ^ 128 ∧ .quoteRequest f.hdr.src n ∈ t.out ∧
          (⟨f.hdr.src, n, s.time.clockNs, some ⟨f.idHash, f.version⟩⟩ : AdmQuote) ∈ (t.node f.hdr.beta).quotes))) ∧
    (∀ (m : AdmMsg), OwnNode s m.beta → s.fc.inject = [] → NoResets s → m.cv = triSig s.content.ring.poly m.subject (m.stamp / 65536 % 2 ^ 32) m.bytes → m.src = (s.node m.beta).sm →
      m.stamp / 65536 ≤ s.time.count + 2 → s.time.count ≤ m.stamp / 65536 + 2 →
      (m.msg = 1 → Completes (.admissionMessage m) s (fun t => ((t.node m.beta).peer m.subject).admitted = some s.time.count ∧ t.mode = s.mode ∧
        (m.subject = s.own m.beta → (s.node m.beta).st = .integrate → (s.node m.beta).announcing = true → (t.node m.beta).st = .sync ∧ (t.node m.beta).admitted = true ∧ (t.node m.beta).announcing = false) ∧
        (m.subject = s.own m.beta → (s.node m.beta).st = .sync → (t.node m.beta).st = .sync ∧ (t.node m.beta).admitted = true) ∧
        (m.subject ≠ s.own m.beta → (t.node m.beta).st = (s.node m.beta).st ∧ (t.node m.beta).admitted = (s.node m.beta).admitted))) ∧
      (m.msg = 2 → Completes (.admissionMessage m) s (fun t => ((t.node m.beta).peer m.subject).admitted = none ∧ t.mode = s.mode ∧
        (m.subject = s.own m.beta → t.fld F.RG_INTEG_CAUSE = m.cause % 2 ^ F.RG_INTEG_CAUSE.w ∧ (t.node m.beta).st = (if (s.node m.beta).st = .integrate ∧ (s.node m.beta).announcing = true then .inhibit else (s.node m.beta).st) ∧
          ((s.node m.beta).st ≠ .integrate ∨ (s.node m.beta).announcing = false → (t.node m.beta).admitted = false)) ∧
        (m.subject ≠ s.own m.beta → (t.node m.beta).st = (s.node m.beta).st ∧ (t.node m.beta).admitted = (s.node m.beta).admitted)))) ∧
    (s.betaIndep = false → (s.isSm false = false → Completes .admitRepeat s (fun t => t = settle { s with out := [], ring := { s.ring with smSince := none } })) ∧
      (s.isSm false = true → NoResets s → Completes .admitRepeat s (fun t => t.mode = s.mode ∧ (t.node false).smSince = some s.time.count ∧
        ∀ n ∈ s.ring.nodes, n.admitted.isSome = true → s.ring.inSync n.addr = true → ∃ m : AdmMsg, .admission m ∈ t.out ∧ m.msg = 1 ∧ m.cause = 0 ∧ m.subject = n.addr ∧ m.src = s.own false))) ∧
    (∀ a, s.isSm false = true → s.ring.quotes.any (fun (q : AdmQuote) => q.addr == a) = true → NoResets s → Completes (.admissionQuoteTimeout a) s (fun t =>
      (∃ m : AdmMsg, .admission m ∈ t.out ∧ m.msg = 2 ∧ m.cause = 3 ∧ m.subject = a ∧ m.src = s.own false) ∧ (∀ q ∈ t.ring.quotes, q.addr ≠ a) ∧ (t.ring.peer a).admitted = none ∧ t.mode = s.mode)) ∧
    (∀ b, OwnNode s b → (s.node b).st = .sync ∨ (s.node b).st = .integrate → 4 ≤ (s.node b).unsync → NoResetReaction s 89 → Completes (.ringSyncLost b) s (fun t => (t.node b).st = .listen ∧ (t.node b).admitted = false ∧
      (t.node b).lostSync = true ∧ t.fld F.RG_LOSS_LOST = min (s.fld F.RG_LOSS_LOST + 1) F.RG_LOSS_LOST.max ∧ t.src 89 = raisedSrc s 89 2 (b2n b) 0 false ∧
      Recorded s t [s.evOf .ringSyncLost srcComms, s.raiseRec 89 2 (b2n b) 0 false false ((t.src 89).st == .latched)] ∧ t.mode = s.mode ∧
      (b = false → s.isMaster false = true → t.wv.master = false))) ∧
    (∀ p slot k, p < 4 → k ≠ 2 → s.windowed (Nat.ble 2 p) = false → Completes (.guardianTruncate ⟨p, false, slot, k⟩) s (fun t => t = settle { s with out := [] })) ∧
    (∀ p slot, p < 4 → s.windowed (Nat.ble 2 p) = true →
      (Completes (.guardianTruncate ⟨p, false, slot, 0⟩) s (fun t => t.fld F.RG_GFWD_EARLY p = min (s.fld F.RG_GFWD_EARLY p + 1) F.RG_GFWD_EARLY.max ∧ t = settle { s with out := [], regs := t.regs })) ∧
      (Completes (.guardianTruncate ⟨p, false, slot, 1⟩) s (fun t => t.fld F.RG_GFWD_LATE p = min (s.fld F.RG_GFWD_LATE p + 1) F.RG_GFWD_LATE.max ∧ t = settle { s with out := [], regs := t.regs })) ∧
      (Completes (.guardianTruncate ⟨p, false, slot, 2⟩) s (fun t => t.fld F.RG_GFWD_LONG p = min (s.fld F.RG_GFWD_LONG p + 1) F.RG_GFWD_LONG.max ∧ t = settle { s with out := [.violation p], regs := t.regs })) ∧
      (Completes (.guardianTruncate ⟨p, false, slot, 3⟩) s (fun t => t.fld F.RG_GFWD_NIT p = min (s.fld F.RG_GFWD_NIT p + 1) F.RG_GFWD_NIT.max ∧ t = settle { s with out := [], regs := t.regs })) ∧
      (∀ k, k ≠ 4 → Completes (.guardianTruncate ⟨p, true, slot, k⟩) s (fun t => t.fld F.RG_GTX_TRUNC = min (s.fld F.RG_GTX_TRUNC + 1) F.RG_GTX_TRUNC.max ∧ t = settle { s with out := [.violation p], regs := t.regs })) ∧
      (Completes (.guardianTruncate ⟨p, true, slot, 4⟩) s (fun t => t.fld F.RG_GTX_CLOSED = min (s.fld F.RG_GTX_CLOSED + 1) F.RG_GTX_CLOSED.max ∧ (t.node (Nat.ble 2 p)).txClosed = true ∧ RingOnly s t))) ∧
    (∀ p, p < 4 → s.ring.lost.length = 4 →
      ((s.node (Nat.ble 2 p)).st = .sync → s.portGone p = true → s.ring.lost.getD p false = false → NoResetReaction s 88 → Completes (.portLost p) s (fun t => t.ring.lost = s.ring.lost.set p true ∧ t.mode = s.mode ∧
        t.src 88 = raisedSrc s 88 1 p 0 false ∧
        (t.node (Nat.ble 2 p)).st = if s.ring.lost.getD (otherPort p) false && (Nat.blt p 2 || s.betaIndep) then .listen else .sync)) ∧
      (s.ring.lost.getD p false = true → 64 ≤ s.ring.portUp.getD p 0 → s.time.angle = 0 → Completes (.ringRestored p) s (fun t => t.ring.lost = s.ring.lost.set p false ∧
        t.fwd.looped = s.fwd.looped.set p false ∧ t.mode = s.mode ∧ t.regs = s.regs ∧ (∀ n, n ≠ 88 → t.src n = s.src n)))) ∧
    (∀ a, s.flag F.HW_ID_BENCH = true → s.mode.cur.track = true → s.trial = false → Completes (.benchRingJoin a) s (fun t => t.mode.cur = .safeHalt ∧ t.mode.cause = 10 ∧ t.mode.benchBlock = true ∧ t.mode.benchWait = true ∧
      t.mode.benchAddr = a ∧ t.pair.handover = true ∧ t.bf.vote = 0 ∧ t.io.word = 0 ∧ Recorded s t [s.recOf .benchJoin srcModule a 0, s.modeRec s.mode.cur .safeHalt 10]))

/-! ### Object-controller buses (spec/14) -/

/-- R314, R316, R317, R319, R323 to R328: frames, the transmit queue, error confinement, group supplies and wake-up. -/
def Obligations.BusesTakeAndSendFrames : Prop :=
  ∀ (s : State),
    (∀ (f : CanRx) (c : CanChDef), s.canUp f.ch = true → s.chDef f.ch = some c → s.fc.inject = [] →
      (f.remote = true → Completes (.canFrameRx f) s (fun t => CanDropped s t f F.CAN_REJ_FORMAT)) ∧
      (f.remote = false → c.ctls.find? (fun d => d.statId == f.id) = none →
        (s.ownId c f.id = true → Completes (.canFrameRx f) s (fun t => CanDropped s t f F.CAN_REJ_FORMAT)) ∧
        (s.ownId c f.id = false → ∀ e, c.rx.zipIdx.find? (fun e => e.1.1 == f.id) = some e → Completes (.canFrameRx f) s (fun t => CanSeen s t f ∧
          Sparse.get (fun _ => []) (t.chan f.ch).plain e.2 = f.data ∧ (t.chan f.ch).queue = (s.chan f.ch).queue ∧ (∀ n, n ≠ f.ch → t.chan n = s.chan n) ∧
          t = settle { s with out := [], regs := t.regs, can := t.can })) ∧
        (s.ownId c f.id = false → c.rx.zipIdx.find? (fun e => e.1.1 == f.id) = none → Completes (.canFrameRx f) s (fun t => CanSeen s t f ∧ t = settle { s with out := [], regs := t.regs }))) ∧
      (f.remote = false → ∀ d, c.ctls.find? (fun d => d.statId == f.id) = some d →
        (¬ StatusFormed c d f → Completes (.canFrameRx f) s (fun t => CanDropped s t f F.CAN_REJ_FORMAT)) ∧
        (StatusFormed c d f → triValid (statusCv f) (statusWant s c d f) < 2 → Completes (.canFrameRx f) s (fun t => CanDropped s t f F.CAN_REJ_CHECK)) ∧
        (StatusFormed c d f → 2 ≤ triValid (statusCv f) (statusWant s c d f) → s.seqOk (s.ctlAt f.ch d.addr) d (statusSeq f) (statusEcho f) = false →
          Completes (.canFrameRx f) s (fun t => CanDropped s t f F.CAN_REJ_SEQ)) ∧
        (StatusFormed c d f → 2 ≤ triValid (statusCv f) (statusWant s c d f) → s.seqOk (s.ctlAt f.ch d.addr) d (statusSeq f) (statusEcho f) = true → d.addr < 32 → f.ch < 40 →
          Completes (.canFrameRx f) s (fun t => CanSeen s t f ∧ t.ctlAt f.ch d.addr = { s.ctlAt f.ch d.addr with
              lastSeq := some (statusSeq f), data := (f.data.drop 8).take (d.len - 20), absent := false, lastAt := s.atNow, stampAt := s.stampAt f.ch f.sof f.prevRound } ∧
            (∀ ch a, a < 32 → ¬ (ch = f.ch ∧ a = d.addr) → t.ctlAt ch a = s.ctlAt ch a) ∧ bitOf (t.rd R.CAN_ABSENT f.ch) d.addr = false ∧
            t = settle { s with out := [], regs := t.regs, ctls := t.ctls })))) ∧
    (∀ (f : CanRx), s.canUp f.ch = false → Completes (.canFrameRx f) s (fun t => t = settle { s with out := [] })) ∧
    (∀ ch e, s.canUp ch = false ∨ (s.chan ch).queue = [] → Completes (.canTransmitEnd ch e) s (fun t => t = settle { s with out := [] })) ∧
    (∀ ch h l, s.canUp ch = true → (s.chan ch).queue = h :: l →
      let tec := s.fld F.CAN_ERR_TEC ch
      let again (n : Nat) : CanCh := { s.chan ch with queue := { h with data := h.again.getD h.data, again := none, clash := n } :: l }
      (s.fc.inject = [] → h.again = none → Completes (.canTransmitEnd ch .sent) s (fun t => t.chan ch = { s.chan ch with queue := l } ∧
        t.rd R.CAN_TXCNT ch = min (s.rd R.CAN_TXCNT ch + 1) 0xFFFFFFFF ∧ t.fld F.CAN_ERR_TEC ch = tec - 1 ∧ t.fld F.CAN_STATUS_BUS ch = (if 128 ≤ tec - 1 then 1 else 0) ∧
        (∀ n, n ≠ ch → t.chan n = s.chan n) ∧ t = settle { s with out := [], regs := t.regs, can := t.can })) ∧
      (∀ d, s.fc.inject = [] → h.again = some d → (s.chan ch).blocked.contains h.id = false → l.length < 32 → Completes (.canTransmitEnd ch .sent) s (fun t =>
        t.chan ch = { s.chan ch with queue := l ++ [⟨h.id, h.msg, d, 0, none⟩] } ∧ t.out = [.canQueued ch h.id d] ∧ (∀ n, n ≠ ch → t.chan n = s.chan n) ∧
        t = settle { s with out := t.out, regs := t.regs, can := t.can })) ∧
      (Completes (.canTransmitEnd ch .lost) s (fun t => t.chan ch = again 0 ∧ (∀ n, n ≠ ch → t.chan n = s.chan n) ∧ t = settle { s with out := [], can := t.can })) ∧
      (tec + 8 < 256 → Completes (.canTransmitEnd ch .error) s (fun t => t.chan ch = again 0 ∧ t.fld F.CAN_ERR_TEC ch = tec + 8 ∧ t.fld F.CAN_STATUS_BUS ch = (if 128 ≤ tec + 8 then 1 else 0) ∧
        (∀ n, n ≠ ch → t.chan n = s.chan n) ∧ t = settle { s with out := [], regs := t.regs, can := t.can })) ∧
      (256 ≤ tec + 8 → NoResets s → Completes (.canTransmitEnd ch .error) s (fun t => BusOffNow s t ch (tec + 8))) ∧
      (∀ bit a b, h.clash < 2 → tec + 8 < 256 → Completes (.canTransmitEnd ch (.dataError bit a b)) s (fun t => t.chan ch = again (h.clash + 1) ∧ t.fld F.CAN_ERR_TEC ch = tec + 8 ∧
        t = settle { s with out := [], regs := t.regs, can := t.can })) ∧
      (∀ bit a b, 2 ≤ h.clash → tec + 8 < 256 → NoResets s → Completes (.canTransmitEnd ch (.dataError bit a b)) s (fun t => (t.chan ch).queue = l ∧ h.id ∈ (t.chan ch).blocked ∧
        t.fld F.CAN_ERR_TEC ch = tec + 8 ∧ t.flag F.CAN_STATUS_BLOCKED ch = true ∧ t.rd R.CAN_CLASH_ID ch = h.id % 2 ^ 32 ∧ (t.src 97).cond = true ∧ t.mode = s.mode ∧
        ∀ n, n ≠ ch → t.chan n = s.chan n))) ∧
    (∀ ch, s.canUp ch = true → NoResets s → Completes (.canBusoff ch) s (fun t => BusOffNow s t ch 256)) ∧
    (∀ ch, ch < 40 → s.fld F.CAN_STATUS_BUS ch = 2 → Completes (.canBusoffRecovery ch) s (fun t => t.fld F.CAN_STATUS_BUS ch = 0 ∧ t.fld F.CAN_ERR_TEC ch = 0 ∧ t.fld F.CAN_ERR_REC ch = 0 ∧
      t.fld F.CAN_ERR_BUSOFF_CNT ch = min (s.fld F.CAN_ERR_BUSOFF_CNT ch + 1) F.CAN_ERR_BUSOFF_CNT.max ∧
      ((s.src (92 + ch / 8)).force = false → (∀ i, i < 8 → 8 * (ch / 8) + i ≠ ch → s.fld F.CAN_STATUS_BUS (8 * (ch / 8) + i) ≠ 2) → (t.src (92 + ch / 8)).cond = false) ∧
      t = settle { s with out := [], regs := t.regs, fc := t.fc })) ∧
    (∀ g, g < 5 → NoResets s → Completes (.canGroupFail g) s (fun t => (∀ i, i < 8 → t.flag F.CAN_STATUS_GROUP_FAIL (8 * g + i) = true) ∧
      (∀ ch, ch < 40 → ch / 8 ≠ g → t.flag F.CAN_STATUS_GROUP_FAIL ch = s.flag F.CAN_STATUS_GROUP_FAIL ch) ∧ (t.src 98).cond = true ∧ t.mode = s.mode)) ∧
    (∀ ch e, s.asleep ch = false → Completes (.canWake ch e) s (fun t => t = settle { s with out := [] })) ∧
    (∀ ch e c, s.asleep ch = true → ch < 40 → s.chDef ch = some c →
      (∀ k, c.wakes e = some k → Completes (.canWake ch e) s (fun t => t.asleep ch = false ∧ t.fld F.CAN_STATUS_WAKE_CAUSE ch = k ∧ Recorded s t [s.recOf .canWake srcComms ch k] ∧
        t = settle { s with out := [], regs := t.regs, rcd := t.rcd })) ∧
      (c.wakes e = none → Completes (.canWake ch e) s (fun t => t = settle { s with out := [] })))

/-! ### Safe sessions, queues, check-value units, Ethernet ports (spec/15) -/

/-- R338 to R340, R343, R345, R346, R349, R465: connections, DATA, queues, the check-value units and a lost link. -/
def Obligations.SessionsOpenCarryAndClose : Prop :=
  ∀ (s : State),
    (∀ (n : Nat) (f : SFrame) (d : SessDef), Heard s n d →
      (d.role = 1 → f.type = 1 → (s.sessAt n).st = .idle ∨ (s.sessAt n).st = .opened → FailsCounted s (.connect n f) n d f f.conn 0 ∧
        (FramePasses s d f f.conn 0 → f.seq ≠ 1 → Completes (.connect n f) s (fun t => FrameDropped s t n F.SSN_REJ_OTHER)) ∧
        (FramePasses s d f f.conn 0 → f.seq = 1 → Completes (.connect n f) s (fun t => OpenedBy s t n f f.conn (s.nonceOf d) ∧
          t.out = s.sentIf (.sessionFrame n (s.makeFrame d (t.sessAt n) 2 (s.nonceOf d) [])) ∧
          t = settle { s with out := t.out, regs := t.regs, sess := t.sess, rcd := t.rcd, fc := t.fc }))) ∧
      (¬ (d.role = 1 ∧ f.type = 1 ∧ ((s.sessAt n).st = .idle ∨ (s.sessAt n).st = .opened)) → Completes (.connect n f) s (fun t => FrameDropped s t n F.SSN_REJ_OTHER)) ∧
      (d.role = 0 → f.type = 2 → (s.sessAt n).st = .connecting → FailsCounted s (.connectAck n f) n d f (s.sessAt n).nI f.conn ∧
        (FramePasses s d f (s.sessAt n).nI f.conn → f.seq ≠ 1 → Completes (.connectAck n f) s (fun t => FrameDropped s t n F.SSN_REJ_OTHER)) ∧
        (FramePasses s d f (s.sessAt n).nI f.conn → f.seq = 1 → Completes (.connectAck n f) s (fun t => OpenedBy s t n f (s.sessAt n).nI f.conn ∧
          t = settle { s with out := [], regs := t.regs, sess := t.sess, rcd := t.rcd, fc := t.fc }))) ∧
      (¬ (d.role = 0 ∧ f.type = 2 ∧ (s.sessAt n).st = .connecting) → Completes (.connectAck n f) s (fun t => FrameDropped s t n F.SSN_REJ_OTHER)) ∧
      (f.type = 4 → (s.sessAt n).st = .opened →
        (s.checkFrame d (s.sessAt n) f = .accept → Completes (.close n f) s (fun t => t.sessAt n = { s.sessAt n with st := .holdoff, cause := 2, held := [] } ∧
          (∀ m, m ≠ n → t.sessAt m = s.sessAt m) ∧ t.fld F.SSN_CNT_ACCEPTED n = min (s.fld F.SSN_CNT_ACCEPTED n + 1) F.SSN_CNT_ACCEPTED.max ∧
          t = settle { s with out := [], regs := t.regs, sess := t.sess })) ∧
        (∀ c, s.checkFrame d (s.sessAt n) f = .reject c → Completes (.close n f) s (fun t => FrameDropped s t n c)) ∧
        (s.checkFrame d (s.sessAt n) f = .duplicate → Completes (.close n f) s (fun t => t = settle { s with out := [], regs := t.regs }))) ∧
      (f.type ≠ 4 ∨ (s.sessAt n).st ≠ .opened → Completes (.close n f) s (fun t => FrameDropped s t n F.SSN_REJ_OTHER)) ∧
      (f.type = 3 → d.delivery = 0 → Completes (.sessionData n f) s (fun t =>
        t.sessAt n = { s.sessAt n with held := ((s.sessAt n).held ++ [f]).drop ((s.sessAt n).held.length + 1 - 4) } ∧ (∀ m, m ≠ n → t.sessAt m = s.sessAt m) ∧
        t.fld F.SSN_REJ_OTHER n = (if 4 ≤ (s.sessAt n).held.length then min (s.fld F.SSN_REJ_OTHER n + 1) F.SSN_REJ_OTHER.max else s.fld F.SSN_REJ_OTHER n) ∧
        t = settle { s with out := [], regs := t.regs, sess := t.sess })) ∧
      (f.type = 3 → d.delivery ≠ 0 → (s.sessAt n).st = .opened → ∀ q, q.q < 64 → s.content.queues.find? (fun q => !q.ring && q.src == n) = some q →
        Completes (.sessionData n f) s (fun t => EnqueuedThen s t q.q (.sess n f))) ∧
      (f.type = 3 → d.delivery ≠ 0 → (s.sessAt n).st ≠ .opened ∨ s.content.queues.find? (fun q => !q.ring && q.src == n) = none → Completes (.sessionData n f) s (fun t => FrameDropped s t n F.SSN_REJ_OTHER)) ∧
      (f.type ≠ 3 → Completes (.sessionData n f) s (fun t => FrameDropped s t n F.SSN_REJ_OTHER))) ∧
    (∀ (n : Nat) (f : SFrame), ∀ i ∈ [Instr.connect n f, .connectAck n f, .close n f, .sessionData n f],
      (s.sessDef n = none → Completes i s (fun t => t = settle { s with out := [] })) ∧
      (s.mode.cur.sessions = false ∨ s.decides = false → Completes i s (fun t => t = settle { s with out := [], regs := t.regs }))) ∧
    (∀ n d, n < 64 → (∀ p ∈ d.ports, p < 16) → s.sessDef n = some d → (s.sessAt n).st = .connecting → s.mode.cur.sessions = true → Completes (.connectRetry n) s (fun t =>
      t.sessAt n = { SessSt.none' with st := .connecting, nI := s.nonceOf d, txSeq := 1, cause := (s.sessAt n).cause, payload := (s.sessAt n).payload } ∧ (∀ m, m ≠ n → t.sessAt m = s.sessAt m) ∧
      t.fld F.SSN_STATE_RETRIES n = min (s.fld F.SSN_STATE_RETRIES n + 1) F.SSN_STATE_RETRIES.max ∧
      t.out = s.sentIf (.sessionFrame n (s.makeFrame d (t.sessAt n) 1 (s.nonceOf d) [])) ∧ t = settle { s with out := t.out, regs := t.regs, sess := t.sess })) ∧
    (∀ n, (s.sessAt n).st = .holdoff → s.mode.cur.sessions = true → Completes (.holdoffEnd n) s (fun t => t.sessAt n = { s.sessAt n with st := .idle } ∧ (∀ m, m ≠ n → t.sessAt m = s.sessAt m) ∧
      Recorded s t [s.recOf .sessionClosed srcComms n (s.sessAt n).cause] ∧ t = settle { s with out := [], sess := t.sess, regs := t.regs, rcd := t.rcd })) ∧
    (∀ n, (s.sessAt n).st ≠ .connecting ∨ s.mode.cur.sessions = false → Completes (.connectRetry n) s (fun t => t = settle { s with out := [] })) ∧
    (∀ n, (s.sessAt n).st ≠ .holdoff ∨ s.mode.cur.sessions = false → Completes (.holdoffEnd n) s (fun t => t = settle { s with out := [] })) ∧
    (∀ (m : QMsg), s.content.queues.find? (fun q => q.ring && q.src == m.src && q.q == m.queue) = none → Completes (.queueMessage m) s (fun t => t = settle { s with out := [] })) ∧
    (∀ (m : QMsg) (q : QueueDef), m.dst = s.content.ring.addrA ∨ m.dst = s.content.pairAddr ∨ m.dst = 0xFFFF →
      s.content.queues.find? (fun q => q.ring && q.src == m.src && q.q == m.queue) = some q → m.queue < 64 →
      (s.mode.cur.track = true → 1 ≤ m.data.length → m.data.length ≤ q.descMax → Completes (.queueMessage m) s (fun t => EnqueuedThen s t q.q (.ring m))) ∧
      (s.mode.cur.track = false ∨ m.data = [] ∨ q.descMax < m.data.length → Completes (.queueMessage m) s (fun t => t = settle { s with out := [] }))) ∧
    (∀ (c : Svc) (x : SvcSess) u v, s.svcFind c = some x →
      (u < 8 → v % 2 = 1 → Completes (.cvStart c u v) s (fun t => t = settle { s.answered c x with regs := t.regs, cv := t.cv } ∧ (∀ k, k ≠ u → t.cvReg k = s.cvReg k) ∧
        CvShows t u (s.cvParams u) ((s.cvParams u).feed (s.cvParams u).init ((beBytes 4 (s.rd R.CV_PFX0 u) ++ beBytes 4 (s.rd R.CV_PFX1 u)).take (4 * s.fld F.CV_CFG_PFX u))))) ∧
      (u < 8 → v % 2 = 0 → Completes (.cvStart c u v) s (fun t => t = settle (s.answered c x))) ∧
      (u < 8 → Completes (.cvDataWrite c u v) s (fun t => t.rd R.CV_DATA u = v % 2 ^ 32 ∧ CvShows t u (s.cvParams u) ((s.cvParams u).feed (s.cvReg u) (beBytes 4 v)) ∧
        (∀ k, k ≠ u → t.cvReg k = s.cvReg k) ∧ t = settle { s.answered c x with regs := t.regs, cv := t.cv })) ∧
      (u < 8 → Completes (.cvByteWrite c u v) s (fun t => t.rd R.CV_BYTE u = v % 256 ∧ CvShows t u (s.cvParams u) ((s.cvParams u).feed (s.cvReg u) (beBytes 1 v)) ∧
        (∀ k, k ≠ u → t.cvReg k = s.cvReg k) ∧ t = settle { s.answered c x with regs := t.regs, cv := t.cv })) ∧
      (8 ≤ u → Completes (.cvStart c u v) s (fun t => RefusedBy s t c x (R.CV_START.key u 0)) ∧ Completes (.cvDataWrite c u v) s (fun t => RefusedBy s t c x (R.CV_DATA.key u 0)) ∧
        Completes (.cvByteWrite c u v) s (fun t => RefusedBy s t c x (R.CV_BYTE.key u 0)))) ∧
    (∀ p, p < 16 → NoResets s → Completes (.ethLinkLost p) s (fun t => t.flag F.ETH_STATUS_LINK p = false ∧ t.fld F.ETH_STATUS_DOWNS p = min (s.fld F.ETH_STATUS_DOWNS p + 1) F.ETH_STATUS_DOWNS.max ∧
      t.mode = s.mode ∧ (s.sessionPort p = true ∨ s.ptpCarried p = true → (t.src 99).cond = true) ∧
      (s.sessionPort p = false → s.ptpCarried p = false → t = settle { s with out := [], regs := t.regs })))

/-! ### Local safe inputs and outputs (spec/16) -/

/-- R352 to R374: inputs, rest and live checks, test pulses, overloads, the field supply, logic silence and the edge reset. -/
def Obligations.SafeInputsAndOutputsFollowTheirChecks : Prop :=
  ∀ (s : State), NoResets s →
    (∀ w, Completes (.sampleWindow w) s (fun t => ∃ b u : State, AtWindow s b ∧ WindowTaken b u w ∧ t = settle (u.edgeTriggers b))) ∧
    (∀ (r : Readback), r.out < 16 → s.io.outs.length = 16 → (s.outAt r.out).pulse = none →
      let c := restResult r.pMv r.nMv
      let k := if (s.outAt r.out).rest.1 = c then (s.outAt r.out).rest.2 + 1 else 1
      let shown (t : State) : Prop := t.fld F.IO_ORB_P_100MV r.out = min (r.pMv / 100) 511 ∧ t.fld F.IO_ORB_N_100MV r.out = min (r.nMv / 100) 511 ∧ t.mode = s.mode ∧ ∀ n, n ≠ r.out → t.outAt n = s.outAt n
      (s.outCommand s.io.word r.out = true → Completes (.outputRestCheck r) s (fun t => shown t ∧ t = settle { s with out := [], regs := t.regs, io := t.io } ∧
        (12000 ≤ r.pMv ∧ r.nMv ≤ 3000 → t.outAt r.out = { s.outAt r.out with deadCnt := 0 } ∧ t.flag F.IO_ORB_DEAD r.out = false) ∧
        (r.pMv < 12000 ∨ 3000 < r.nMv → t.outAt r.out = { s.outAt r.out with deadCnt := min ((s.outAt r.out).deadCnt + 1) 3 } ∧
          t.flag F.IO_ORB_DEAD r.out = (decide (2 ≤ (s.outAt r.out).deadCnt) || s.flag F.IO_ORB_DEAD r.out)))) ∧
      (s.outCommand s.io.word r.out = false → s.lightPulse r.out = true → Completes (.outputRestCheck r) s (fun t => shown t ∧ t.outAt r.out = s.outAt r.out ∧ t = settle { s with out := [], regs := t.regs })) ∧
      (s.outCommand s.io.word r.out = false → s.lightPulse r.out = false → Completes (.outputRestCheck r) s (fun t => shown t ∧ (t.outAt r.out).rest = (c, min k 4) ∧
        (k < 3 → (s.outAt r.out).recheck = 0 ∨ (c ≠ 1 ∧ c ≠ 2) → t.flag F.IO_ORB_OPEN_LOAD r.out = s.flag F.IO_ORB_OPEN_LOAD r.out ∧ t.rd R.IO_OLAT = s.rd R.IO_OLAT) ∧
        (t.outAt r.out).recheck = (s.outAt r.out).recheck - (if 2 < (s.outAt r.out).recheck ∧ c ≠ 1 ∧ c ≠ 2 then 1 else 0) ∧
        (3 ≤ k → c = 3 → t.flag F.IO_ORB_OPEN_LOAD r.out = true ∧ t.rd R.IO_OLAT = s.rd R.IO_OLAT) ∧ (3 ≤ k → c = 0 → t.flag F.IO_ORB_OPEN_LOAD r.out = false ∧ t.rd R.IO_OLAT = s.rd R.IO_OLAT) ∧
        (k = 3 → c = 4 → t.fld F.IO_TCNT_INDET = min (s.fld F.IO_TCNT_INDET + 1) F.IO_TCNT_INDET.max) ∧
        (3 ≤ k ∨ (s.outAt r.out).recheck ≠ 0 → c = 1 ∨ c = 2 → s.fsCounts = true → LatchFree s r.out → LatchedNow t r.out c ∧ (t.src 115).cond = true)))) ∧
    (∀ (r : Readback), 16 ≤ r.out ∨ (s.outAt r.out).pulse.isSome = true → Completes (.outputRestCheck r) s (fun t => t = settle { s with out := [] })) ∧
    (∀ slot, slot < 32 → s.io.outs.length = 16 → s.outLatched (slot / 2) = false → (∀ o ∈ s.io.outs, o.pulse = none) → Completes (.testPulse slot) s (fun t => ∃ u : State,
      AtClock s u (if (s.outAt (slot / 2)).changeNs = 0 then 0 else (s.outAt (slot / 2)).changeNs + 2000000) ∧
      t.outAt (slot / 2) = { s.outAt (slot / 2) with pulse := some (slot % 2 == 0) } ∧ (∀ n, n ≠ slot / 2 → t.outAt n = s.outAt n) ∧
      t = settle { u with out := [.pulse (slot / 2) (slot % 2 == 0) (!s.outCommand s.io.word (slot / 2))], io := t.io } ∧ t.energised (slot / 2) = false)) ∧
    (∀ slot, 32 ≤ slot ∨ s.outLatched (slot / 2) = true ∨ (∃ o ∈ s.io.outs, o.pulse.isSome = true) → Completes (.testPulse slot) s (fun t => t = settle { s with out := [] })) ∧
    (∀ (r : PulseRead) high, s.io.outs.length = 16 → r.own.out < 16 → (s.outAt r.own.out).pulse = some high →
      let n := r.own.out
      let live := s.outCommand s.io.word n
      let v := pulseVerdict live high r.own
      let amb := if high then (s.outAt n).ambHigh else (s.outAt n).ambLow
      (v = .pass → live = true → Completes (.testReadback r) s (fun t => (if high then (t.outAt n).ambHigh else (t.outAt n).ambLow) = false ∧ (t.outAt n).notDone = 0 ∧ t.mode = s.mode ∧ t.rd R.IO_OLAT = s.rd R.IO_OLAT)) ∧
      (v = .pass → live = false → r.others = [] → Completes (.testReadback r) s (fun t => (if high then (t.outAt n).ambHigh else (t.outAt n).ambLow) = false ∧ t.flag F.IO_ORB_DEAD n = false ∧ t.mode = s.mode ∧ t.rd R.IO_OLAT = s.rd R.IO_OLAT)) ∧
      (v = .between → amb = false → r.others = [] → Completes (.testReadback r) s (fun t => (if high then (t.outAt n).ambHigh else (t.outAt n).ambLow) = true ∧ t.mode = s.mode ∧ t.rd R.IO_OLAT = s.rd R.IO_OLAT)) ∧
      (v = .fault ∨ (v = .between ∧ amb = true) → live = false → r.others = [] → Completes (.testReadback r) s (fun t => t.flag F.IO_ORB_DEAD n = true ∧ t.mode = s.mode ∧ t.rd R.IO_OLAT = s.rd R.IO_OLAT)) ∧
      (v = .fault ∨ (v = .between ∧ amb = true) → live = true → s.fsCounts = true → LatchFree s n → Completes (.testReadback r) s (fun t => LatchedNow t n (if high then 1 else 2) ∧ (t.src 115).cond = true ∧ t.mode = s.mode)) ∧
      (∀ m b, v = .pass → live = false → r.others = [(m, b)] → m.out ≠ n → LatchFree s m.out → s.outCommand s.io.word m.out = false → s.fsCounts = true →
        (if high then 12000 ≤ m.pMv else m.nMv ≤ 1000) →
        (b = true → LatchFree s n → Completes (.testReadback r) s (fun t => LatchedNow t n 3 ∧ LatchedNow t m.out 3 ∧ t.fld F.IO_OST_PARTNER n = m.out ∧ t.fld F.IO_OST_PARTNER m.out = n ∧ (t.src 116).cond = true ∧ t.mode = s.mode)) ∧
        (b = false → Completes (.testReadback r) s (fun t => LatchedNow t m.out (if high then 1 else 2) ∧ (t.src 115).cond = true ∧ t.mode = s.mode)))) ∧
    (s.io.outs.length = 16 → Completes .testPulseEnd s (fun t => (∀ n, (t.outAt n) = { s.outAt n with pulse := none }) ∧ t = settle { s with out := t.out, io := t.io })) ∧
    (∀ n ma us l, LatchFree s n → (650 < ma ∧ 10000 ≤ us) ∨ (l = true ∧ 1000 ≤ us) → Completes (.outputOverload (.output n ma us l)) s (fun t => LatchedNow t n 4 ∧ (t.src 117).cond = true ∧ t.mode = s.mode)) ∧
    (∀ g ma us, g < 4 → 2200 < ma → 10000 ≤ us → (∀ i, i < 4 → LatchFree s (4 * g + i)) → Completes (.outputOverload (.group g ma us)) s (fun t =>
      (∀ i, i < 4 → LatchedNow t (4 * g + i) 5) ∧ bitOf (t.fld F.IO_OLAT_GROUP) g = true ∧ (t.src 117).cond = true ∧ t.mode = s.mode)) ∧
    (∀ mv, 36000 < mv → exec (.fsMeasure mv) s = .fault (.beyondRatings "FS")) ∧
    (∀ mv, mv ≤ 36000 → Completes (.fsMeasure mv) s (fun t => t.mode = s.mode ∧
      t.io.below168 = (if mv < 16800 then min (s.io.below168 + 1) 7 else 0) ∧ t.io.below2 = (if mv < 2000 then min (s.io.below2 + 1) 7 else 0) ∧
      t.io.fs = (if t.io.below2 = 7 then .missing else if t.io.below168 = 7 ∧ 2000 ≤ mv then .fault else if 19200 ≤ mv then .normal else .low) ∧
      t.fld F.IO_FS_MV = mv ∧ t.flag F.IO_FS_MISSING = decide (t.io.fs = .missing) ∧
      (t.io.fs ≠ s.io.fs → t.io.fs = .fault ∨ t.io.fs = .missing → s.fld F.IO_OLAT_FS = 0 → t.fld F.IO_OLAT_FS = 1 ∧ (t.src 118).cond = true ∧ ∀ n, t.energised n = false))) ∧
    (s.ioMap = none ∨ s.io.present = none ∨ s.io.silence = true → Completes .logicSilence s (fun t => t = settle { s with out := [] })) ∧
    (∀ m p, s.ioMap = some m → s.io.present = some p → s.io.silence = false → Completes .logicSilence s (fun t => t.io.silence = true ∧ (t.src 119).cond = true ∧ t.mode = s.mode ∧
      t.time.clockNs = max s.time.clockNs (p + m.lsMs * 1000000) ∧ ∀ n, s.vitalOut n = true → t.energised n = false)) ∧
    (s.mode.cur.track = false → s.mode.cur ≠ .boot → Completes .holdPresentation s (fun t => t.io.word = 0 ∧ t.io.hold = true ∧ t.io.present = some s.time.clockNs ∧ t.io.silence = false ∧
      .present 0 true ∈ t.out ∧ t.mode = s.mode ∧ ∀ n, s.vitalOut n = true → t.energised n = false)) ∧
    (s.mode.cur.track = true ∨ s.mode.cur = .boot → Completes .holdPresentation s (fun t => t = settle { s with out := [] })) ∧
    (s.io.edge = .idle ∨ s.io.edge = .armed → Completes .restartInRise s (fun t => t = settle { s with out := [], io := { s.io with restart := true, restartCnt := 0, edge := .high, riseNs := s.time.clockNs } })) ∧
    (s.io.edge = .high ∨ s.io.edge = .stuck → Completes .restartInRise s (fun t => t = settle { s with out := [], io := { s.io with restart := true, restartCnt := 0 } })) ∧
    (s.io.edge = .idle ∨ s.io.edge = .armed → Completes .restartInFall s (fun t => t = settle { s with out := [], io := { s.io with restart := false, restartCnt := 0 } })) ∧
    (s.io.edge ≠ .high → Completes .ioRestartStuck s (fun t => t = settle { s with out := [] })) ∧
    (s.io.edge ≠ .armed → Completes .ioRestartExpired s (fun t => t = settle { s with out := [] })) ∧
    (s.io.edge = .high → let dt := s.time.clockNs - s.io.riseNs;
      (dt < 100000000 → Completes .restartInFall s (fun t => t = settle { s with out := [], io := { s.io with restart := false, restartCnt := 0, edge := .idle } })) ∧
      (100000000 ≤ dt → dt ≤ 2000000000 → Completes .restartInFall s (fun t => t = settle { s with out := [], io := { s.io with restart := false, restartCnt := 0, edge := .armed, armedNs := s.time.clockNs } })) ∧
      (2000000000 < dt → Completes .restartInFall s (fun t => t.io.edge = .idle ∧ Recorded s t [s.recOf .ioRestartStuck srcIo 0 0])) ∧
      Completes .ioRestartStuck s (fun t => t.io.edge = .stuck ∧ ∃ u : State, AtClock s u (s.io.riseNs + 2000000001) ∧ Recorded s t [u.recOf .ioRestartStuck srcIo 0 0])) ∧
    (s.io.edge = .stuck → Completes .restartInFall s (fun t => t = settle { s with out := [], io := { s.io with restart := false, restartCnt := 0, edge := .idle } })) ∧
    (s.io.edge = .armed → Completes .ioRestartExpired s (fun t => t.io.edge = .idle ∧ ∃ u : State, AtClock s u (s.io.armedNs + 10000000000) ∧ Recorded s t [u.recOf .ioRestartExpired srcIo 0 0])) ∧
    (∀ (c : Svc) (x : SvcSess), s.svcFind c = some x → s.pwr.warn = false →
      (x.role = .maintainer → s.io.edge = .armed → s.trial = false → Completes (.ioRestart c) s (fun t => t.io.edge = .idle ∧
        (∀ n, n < 16 → s.io.outs.length = 16 → bitOf (s.rd R.IO_OLAT) n = true → t.energised n = false) ∧
        (∀ n, n < 16 → s.io.outs.length = 16 → bitOf (s.rd R.IO_OLAT) n = true → s.latchGone n = true → bitOf (t.rd R.IO_OLAT) n = false ∧ (t.outAt n).recheck = 5) ∧
        (∀ n, n < 16 → bitOf (s.rd R.IO_OLAT) n = true → s.latchGone n = false → bitOf (t.rd R.IO_OLAT) n = true) ∧
        (∀ k, k < 128 → ¬ (k < 72 ∧ k % 24 = 10) → (s.src k).st = .latched → (s.src k).cond = false → (t.src k).st = .clear) ∧
        (s.mode.cur ≠ .isolated → t.mode = s.mode) ∧
        (s.mode.cur = .isolated → (∀ k, k < 128 → s.latchedSev4 k = true → (s.src k).cond = false) → t.mode.cur = .safeHalt ∧ t.mode.cause = 13))) ∧
      (¬ (x.role = .maintainer ∧ s.io.edge = .armed) → Completes (.ioRestart c) s (fun t => RefusedBy s t c x (svcCode cmdIoRestart))) ∧
      (∀ v, s.mode.cur = .maintenance → x.role = .maintainer → s.ovrOk v = true → Completes (.ioOvrWrite c v) s (fun t => t.rd R.IO_OVR = v % 64 + bits v 8 6 * 256 ∧ t.mode = s.mode ∧
        t.chg.head? = some ⟨s.chgNext, x.role.code, x.port, 1, 0, s.atNow, s.time.civil, R.IO_OVR.addr, s.rd R.IO_OVR, v, 0⟩ ∧ .answer x.sid [] ∈ t.out)) ∧
      (∀ v, ¬ (s.mode.cur = .maintenance ∧ x.role = .maintainer) ∨ s.ovrOk v = false → Completes (.ioOvrWrite c v) s (fun t => RefusedBy s t c x R.IO_OVR.addr)))

/-! ### Event recorder (spec/18) -/

/-- R391, R394 to R399, R403: storing, forwarding, the 13.0 V drop, the clear and the windows. -/
def Obligations.TheRecorderStoresForwardsAndClears : Prop :=
  ∀ (s : State),
    (s.nextRec = none → ∀ ok, Completes (.recordStore ok) s (fun t => t = settle { s with out := [] })) ∧
    (∀ r, s.nextRec = some r →
      (Completes (.recordStore true) s (fun t => t = settle { s with out := [], rcd := t.rcd, regs := t.regs } ∧ (NoDrops s → t.rcd.intake = s.rcd.intake.erase r ∧ t.rcd.alarm = s.rcd.alarm) ∧
        (s.rcd.store = [] → t.rcd.store = [(s.rcd.next, r)] ∧ t.rcd.next = s.rcd.next + 1) ∧
        (∀ n l k, s.rcd.store = (n, l) :: k → 4096 ≤ n → l.rep < 65535 → r.repeats l = true → t.rcd.store = (n, { l with rep := l.rep + 1 }) :: k ∧ t.rcd.next = s.rcd.next) ∧
        (∀ n l k, s.rcd.store = (n, l) :: k → n < 4096 ∨ 65535 ≤ l.rep ∨ r.repeats l = false → t.rcd.store.head? = some (s.rcd.next, r) ∧ t.rcd.next = s.rcd.next + 1 ∧
          (∀ e ∈ s.rcd.store, e ∈ t.rcd.store ↔ (e.1 < 4096 ∨ s.rcd.next < e.1 + 1044480) ∨ e = (s.rcd.next, r))))) ∧
      (NoResetReaction s 103 → Completes (.recordStore false) s (fun t => (t.src 103).cond = true ∧ t.mode = s.mode ∧ (s.rcd.store = [] → t.rcd.store = [(s.rcd.next, r)])))) ∧
    (s.rcd.alarm = [] → Completes .alarmForward s (fun t => t = settle { s with out := [] })) ∧
    (∀ r l, s.rcd.alarm = r :: l → Completes .alarmForward s (fun t => t.out = (s.rcd.subs.filter (fun (e : Nat × Nat) => decide (r.cls ≤ e.2))).map (fun e => .alarm e.1 r) ∧
      t = settle { s with out := t.out, rcd := t.rcd, regs := t.regs } ∧ (NoDrops s → t.rcd = { s.rcd with alarm := l }))) ∧
    (∀ mv, 13000 ≤ mv ∨ s.rcd.stopped = true → Completes (.holdup13v mv) s (fun t => t = settle { s with out := [], pwr := { s.pwr with busMv := mv, busMin := min s.pwr.busMin mv } })) ∧
    (∀ mv, mv < 13000 → s.rcd.stopped = false → (∀ r ∈ s.rcd.intake, r.cls < 4) → Completes (.holdup13v mv) s (fun t => t.rcd.intake = [] ∧ t.rcd.stopped = true ∧ t.rcd.store = s.rcd.store ∧
      (∀ c, c < 4 → t.rd R.REC_DROP c = min (s.rd R.REC_DROP c + (s.rcd.intake.filter (fun r => r.cls == c)).length) 0xFFFFFFFF) ∧
      t = settle { s with out := [], regs := t.regs, rcd := t.rcd, pwr := { s.pwr with busMv := mv, busMin := min s.pwr.busMin mv } })) ∧
    (∀ (c : Svc) (x : SvcSess), s.svcFind c = some x →
      (let waits := s.svc.confirms.any (fun p => p.code == cmdRecClear && p.opnds == [] && decide (s.time.clockNs ≤ p.untilNs));
        (x.role = .auditor → s.pwr.warn = false → waits = false → Completes (.recClear c) s (fun t => t.rcd = s.rcd ∧ t.regs = s.regs ∧
          (⟨cmdRecClear, [], s.time.clockNs + 60000000000⟩ : Confirm) ∈ t.svc.confirms ∧ .answer x.sid [] ∈ t.out)) ∧
        (x.role = .auditor → s.pwr.warn = false → waits = true → Completes (.recClear c) s (fun t => (∃ r, t.rcd.store = [(0, r)] ∧ r.code = .num 1 ∧ r.p1 = min (s.rcd.store.length + s.rcd.intake.length) 0xFFFFFFFF % 2 ^ 32) ∧
          t.rcd.next = 1 ∧ t.rcd.intake = [] ∧ (∀ k, k < 4 → t.rd R.REC_DROP k = 0 ∧ t.rd R.ALM_DROP k = 0) ∧ t.rd R.REC_CLEARS = min (s.rd R.REC_CLEARS + 1) 0xFFFFFFFF ∧
          t.rd R.REC_CLEAR_AT_LO = s.atNow % 2 ^ 32 ∧ t.rd R.REC_CLEAR_AT_HI = s.atNow / 2 ^ 32 % 2 ^ 32 ∧ (∀ p ∈ t.svc.confirms, p.code ≠ cmdRecClear) ∧ t.mode = s.mode)) ∧
        (x.role ≠ .auditor → Completes (.recClear c) s (fun t => RefusedBy s t c x (svcCode cmdRecClear)))) ∧
      (∀ lo ok, let n := lo % 2 ^ 32 + s.rd R.REC_SEL_HI % 65536 * 2 ^ 32;
        (s.rcd.store.find? (fun e => e.1 == n) = none → Completes (.recSelWrite c lo ok) s (fun t => t.flag F.REC_STATUS_SEL_READY = true ∧ t.flag F.REC_STATUS_SEL_VALID = false ∧
          t.flag F.REC_STATUS_SEL_CRC_OK = false ∧ (∀ w, w < 8 → t.rd R.REC_WIN w = 0) ∧ t = settle { s.answered c x with regs := t.regs })) ∧
        (∀ e, s.rcd.store.find? (fun e => e.1 == n) = some e →
          (Completes (.recSelWrite c lo true) s (fun t => t.flag F.REC_STATUS_SEL_READY = true ∧ t.flag F.REC_STATUS_SEL_VALID = true ∧ t.flag F.REC_STATUS_SEL_CRC_OK = true ∧
            (∀ w, w < 8 → t.rd R.REC_WIN w = wordAt e.2.bytes w) ∧ t = settle { s.answered c x with regs := t.regs })) ∧
          (NoResetReaction s 103 → Completes (.recSelWrite c lo false) s (fun t => t.flag F.REC_STATUS_SEL_VALID = true ∧ t.flag F.REC_STATUS_SEL_CRC_OK = false ∧ (t.src 103).cond = true ∧ t.mode = s.mode)))) ∧
      (∀ k, Completes (.recDirselWrite c k) s (fun t => t.rd R.REC_DIRSEL = k % 65536 ∧ t.rd R.REC_DIR = (if dirDefined (k % 65536) then 1 + dirClass (k % 65536) * 2 + Config.recLayout (k % 65536) % 256 * 256 else 0) ∧
        t = settle { s.answered c x with regs := t.regs })) ∧
      (∀ q, Completes (.clSelWrite c q) s (fun t => t.rd R.CL_SEL = q % 2 ^ 32 ∧ t = settle { s.answered c x with regs := t.regs } ∧
        (∀ e, s.chg.find? (fun e => e.seq == q % 2 ^ 32) = some e → ∀ w, w < 16 → t.rd R.CL_WIN w = wordAt e.bytes w) ∧
        (s.chg.find? (fun e => e.seq == q % 2 ^ 32) = none → ∀ w, w < 16 → t.rd R.CL_WIN w = 0))))

/-! ### Start, self-test, power and supplies (spec/19, spec/01) -/

/-- R405, R415, R417, R420, R421, R425, R427, R467, R26: the ends of BOOT and SELFTEST, idle spires, feeds and warnings. -/
def Obligations.StartsTestsAndSuppliesMoveTheModule : Prop :=
  ∀ (s : State), NoResets s →
    (∀ (m : MeasuredStart), s.mode.cur = .boot → s.pwr.porHeld = false → s.trial = false →
      let u := ({ s with out := [] }).measureAll m
      (2 ≤ u.ended → Completes (.measuredStartEnd m) s (fun t => t.mode.cur = .selftest ∧ t.mode.cause = 0 ∧ t.mode.prev = 1) ∧ Completes (.bootTimeout m) s (fun t => t.mode.cur = .selftest ∧ t.mode.cause = 0 ∧ t.mode.prev = 1)) ∧
      (u.ended < 2 → Completes (.measuredStartEnd m) s (fun t => t.mode = s.mode) ∧ Completes (.bootTimeout m) s (fun t => t.mode.cur = .safeHalt ∧ t.mode.cause = 0 ∧ t.img = s.img)) ∧
      ((∀ x, x < 3 → s.bf.spst.get x ≠ .selftest ∧ s.flag F.ATT_STATUS_DONE x = false ∧ (m.spires.get x).digests = m.spires.a.digests ∧ (m.spires.get x).digests.length = 6 ∧
          s.startEnds (m.spires.get x) = true ∧ ∀ k, k ∈ startTallies → s.fld (extField k) x = 0 ∧ s.tally x k = s.tally 0 k) →
        Completes (.measuredStartEnd m) s (fun t => t.mode.cur = .selftest ∧ ∀ x, x < 3 → t.flag F.ATT_STATUS_DONE x = true ∧ t.flag F.ATT_STATUS_FAIL x = false ∧
          t.flag F.ATT_STATUS_KEY_OK x = (m.spires.get x).keyOk ∧
          ∀ e, e ∈ startTallies.zip m.spires.a.digests → t.tally x e.1 = (Config.sha256 (beBytes 32 (s.tally x e.1) ++ beBytes 32 e.2)).toNat ∧ t.fld (extField e.1) x = 1))) ∧
    (∀ (m : MeasuredStart), s.mode.cur ≠ .boot ∨ s.pwr.porHeld = true → Completes (.measuredStartEnd m) s (fun t => t = settle { s with out := [] }) ∧
      Completes (.bootTimeout m) s (fun t => t = settle { s with out := [] })) ∧
    (∀ (o : SelftestOp), s.mode.cur ≠ .selftest → Completes (.selftestEnd o) s (fun t => t = settle { s with out := [] })) ∧
    (∀ (o : SelftestOp), s.mode.cur = .selftest → s.trial = false → (∀ x, x < 3 → s.bf.spst.get x = .compared ∧ s.flag F.ATT_STATUS_DONE x = true) →
      let sound := ∀ x, x < 3 → o.passed.get x = true ∧ s.bankFaulty x = false ∧ o.rows.get x = []
      (o.injectOk = true → sound → Completes (.selftestEnd o) s (fun t => t.mode.cur = (if s.severeLatch then .isolated else .load) ∧ t.mode.cause = (if s.severeLatch then 3 else 0) ∧
        (∀ i, i < 3 → t.rd R.BF_INJ i = 1) ∧ t.fld F.SUP_HOLDUP_TEST_MS = min o.holdupMs 65535)) ∧
      (o.injectOk = false → sound → s.severeLatch = false → (s.src 77).st = .clear → (s.src 77).winCnt < s.recLimit 77 → Completes (.selftestEnd o) s (fun t => t.mode.cur = .safeHalt ∧ t.mode.cause = 12 ∧
        (t.src 77).cond = true)) ∧
      (∀ x y, x < 3 → y < 3 → x ≠ y → o.injectOk = true → o.passed.get x = false → o.passed.get y = false → s.severeLatch = false → Completes (.selftestEnd o) s (fun t => t.mode.cur = .safeHalt ∧ t.mode.cause = 12 ∧
        (t.src (24 * x + 11)).cond = true ∧ (t.src (24 * y + 11)).cond = true))) ∧
    (∀ x d, x < 3 →
      ((s.eng x).run = false → let next := s.nextEvent d
        Completes (.spireIdle x d) s (fun t => ∃ l, l ≤ 4 ∧ t.fld (pwrField x) = l ∧ t.fld F.PWR_STATE_LAST = l ∧ (l = 0 ∨ (l ≤ s.deepest ∧ ∀ n, next = some n → s.fits l n = true)) ∧
          (∀ k, l < k → k ≤ 4 → k ≤ s.deepest → ∃ n, next = some n ∧ s.fits k n = false) ∧
          t = settle { s with out := [], regs := t.regs, pwr := { s.pwr with wakeAt := s.pwr.wakeAt.set x (if l = 0 then none else next.map (fun n => s.absAngle + n - s.wakeCau l)) } })) ∧
      ((s.eng x).run = true → Completes (.spireIdle x d) s (fun t => t = settle { s with out := [] })) ∧
      (∀ b, Completes (.scheduledWake x b) s (fun t => ∃ u : State,
        (∀ a, s.pwr.wakeAt.get x = some a → a / 65536 = s.time.count → AtAngle s u (a % 65536)) ∧
        ((∀ a, s.pwr.wakeAt.get x = some a → a / 65536 ≠ s.time.count) → u = { s with out := [] }) ∧
        t.fld (pwrField x) = 0 ∧ t.fld F.PWR_WAKES_LATE = (if b then min (s.fld F.PWR_WAKES_LATE + 1) F.PWR_WAKES_LATE.max else s.fld F.PWR_WAKES_LATE) ∧
        t = settle { u with regs := t.regs, pwr := { s.pwr with wakeAt := s.pwr.wakeAt.set x none } })) ∧
      (let woken (w : State) : Prop := (s.fld (pwrField x) = 0 → w = { s with out := [] }) ∧
          (s.fld (pwrField x) ≠ 0 → w.fld (pwrField x) = 0 ∧ w.fld F.PWR_WAKES_UNSCHED = min (s.fld F.PWR_WAKES_UNSCHED + 1) F.PWR_WAKES_UNSCHED.max ∧
            w = { s with out := [], regs := w.regs, pwr := { s.pwr with wakeAt := s.pwr.wakeAt.set x none } });
        (∀ k, (∀ n, k = some n → s.sched.relq.find? (fun (e : Nat × Nat) => e.1 == n) = none) → Completes (.unscheduledWake x k) s (fun t => ∃ w, woken w ∧ t = settle w)) ∧
        (∀ n e, s.sched.relq.find? (fun (e : Nat × Nat) => e.1 == n) = some e → Completes (.unscheduledWake x (some n)) s (fun t => ∃ w u, woken w ∧
          (e.2 / 65536 = s.time.count → AtAngle w u (e.2 % 65536)) ∧ (e.2 / 65536 ≠ s.time.count → u = w) ∧ t = settle u.dueReleases)))) ∧
    (∀ f mv, f < 2 →
      (60000 < mv → exec (.feedFault f mv) s = .fault (.beyondRatings "PWR_A, PWR_B") ∧ exec (.feedOvervoltage f mv) s = .fault (.beyondRatings "PWR_A, PWR_B") ∧
        exec (.feedReconnect f mv) s = .fault (.beyondRatings "PWR_A, PWR_B")) ∧
      (mv ≤ 60000 → Completes (.feedFault f mv) s (fun t => (feedAt t f).mv = mv ∧ t.mode = s.mode ∧ (mv < 16800 ∨ 36000 < mv → (t.src (104 + f)).cond = true) ∧
          (16800 ≤ mv → mv ≤ 36000 → t = settle { s with out := [], pwr := t.pwr }))) ∧
      (mv ≤ 60000 → Completes (.feedOvervoltage f mv) s (fun t => feedAt t f = ⟨mv, (feedAt s f).connected && decide (mv ≤ 36000)⟩ ∧ feedAt t (1 - f) = feedAt s (1 - f) ∧ t = settle { s with out := [], pwr := t.pwr })) ∧
      (mv ≤ 60000 → Completes (.feedReconnect f mv) s (fun t => feedAt t f = ⟨mv, (feedAt s f).connected || decide (mv ≤ 35000)⟩ ∧ feedAt t (1 - f) = feedAt s (1 - f) ∧ t = settle { s with out := [], pwr := t.pwr }))) ∧
    (∀ a b m,
      (60000 < max a b → exec (.supplyWarning a b m) s = .fault (.beyondRatings "PWR_A, PWR_B") ∧ ∀ n us, exec (.supplyDip a b m n us) s = .fault (.beyondRatings "PWR_A, PWR_B")) ∧
      (max a b ≤ 60000 → s.pwr.warn = false → (s.pwr.feedA.connected = true → a < 16000) → (s.pwr.feedB.connected = true → b < 16000) → Completes (.supplyWarning a b m) s (fun t => t.pwr.warn = true ∧
        t.pwr.warnSince = s.time.clockNs ∧ t.pwr.busMv = m ∧ t.pwr.busMin = m ∧ (t.src 106).cond = true ∧ t.mode = s.mode)) ∧
      (let shown := settle { s with out := [], pwr := { s.pwr with feedA := { s.pwr.feedA with mv := a }, feedB := { s.pwr.feedB with mv := b }, busMv := m } };
        (max a b ≤ 60000 → s.pwr.warn = true ∨ (s.pwr.feedA.connected = true ∧ 16000 ≤ a) ∨ (s.pwr.feedB.connected = true ∧ 16000 ≤ b) → Completes (.supplyWarning a b m) s (fun t => t = shown)) ∧
        (∀ n us, max a b ≤ 60000 → s.pwr.warn = false ∨ n < 12000 ∨ ((s.pwr.feedA.connected = true → a < 16800) ∧ (s.pwr.feedB.connected = true → b < 16800)) →
          Completes (.supplyDip a b m n us) s (fun t => t = shown))) ∧
      (∀ n us, max a b ≤ 60000 → s.pwr.warn = true → 12000 ≤ n → (s.pwr.feedA.connected = true ∧ 16800 ≤ a) ∨ (s.pwr.feedB.connected = true ∧ 16800 ≤ b) → Completes (.supplyDip a b m n us) s (fun t => t.pwr.warn = false ∧ t.rcd.stopped = false ∧
        t.fld F.SUP_DIP_COUNT = min (s.fld F.SUP_DIP_COUNT + 1) F.SUP_DIP_COUNT.max ∧ t.fld F.SUP_DIP_LAST_MS = min (us / 1000) 65535 ∧ (t.src 106).cond = false ∧ (t.src 107).cond = false ∧
        t.time.mark = s.time.markDeferred.getD s.time.mark ∧ t.time.markDeferred = none ∧ t.mode = s.mode))) ∧
    (∀ ms, Completes (.holdupTest ms) s (fun t => t.fld F.SUP_HOLDUP_TEST_MS = min ms 65535 ∧ (t.src 108).cond = decide (ms < 20) ∧ t.mode = s.mode)) ∧
    Completes .lampAmberEnd s (fun t => t = settle { s with out := [], pwr := { s.pwr with lampTest := false } })

/-! ### Quotes (spec/20) -/

/-- R429 to R433, R299, R302, R171, R235: the queue of requests, a quote signed, and what a quote received decides. -/
def Obligations.QuotesAreAskedSignedAndJudged : Prop :=
  ∀ (s : State),
    (∀ (q : QuoteReq), s.quoteAsked q = true →
      let served := s.att.queue.take (if s.att.latch.isSome then 1 else 0)
      let l := s.att.queue.drop (if s.att.latch.isSome then 1 else 0)
      (s.att.queue.length < 16 → Completes (.quoteRequest q) s (fun t => t = settle { s with out := [], att := { s.att with
        queue := served ++ (if s.quoteFirst q then l.takeWhile s.quoteFirst ++ [q.asked] ++ l.dropWhile s.quoteFirst else l ++ [q.asked])
        latch := if s.sched.cur = 31 ∧ s.att.latch = none then some (headNow s) else s.att.latch } })) ∧
      (16 ≤ s.att.queue.length → Completes (.quoteRequest q) s (fun t => (∀ x, x < 3 → t.fld F.ATT_QCNT_DROPPED x = min (s.fld F.ATT_QCNT_DROPPED x + 1) F.ATT_QCNT_DROPPED.max) ∧
        t = settle { s with out := [], regs := t.regs }))) ∧
    (∀ (q : QuoteReq), s.quoteAsked q = false →
      (q.path.onRing = false → Completes (.quoteRequest q) s (fun t => t = settle { s with out := [] })) ∧
      (∀ a v, q.path = .ring a v → Completes (.quoteRequest q) s (fun t => t = settle { s with out := s.relayed v (.relayRequest (!v.beta) q) }))) ∧
    (s.att.queue = [] ∨ (s.att.latch = none ∧ s.sched.cur ≠ 31) → Completes .quoteSign s (fun t => t = settle { s with out := [] })) ∧
    (∀ q l h, s.att.queue = q :: l → s.att.latch = some h ∨ (s.att.latch = none ∧ s.sched.cur = 31 ∧ h = headNow s) → Completes .quoteSign s (fun t => ∃ o, QuoteFor s t q h o ∧
      t.out = (if q.path.onRing then [] else [.quote o]) ∧
      t = settle { s with out := t.out, regs := t.regs, att := { s.att with
        queue := l, latch := if s.sched.cur = 31 ∧ l ≠ [] then some (headNow s) else none
        ringOut := if q.path.onRing then s.att.ringOut ++ [o] else s.att.ringOut } })) ∧
    (∀ a, Completes (.peerQuoteRequest a) s (fun t => ∃ n, n < 2 ^ 128 ∧ t.out = [.quoteRequest a n] ∧ (∀ p ∈ t.peers, p.addr = a → p.nonce = some n) ∧
      t.pair = (if s.content.pair.isSome = true ∧ s.fld F.PAIR_CONF_PARTNER = a then { s.pair with nonce := some n } else s.pair) ∧
      t = settle { s with out := t.out, peers := t.peers, pair := t.pair, free := t.free })) ∧
    (∀ (m : QuoteMsg), m.via.dst ≠ s.own m.via.beta → Completes (.quoteResponse m) s (fun t => t = settle { s with out := s.relayed m.via (.relayQuote (!m.via.beta) m) })) ∧
    (∀ (m : QuoteMsg), NoResets s → s.mode.cur ≠ .integrate → s.betaIndep = false → m.via.dst = s.own m.via.beta →
      (∀ q, s.isSm false = true → s.ring.quotes.find? (fun (q : AdmQuote) => q.addr == m.src && q.nonce == m.nonce) = some q → Completes (.quoteResponse m) s (fun t => t.mode = s.mode ∧
        (m.sound s.settings.caKey = false → AdmissionSent t 2 1 q.addr ∧ (t.ring.peer q.addr).admitted = none) ∧
        (m.sound s.settings.caKey = true → (q.addr, (⟨m.idHash, m.version⟩ : ImageId)) ∉ s.settings.manifest → AdmissionSent t 2 2 q.addr ∧ (t.ring.peer q.addr).admitted = none) ∧
        (m.sound s.settings.caKey = true → (q.addr, (⟨m.idHash, m.version⟩ : ImageId)) ∈ s.settings.manifest → (∃ i, q.id = some i ∧ i ≠ ⟨m.idHash, m.version⟩) → AdmissionSent t 2 4 q.addr ∧ (t.ring.peer q.addr).admitted = none) ∧
        (m.sound s.settings.caKey = true → (q.addr, (⟨m.idHash, m.version⟩ : ImageId)) ∈ s.settings.manifest → (∀ i, q.id = some i → i = ⟨m.idHash, m.version⟩) →
          AdmissionSent t 1 0 q.addr ∧ (t.ring.peer q.addr).admitted = some s.time.count))) ∧
      (∀ p, s.isSm false = false → s.peers.find? (fun (p : PeerSt) => (p.addr == m.pair || p.addr == m.src) && p.nonce == some m.nonce) = some p → Completes (.quoteResponse m) s (fun t => t.mode = s.mode ∧
        (m.sound s.settings.caKey = false → t.peers = s.peers) ∧
        (m.sound s.settings.caKey = true → ∀ e ∈ t.peers, e.addr = p.addr → e.nonce = none ∧ e.quoteMode = m.mode ∧
          ((∃ d ∈ s.content.peers, s.content.peers.find? (fun (d : PeerDef) => d.addr == p.addr) = some d ∧ ⟨m.idHash, m.version⟩ ∈ d.ids) ∧ (m.mode = 6 ∨ m.mode = 7 ∨ m.mode = 8) →
            e.quoteNs = some s.time.clockNs ∧ (e.ringAdmitted = true → e.admitted = true)) ∧
          (m.mode ≠ 6 → m.mode ≠ 7 → m.mode ≠ 8 → e.quoteNs = none ∧ e.admitted = false)))) ∧
      (s.isSm false = false → s.content.pair.isSome = true → m.src = s.fld F.PAIR_CONF_PARTNER → s.pair.nonce = some m.nonce → s.content.id = ⟨m.idHash, m.version⟩ → Completes (.quoteResponse m) s (fun t => t.mode = s.mode ∧
        ((m.verifying s.settings.caKey).length < 2 → t.pair = s.pair) ∧ (2 ≤ (m.verifying s.settings.caKey).length → t.pair.nonce = none ∧ t.pair.quoteNs = some s.time.clockNs ∧
          t.pair.stagedNs = if bitOf m.qflags 1 && (m.verifying s.settings.caKey).all (fun x => (m.tallies.get x).getD 7 0 == s.tally x 8) then some s.time.clockNs else none))) ∧
      (s.isSm false = false → (∀ p ∈ s.peers, p.nonce ≠ some m.nonce) → s.pair.nonce ≠ some m.nonce → Completes (.quoteResponse m) s (fun t => t = settle { s with
        out := [], ring := if m.sound s.settings.caKey then s.ring.updPeer m.src (fun (n : NodeSt) => { n with bench := bitOf m.qflags 0 }) else s.ring })))

/-! ### Updates and on-line change (spec/21) -/

/-- R439 to R446: delivery, verification, the trial and its ends. -/
def Obligations.PackagesAreTakenVerifiedAndTried : Prop :=
  ∀ (s : State) (c : Svc) (x : SvcSess), s.svcFind c = some x → s.pwr.warn = false →
    (∀ (m : Manifest), x.role = .engineer → s.updOpen = true →
      (s.upd.stage = .download → s.upd.manifest = some m → Completes (.updBegin c m) s (fun t => t = settle (s.noted c x 2 0 0x0301 0 m.pkgVersion 0))) ∧
      (¬ (s.upd.stage = .download ∧ s.upd.manifest = some m) → Completes (.updBegin c m) s (fun t => t.upd.manifest = some m ∧ (∀ y, y < 3 → t.upd.next.get y = m.parts.map (fun _ => 0)) ∧
        t.upd.stage = (if m.parts.all (fun p => p.carry || p.length == 0) then .complete else .download) ∧ t.upd.fallback = false ∧ t.upd.boot = s.upd.boot ∧
        t.rd R.UPD_PKG = m.pkgVersion % 2 ^ 32 ∧ t = settle { s.noted c x 2 0 0x0301 0 m.pkgVersion 0 with upd := t.upd, regs := t.regs }))) ∧
    (∀ (b : UpdBlock) n, x.role = .engineer → b.crc = crc32c.value b.covered → s.blockLen b = some n → b.fits n = true → (∃ y, MgmtRuns s y ∧ b.offset ≤ s.blockNext b y) →
      (b.part = 0xFF ∨ ∀ y, y < 3 → b.part < (s.upd.next.get y).length) → Completes (.updBlock c b) s (fun t =>
        (∀ y, MgmtRuns s y → s.blockNext b y = b.offset → t.blockNext b y = b.offset + b.data.length) ∧ (∀ y, y < 3 → ¬ (MgmtRuns s y ∧ s.blockNext b y = b.offset) → t.blockNext b y = s.blockNext b y) ∧
        (∃ w, t.out = [.answer x.sid [w]] ∧ (∀ y, MgmtRuns s y → w ≤ t.blockNext b y) ∧ ∃ y, MgmtRuns s y ∧ w = t.blockNext b y) ∧
        (b.part ≠ 0xFF → t.upd.stage = (if t.upd.complete then .complete else .download)) ∧ t.upd.boot = s.upd.boot ∧
        t = settle { s.noted c x 2 0 0x0302 0 b.part b.offset with out := t.out, upd := t.upd, regs := t.regs })) ∧
    (∀ (b : UpdBlock), x.role ≠ .engineer ∨ b.crc ≠ crc32c.value b.covered ∨ s.blockLen b = none ∨ (∃ n, s.blockLen b = some n ∧ b.fits n = false) ∨ (∀ y, MgmtRuns s y → s.blockNext b y < b.offset) →
      Completes (.updBlock c b) s (fun t => RefusedBy s t c x 0x0302)) ∧
    (Completes (.updStatus c) s (fun t => t = settle { s.noted c x 2 0 0x0303 0 0 0 with
      out := [.answer x.sid [s.upd.status, s.rd R.UPD_PKG, s.rd R.UPD_SECVER, s.rd R.UPD_NEXT, s.rd R.UPD_NEXT 1, s.rd R.UPD_NEXT 2, s.rd R.UPD_FAIL, s.rd R.UPD_LAST]] })) ∧
    (∀ (v : VerifyOp) m, s.upd.manifest = some m →
      let waits := s.upd.stage == .verifying && s.svc.confirms.any (fun (p : Confirm) => p.code == 0x0304 && Nat.ble s.time.clockNs p.untilNs)
      let first := x.role == .engineer && s.updOpen && s.upd.complete && (s.upd.stage == .complete || s.upd.stage == .verified)
      (first = true → s.needsAuditor m v = false → Completes (.updVerify c v) s (fun t => VerifiedAs s t m v false)) ∧
      (first = true → s.needsAuditor m v = true → Completes (.updVerify c v) s (fun t => t.upd.stage = .verifying ∧ (⟨0x0304, [], s.time.clockNs + 60000000000⟩ : Confirm) ∈ t.svc.confirms ∧ t.mode = s.mode)) ∧
      (waits = true → x.role = .auditor → Completes (.updVerify c v) s (fun t => VerifiedAs s t m v true ∧ ∀ p ∈ t.svc.confirms, p.code ≠ 0x0304)) ∧
      (first = false → ¬ (waits = true ∧ x.role = .auditor) → Completes (.updVerify c v) s (fun t => RefusedBy s t c x 0x0304))) ∧
    (s.upd.manifest = none → ∀ v, Completes (.updVerify c v) s (fun t => RefusedBy s t c x 0x0304)) ∧
    (∀ w, x.role = .engineer → s.mode.cur = .update → s.upd.stage = .verified → NoTrial s → NotInReset s → Completes (.updActivate c w) s (fun t => t.mode.cur = .boot ∧ t.img = none ∧
      (3 ≤ w → t.upd.stage = .trial ∧ (∀ y, y < 3 → (t.upd.boot.get y).trial = true ∧ (t.upd.boot.get y).left = 2 ∧ (t.upd.boot.get y).set = 1 - s.upd.boot.a.set % 2 ∧ (t.upd.boot.get y).deadline = s.trialEnd % 2 ^ 48) ∧
        t.upd.oldSet = s.upd.boot.a.set ∧ t.upd.oldImg = s.upd.boot.a.img ∧ t.rd R.UPD_DL_LO = s.trialEnd % 2 ^ 48 % 2 ^ 32 ∧ t.rd R.UPD_DL_HI = s.trialEnd % 2 ^ 48 / 2 ^ 32) ∧
      (w < 3 → t.upd.stage = .verified ∧ t.upd.boot = s.upd.boot))) ∧
    (¬ (x.role = .engineer ∧ s.mode.cur = .update ∧ s.upd.stage = .verified ∧ s.trial = false) → ∀ w, Completes (.updActivate c w) s (fun t => RefusedBy s t c x 0x0305)) ∧
    (let waits := s.svc.confirms.any (fun p => p.code == 0x0306 && p.opnds == [] && decide (s.time.clockNs ≤ p.untilNs));
      (x.role = .engineer → s.mayConfirm = true → Completes (.updConfirm c) s (fun t => (⟨0x0306, [], s.time.clockNs + 60000000000⟩ : Confirm) ∈ t.svc.confirms ∧ t.upd = s.upd ∧ t.mode = s.mode ∧ .answer x.sid [] ∈ t.out)) ∧
      (x.role = .maintainer → waits = true → s.mayConfirm = true → Completes (.updConfirm c) s (fun t => ∃ u : State, t = settle (u.leaveIntegrate false) ∧ u.mode = s.mode ∧ u.upd.stage = .idle ∧ u.upd.fallback = true ∧
        (∀ y, y < 3 → (u.upd.boot.get y).trial = false ∧ (u.upd.boot.get y).set = (s.upd.boot.get y).set ∧ (u.upd.boot.get y).seq = (s.upd.boot.get y).seq + 1) ∧
        (∀ m, s.upd.manifest = some m → ∀ y, y < 3 → u.upd.secVer.get y = max (s.upd.secVer.get y) m.secVer) ∧ u.rd R.UPD_DL_LO = 0 ∧ u.rd R.UPD_DL_HI = 0)) ∧
      (s.mayConfirm = false ∨ x.role = .auditor ∨ (x.role = .maintainer ∧ waits = false) → Completes (.updConfirm c) s (fun t => RefusedBy s t c x 0x0306))) ∧
    (x.role = .engineer → s.mode.cur ≠ .boot →
      (s.trial = true → Completes (.updAbort c) s (fun t => t.mode.cur = .boot ∧ t.upd.stage = .complete ∧ t.fld F.UPD_LAST_CAUSE = 7 ∧ ∀ y, y < 3 → (t.upd.boot.get y).trial = false ∧ (t.upd.boot.get y).set = s.upd.oldSet ∧ (t.upd.boot.get y).img = s.upd.oldImg)) ∧
      (s.trial = false → Completes (.updAbort c) s (fun t => t.upd.stage = .idle ∧ t.upd.manifest = none ∧ t.upd.boot = s.upd.boot ∧ t.mode = s.mode ∧ (∀ p ∈ t.svc.confirms, p.code ≠ 0x0304) ∧ ∀ y, y < 3 → t.rd R.UPD_NEXT y = 0))) ∧
    (x.role ≠ .engineer ∨ s.mode.cur = .boot → Completes (.updAbort c) s (fun t => RefusedBy s t c x 0x0307)) ∧
    (x.role ≠ .engineer ∨ s.updOpen = false → ∀ m : Manifest, Completes (.updBegin c m) s (fun t => RefusedBy s t c x 0x0301)) ∧
    (s.deadlineOver = true → Completes .trialDeadline s (fun t => t.mode.cur = .boot ∧ t.upd.stage = .complete ∧ t.fld F.UPD_LAST_CAUSE = 2 ∧ ∀ y, y < 3 → (t.upd.boot.get y).trial = false ∧ (t.upd.boot.get y).set = s.upd.oldSet)) ∧
    (s.deadlineOver = false → Completes .trialDeadline s (fun t => t = settle { s with out := [] }))

/-- R448 to R451, R453: a delta on line. -/
def Obligations.DeltasAreActivatedOnLine : Prop :=
  ∀ (s : State),
    (∀ (c : Svc) (x : SvcSess), s.svcFind c = some x → s.pwr.warn = false →
      (∀ (h : OlHeader), x.role = .engineer → s.mode.cur.online = true → bitOf h.flags 1 = true → Completes (.olBegin c h) s (fun t => NothingStaged t ∧ t.upd.olHeader = some h ∧ BackWritten s t ∧ t.mode = s.mode ∧
        t = settle { s.noted c x 2 0 0x0311 0 (h.idHash / 2 ^ 32) h.version with upd := t.upd, regs := t.regs })) ∧
      (∀ (h : OlHeader), x.role ≠ .engineer ∨ s.mode.cur.online = false ∨ bitOf h.flags 1 = false → Completes (.olBegin c h) s (fun t => RefusedBy s t c x 0x0311)) ∧
      (x.role = .engineer → s.mode.cur.online = true → Completes (.olCancel c) s (fun t => NothingStaged t ∧ t.upd.olHeader = none ∧ BackWritten s t ∧ t.mode = s.mode ∧
        t = settle { s.noted c x 2 0 0x0313 0 0 0 with upd := t.upd, regs := t.regs })) ∧
      (x.role ≠ .engineer ∨ s.mode.cur.online = false → Completes (.olCancel c) s (fun t => RefusedBy s t c x 0x0313)) ∧
      (∀ n, let waits := s.svc.confirms.any (fun p => p.code == 0x0312 && p.opnds == [n] && decide (s.time.clockNs ≤ p.untilNs));
        (x.role = .engineer → s.mode.cur.online = true → Completes (.olActivate c n) s (fun t => (⟨0x0312, [n], s.time.clockNs + 60000000000⟩ : Confirm) ∈ t.svc.confirms ∧ t.upd = s.upd ∧ t.mode = s.mode)) ∧
        (∀ k, x.role = .maintainer → s.mode.cur.online = true → waits = true → s.olRefusal n = some k → Completes (.olActivate c n) s (fun t => t.out = [.refusal x.sid 0x0312] ∧ t.fld F.OL_STATUS_RESULT = k ∧
          Recorded s t [s.recOf .onlineRefused srcModule k (n % 2 ^ 32)] ∧ t.upd = s.upd ∧ t.mode = s.mode)) ∧
        (x.role = .maintainer → s.mode.cur.track = true → waits = true → s.olRefusal n = none → Completes (.olActivate c n) s (fun t => t.upd.target = some n ∧ t.fld F.OL_STATUS_STATE = 2 ∧ t.rd R.OL_TARGET = n % 2 ^ 32 ∧
          t.upd.backImg = s.upd.boot.a.img ∧ (∀ y, y < 3 → (t.upd.boot.get y).img = 1 - s.upd.boot.a.img % 2 ∧ (t.upd.boot.get y).seq = (s.upd.boot.get y).seq + 1) ∧ t.mode = s.mode)) ∧
        (x.role = .maintainer → s.mode.cur.online = true → s.mode.cur.track = false → waits = true → s.olRefusal n = none → NoTrial s → NotInReset s → Completes (.olActivate c n) s (fun t => t.mode.cur = .boot ∧
          ∀ y, y < 3 → (t.upd.boot.get y).img = 1 - s.upd.boot.a.img % 2)) ∧
        (x.role = .auditor ∨ s.mode.cur.online = false ∨ (x.role = .maintainer ∧ waits = false) → Completes (.olActivate c n) s (fun t => RefusedBy s t c x 0x0312)))) ∧
    (s.olDue = false → Completes .olActivation s (fun t => t = settle { s with out := [] })) ∧
    (∀ new, s.olDue = true → NoResets s → s.upd.staged = some new →
      (olTokensBad s.content new s.keepNow = true → Completes .olActivation s (fun t => t.img = s.img ∧ t.fld F.OL_STATUS_STATE = 1 ∧ t.fld F.OL_STATUS_RESULT = 7 ∧ t.rd R.OL_TARGET = 0 ∧ t.upd.target = none ∧ t.upd.staged = some new ∧
        BackWritten s t ∧ t.mode = s.mode ∧ Recorded s t [s.recOf .onlineAbandoned srcModule new.id.hash new.id.version])) ∧
      (olTokensBad s.content new s.keepNow = false → Completes .olActivation s (fun t => t.img = some new ∧ t.upd.staged = none ∧ t.upd.target = none ∧ t.fld F.OL_STATUS_STATE = 0 ∧ t.rd R.OL_TARGET = 0 ∧
        t.fld F.OL_STATUS_ACTIVATIONS = min (s.fld F.OL_STATUS_ACTIVATIONS + 1) F.OL_STATUS_ACTIVATIONS.max ∧ t.rd R.IMG_ID_LO = new.id.hash % 2 ^ 32 ∧ t.rd R.IMG_VERSION = new.id.version % 2 ^ 32 ∧
        (∀ y, y < 3 → (t.spire y).mem = convMem s.content new (s.spire y).mem ∧ (t.spire y).keep = convKeep s.content new s.time.count (s.spire y).keep) ∧
        (∀ d ∈ new.sessions, d ∈ s.content.sessions → (∀ e ∈ s.content.sessions, e.n = d.n → e = d) → t.sessAt d.n = s.sessAt d.n) ∧ t.upd.boot = s.upd.boot ∧ t.mode = s.mode)))
end

