-- ==== Sys2Proof/Tests/Slice0.lean ====
section
/-! SUPPORT. Tests of the model: ill-formed commands that the checks of WellFormed refuse, worked examples of the spec run by one
step, and for every statement of Sys2Proof.Certificates.Slice0.Obligations that has hypotheses a concrete state and operands that
meet them together (`hyp_…`, clause by clause where it has several). -/

namespace Sys2Proof.Tests

open Sys2Proof Sys2Proof.Machine

set_option Elab.async false

/-! ### Small states -/

def c1 : Svc := ⟨1, 1, true⟩
def ses (r : Role) : SvcSess := ⟨1, r, 0, 0, 0⟩

/-- Reset, in mode m, with session 1 of role r. -/
def sv (r : Role) (m : Mode) : State := { State.reset with svc := ⟨[ses r], [], [], []⟩, mode := { State.reset.mode with cur := m } }

def lane0 (i : Nat) : LaneDef := ⟨i, 10 * i, 4 * i, 32 * i, 64 * i, 8 * i, 0, 4 * i, [0, 1, 2]⟩
def task0 : TaskDef := ⟨0, 0, 1, 1, 0, 0, 1000, 2000, 30000, 40000, 0, 0, 0, 0, 0⟩
def task8 : TaskDef := ⟨8, 0, 1, 1, 0, 0, 0, 0, 0, 0, 1, 3, 1, 20000, 5⟩

/-- A small image: one group of three instances, three tokens, two routes, a periodic task and an event task. -/
def img0 : ImageContent := { ImageContent.empty with
  id := ⟨77, 3⟩, transactions := 8, tokensDecl := 3, timing := ⟨20, 0, 0, 7, 5, 2, 10, 0, 0, 255, 0⟩
  etypes := [⟨0, List.replicate 40 0⟩], groups := [⟨0, 0, [lane0 0, lane0 1, lane0 2]⟩], domains := [0], timers := 64
  tokens := [⟨1, 0, false, false, 100, 0⟩, ⟨2, 0, true, false, 101, 1⟩, ⟨3, 9, true, false, 102, 2⟩]
  routes := [⟨5, 0, [(0, 1), (1, 2)]⟩, ⟨6, 0, [(0, 3)]⟩]
  peers := [⟨9, [⟨77, 3⟩], [1, 2], 3, 4, 4, 10⟩]
  sched := ⟨false, [task0, task8], 50000, 60000, 0, 0, [], [], 2, 100, 5, 5, 0⟩
  ring := { ImageContent.empty.ring with addrA := 4, addrB := 4 }
  msgs := [⟨0, .command 0 3 8 0⟩, ⟨1, .plain 0 0x123 8 64⟩] }

def eng0 : Eng := { Eng.idle with run := true, acc := 0x05#8, stack := [0x07#8, 0x07#8], wacc := [5, 0xFFFFFFFF, 7, 8, 0, 0, 0, 0] }
def mem0 : SMem := ⟨[(3, true)], [(2, 9)], [(5, true), (11, true)], [(1, 7)], [(32, true), (65, true)], [(0, 0x40000005), (8, 0x80000001)]⟩
def keep0 : KeepSt := { img0.keep 1 100 with bt := { (img0.keep 1 100).bt with queries := [], timers := [] } }
def sp0 : Spire := { Spire.idle with eng := eng0, mem := mem0, keep := keep0, pg := { PagerSt.empty with nslots := 8 } }

/-- Running a group in mode m: every spire executes, AT is valid, ANGLE 3000. -/
def run0 (r : Role) (m : Mode) : State := { sv r m with
  img := some img0, regs := [(R.TB_CFG.addr, 20)], sp := Three.all sp0
  time := { State.reset.time with count := 100, angle := 3000, clockNs := 5000000, tbNs := 20000000, atValid := true } }

/-- Its engine of every spire changed by f, its keep by g. -/
def withEng (f : Eng → Eng) (g : KeepSt → KeepSt) (s : State) : State :=
  { s with sp := Three.all { sp0 with eng := f eng0, keep := g keep0 } }

def polys : Three Nat := ⟨2, 4, 5⟩

def sess1 : SessDef := ⟨1, 0, 0, 100, 200, 10, 0, 128, 4, 256, 4, polys, 5, [0, 1], 9000, (.ipv4 0x0A000002, 9000), (.ipv4 0x0A000001, .ipv4 0x0A000001)⟩
def sess2 : SessDef := ⟨2, 1, 1, 101, 201, 10, 8, 160, 4, 0, 0, polys, 6, [2], 9001, (.ipv4 0x0A000003, 9001), (.ipv4 0x0A000001, .ipv4 0x0A000001)⟩
def can0 : CanChDef := ⟨0, 1, 2, 0, 0, true, 1, none, 0x55, 0, 0xFF, polys, [⟨3, 0x103, 0x203, 24, 50, 2048⟩], [(0x300, 8, 2080)]⟩
def can1 : CanChDef := ⟨1, 1, 2, 0, 0, false, 0, none, 0, 0, 0, polys, [], []⟩
def sched8 : RingSched := ⟨8, 2, 1, [4, 9, 4, 0xFFFF, 9, 7, 0xFFFF, 0xFFFF], [(4, 40), (9, 40), (0xFFFF, 100)]⟩

/-- The same image with sessions, queues, safe inputs and outputs, ring, pair and buses. -/
def img1 : ImageContent := { img0 with
  sessions := [sess1, sess2]
  queues := [⟨1, 2, false, 2, 16, 2, 8, 512⟩, ⟨2, 9, true, 3, 16, 2, 0, 544⟩]
  io := some ⟨100, [⟨3, true, true⟩, ⟨2, false, false⟩, ⟨1, true, true⟩, ⟨1, false, true⟩], [(0, 5), (1, 5)],
    [⟨0, 8, true, false⟩, ⟨1, 9, true, false⟩, ⟨2, 10, false, true⟩], 1024, 1056, 1088⟩
  ring := ⟨4, 4, 0, 0, 0, 0, 0, 2, 96, polys, [(9, 2, 1536)]⟩
  scheds := [sched8]
  pair := some ⟨9, [7], 16⟩
  can := [can0, can1]
  recWin := 24, actMax := 0, stbyMax := 0 }

/-- Running image img1: a session open, a queue, a peer heard of. -/
def rich (s : State) : State := { s with
  img := some img1, sess := [(1, { SessSt.none' with st := .opened, txSeq := 5 }), (2, { SessSt.none' with st := .idle })]
  queues := [(1, QueueSt.none')], peers := [⟨9, true, some 5, none, 7, true, true, 0, 1⟩] }

/-- Only spires A and C compared. -/
def two (s : State) : State := { s with bf := { s.bf with spst := ⟨.compared, .selftest, .compared⟩ } }

/-- Command `code` with operands o waits for its confirmation until 10 s. -/
def confirmed (code : Nat) (o : List Nat) (s : State) : State := { s with svc := { s.svc with confirms := [⟨code, o, 10000000000⟩] } }

/-- Registers set beside those that stand. -/
def withReg (k v : Nat) (s : State) : State := { s with regs := Sparse.set (fun _ => 0) s.regs k (BitVec.ofNat 32 v) }

/-- An instruction of spire B on space sp with index i and modifier md. -/
def op (sp i md : Nat) : EngOp := ⟨1, md, sp, i, none⟩

/-! ### Ill-formed commands, one for each check of WellFormed -/

def hdr0 : RingHdr := ⟨0, true, 1, 0, 9, 1, 0, 0, 100, 0⟩
def ps0 : PairStatus := ⟨8, false, false, false, 3, 0xFFFF, 5⟩
def vp0 : VitalPart := ⟨ps0, 0, false, false, 0, [1, 2], [], Three.all 0⟩
def brec0 : BRec := ⟨1, 4, false, true, false, 7, 9, 4, 102, 9, 1, 3, 5, 100 * 65536, Three.all 0⟩
def sframe0 : SFrame := ⟨1, 3, 0, 200, 100, 6, 0, 100 * 65536, 0, 3, 0, [1, 2, 3, 4], Three.all 0, 0⟩
def start0 : SpireStart := ⟨true, true, []⟩
def env0 : WrEnv := ⟨none, true, none⟩

theorem test_wf_service : Wf.svc ⟨2 ^ 32, 1, true⟩ = false ∧ Wf.svc ⟨1, 2 ^ 32, true⟩ = false ∧ Instr.wf (.modeHalt ⟨2 ^ 32, 1, true⟩) = false ∧
    Instr.wf (.timeSet c1 (2 ^ 64)) = false ∧ Instr.wf (.modeHalt c1) = true := by decide
theorem test_wf_values : Wf.vals ⟨none, some (2 ^ 32), none⟩ = false ∧ Wf.cv ⟨0, 0, 2 ^ 32⟩ = false ∧ Wf.regWr ⟨2 ^ 32, 0, 0⟩ = false ∧
    Wf.regWr ⟨0, 3, 0⟩ = false ∧ Wf.regWr ⟨0, 0, 2 ^ 32⟩ = false ∧ Instr.wf (.registerWrite c1 [] [⟨0, 3, 0⟩] env0) = false ∧ Instr.wf (.registerWrite c1 [(0, 3)] [] env0) = false ∧ Wf.wrEnv ⟨some (3, 0, 0), true, none⟩ = false ∧
    Wf.wrEnv ⟨some (0, 16, 0), true, none⟩ = false ∧ Wf.wrEnv ⟨some (0, 0, 512), true, none⟩ = false ∧
    Wf.writer (.service ⟨2 ^ 32, 1, true⟩) = false ∧ Instr.wf (.registerWrite c1 [(0, 2)] [⟨0, 2, 0⟩] env0) = true := by decide
theorem test_wf_references : Instr.wf (.refEdge ⟨5, 0, 0, 0⟩) = false ∧
    Instr.wf (.refTimeout 5) = false ∧ Instr.wf (.refEdge ⟨4, 65535, 0, 0⟩) = true := by decide
theorem test_wf_collector : Instr.wf (.faultRaise [⟨128, false, 0, 0⟩]) = false ∧ Instr.wf (.faultRaise [⟨0, false, 256, 0⟩]) = false ∧
    Instr.wf (.faultRaise [⟨0, false, 0, 256⟩]) = false ∧ Instr.wf (.conditionEnd 128) = false ∧ Instr.wf (.quietExpiry 128) = false ∧
    Instr.wf (.recoveryWindowClose 128) = false ∧ Instr.wf (.fcStickyClear c1 4 0) = false ∧ Instr.wf (.fcForceWrite .firmware 4 0) = false ∧
    Instr.wf (.fcInjWrite .firmware (2 ^ 32)) = false := by decide
theorem test_wf_recorder : Instr.wf (.recSelWrite c1 (2 ^ 32) true) = false ∧ Instr.wf (.recDirselWrite c1 (2 ^ 16)) = false ∧
    Instr.wf (.clSelWrite c1 (2 ^ 32)) = false ∧ Instr.wf (.alarmSubscribe c1 4) = false := by decide
theorem test_wf_power : Instr.wf (.powerOnReset ⟨false, 0, 0, 0, 512, [], []⟩) = false ∧ Instr.wf (.powerOnReset ⟨false, 0, 0, 0, 0, [3], []⟩) = false ∧
    Instr.wf (.powerOnReset ⟨false, 0, 0, 0, 0, [], [3]⟩) = false ∧ Instr.wf (.spireIdle 3 none) = false ∧ Instr.wf (.scheduledWake 3 true) = false ∧ Instr.wf (.unscheduledWake 0 (some 24)) = false ∧
    Instr.wf (.feedFault 2 0) = false ∧ Wf.spireStart ⟨true, true, [2 ^ 256]⟩ = false ∧
    Instr.wf (.measuredStartEnd ⟨⟨start0, start0, ⟨true, true, [2 ^ 256]⟩⟩, none⟩) = false := by decide
theorem test_wf_login : Instr.wf (.login ⟨16, .engineer, 0⟩) = false ∧ Instr.wf (.login ⟨0, .engineer, 2 ^ 128⟩) = false ∧
    Instr.wf (.proof ⟨16, .engineer, 0⟩) = false ∧ Instr.wf (.proof ⟨0, .engineer, 2 ^ 256⟩) = false ∧
    Instr.wf (.arpAndEchoRequest ⟨16, 0, .ipv4 0, 0⟩) = false ∧ Instr.wf (.arpAndEchoRequest ⟨0, 4, .ipv4 0, 0⟩) = false ∧
    Instr.wf (.arpAndEchoRequest ⟨0, 0, .ipv4 (2 ^ 32), 0⟩) = false ∧ Instr.wf (.arpAndEchoRequest ⟨0, 3, .ipv6 (2 ^ 128), 0⟩) = false := by decide
theorem test_wf_engine : Wf.engOp ⟨3, 0, 0, 0, none⟩ = false ∧ Wf.engOp ⟨0, 4, 0, 0, none⟩ = false ∧ Wf.engOp ⟨0, 0, 8, 0, none⟩ = false ∧
    Wf.engOp ⟨0, 0, 0, 2 ^ 21, none⟩ = false ∧ Wf.engOp ⟨0, 0, 0, 0, some ⟨24, false, false⟩⟩ = false ∧ Instr.wf (.ld ⟨3, 0, 0, 0, none⟩) = false ∧
    Instr.wf (.ld ⟨2, 3, 7, 2 ^ 21 - 1, some ⟨23, true, true⟩⟩) = true := by decide
theorem test_wf_tasks : Instr.wf (.inputFreeze 24) = false ∧ Instr.wf (.outputAngle 24 VoteOp.plain) = false ∧ Wf.voteOp ⟨[3], [], [], none⟩ = false ∧ Wf.voteOp ⟨[], [(3, 0)], [], none⟩ = false ∧ Wf.voteOp ⟨[], [], [(3, 0)], none⟩ = false ∧ Instr.wf (.watchdogTrip 25) = false ∧
    Instr.wf (.sweepStart 4) = false ∧ Instr.wf (.finialBarrierComplete 65536) = false ∧ Instr.wf (.leadFillStart 25) = false ∧
    Instr.wf (.forceWrite c1 32 (Three.all (some 0))) = false ∧ Instr.wf (.watchdogTrip 24) = true := by decide
theorem test_wf_boundary : Wf.brec { brec0 with kind := 256 } = false ∧ Wf.brec { brec0 with st := 16 } = false ∧ Wf.brec { brec0 with tseq := 65536 } = false ∧
    Wf.brec { brec0 with dst := 65536 } = false ∧ Wf.brec { brec0 with rseq := 2 ^ 32 } = false ∧ Wf.brec { brec0 with stamp := 2 ^ 64 } = false ∧
    Wf.brec brec0 = true ∧ Wf.settleOp ⟨65536, none, 0⟩ = false ∧ Wf.settleOp ⟨0, some (2 ^ 32), 0⟩ = false ∧ Wf.settleOp ⟨0, none, 65536⟩ = false ∧
    Instr.wf (.offerTimeout 65536) = false := by decide
theorem test_wf_pages : Wf.page (.group 16384) = false ∧ Wf.page (.q 65536) = false ∧ Wf.page (.g 65536) = false ∧ Wf.page (.h 65536) = false ∧
    Wf.page (.input 24 0) = false ∧ Wf.page (.input 0 65536) = false ∧ Wf.march ⟨24, 0, Three.all none, Three.all 0⟩ = false ∧ Wf.march ⟨0, 64, Three.all none, Three.all 0⟩ = false ∧
    Wf.march ⟨0, 0, ⟨none, some 512, none⟩, Three.all 0⟩ = false ∧ Wf.march ⟨0, 0, Three.all none, ⟨0, 0, 2 ^ 32⟩⟩ = false ∧ Wf.bankMeet ⟨3, 0, ⟨0, none⟩⟩ = false ∧ Wf.bankMeet ⟨0, 24, ⟨0, none⟩⟩ = false ∧ Wf.portOp ⟨2 ^ 32, none⟩ = false ∧
    Instr.wf (.pageFill 3 (.q 0) none) = false ∧ Instr.wf (.qPageCopy 0 65536 ⟨0, none⟩) = false := by decide
theorem test_wf_belfry : Wf.compareOp ⟨[(3, true)], []⟩ = false ∧ Wf.compareOp ⟨[], [(3, 0)]⟩ = false ∧ Wf.window ⟨Three.all none, [(3, 0)], none⟩ = false ∧
    Wf.window ⟨⟨some [⟨2 ^ 32, 1, 0⟩], none, none⟩, [], none⟩ = false ∧ Wf.cmpWrite ⟨2, 4, 0⟩ = false ∧ Wf.cmpWrite ⟨0, 3, 0⟩ = false ∧ Wf.cmpWrite ⟨0, 1, 256⟩ = false ∧ Wf.spireTest ⟨3, [], 0, 0, 0, 0, start0⟩ = false ∧ Wf.spireTest ⟨0, [], 5, 0, 0, 0, start0⟩ = false ∧
    Wf.spireTest ⟨0, [(24, 0)], 0, 0, 0, 0, start0⟩ = false ∧ Wf.spireTest ⟨0, [(0, 512)], 0, 0, 0, 0, start0⟩ = false ∧
    Instr.wf (.selftestTimeout 0 5) = false ∧ Instr.wf (.serviceWindowClose 65536 ⟨Three.all none, [], none⟩) = false := by decide
theorem test_wf_pair : Wf.chunk ⟨256, 0, 0, 0, 0, 0, [], Three.all 0⟩ = false ∧ Wf.chunk ⟨0, 65536, 0, 0, 0, 0, [], Three.all 0⟩ = false ∧
    Wf.chunk ⟨0, 0, 2 ^ 32, 0, 0, 0, [], Three.all 0⟩ = false ∧ Wf.chunk ⟨0, 0, 0, 65536, 0, 0, [], Three.all 0⟩ = false ∧
    Wf.chunk ⟨0, 0, 0, 0, 65536, 0, [], Three.all 0⟩ = false ∧ Wf.pairStatus { ps0 with mode := 16 } = false ∧
    Wf.pairStatus { ps0 with compared := 8 } = false ∧ Wf.pairStatus { ps0 with nak := 65536 } = false := by decide
theorem test_wf_ring : Wf.ringHdr { hdr0 with port := 4 } = false ∧ Wf.ringHdr { hdr0 with type := 256 } = false ∧ Wf.ringHdr { hdr0 with src := 65536 } = false ∧
    Wf.ringHdr { hdr0 with countL := 2 ^ 32 } = false ∧ Wf.ringHdr hdr0 = true ∧ Wf.round ⟨false, 512, List.replicate 4 true, List.replicate 4 true, []⟩ = false ∧
    Wf.round ⟨false, 0, [], List.replicate 4 true, []⟩ = false ∧ Wf.round ⟨false, 0, List.replicate 4 true, [], []⟩ = false ∧
    Wf.round ⟨false, 0, List.replicate 4 true, List.replicate 4 true, [(65536, 0)]⟩ = false ∧ Wf.dynOp ⟨false, 2048, [], [], 0⟩ = false ∧
    Wf.vital { vp0 with voteSched := 8 } = false ∧ Wf.vital { vp0 with exports := [2 ^ 32] } = false ∧ Wf.sfp ⟨4, 0, true⟩ = false ∧
    Instr.wf (.ringSwitch c1 8) = false ∧ Wf.refBlock ⟨4, false, false, false, false, 0, 0, 0, 0, 0, 0, 0, 0⟩ = false := by decide
theorem test_wf_ring_start : Wf.csFrame ⟨hdr0, 4, 0, 0, 0⟩ = false ∧ Wf.integFrame ⟨hdr0, 2 ^ 32, 0, 0, 0, 0, Three.all 0⟩ = false ∧
    Wf.admMsg ⟨[], false, 65536, 0, 0, 0, 0, 0, 0, Three.all 0⟩ = false ∧ Wf.guardEv ⟨4, true, 0, 0⟩ = false ∧ Wf.guardEv ⟨0, true, 0, 5⟩ = false ∧
    Instr.wf (.portLost 4) = false ∧ Instr.wf (.ringRestored 4) = false := by decide
theorem test_wf_buses : Wf.canRx ⟨40, 0, false, false, false, [], 0, false⟩ = false ∧ Wf.canRx ⟨0, 2 ^ 32, false, false, false, [], 0, false⟩ = false ∧
    Wf.canRx ⟨0, 0, false, false, false, List.replicate 65 0, 0, false⟩ = false ∧ Instr.wf (.canTransmitEnd 40 .sent) = false ∧
    Instr.wf (.canGroupFail 5) = false ∧ Instr.wf (.canBusoff 40) = false := by decide
theorem test_wf_sessions : Wf.sframe { sframe0 with ver := 256 } = false ∧ Wf.sframe { sframe0 with mac := 2 ^ 128 } = false ∧ Wf.sframe sframe0 = true ∧
    Instr.wf (.connect 0 sframe0) = false ∧ Instr.wf (.connect 64 sframe0) = false ∧ Wf.qmsg ⟨0, 0, 256, 0, 0, 0, [], Three.all 0⟩ = false ∧
    Instr.wf (.cvStart c1 8 0) = false ∧ Instr.wf (.cvByteWrite c1 0 256) = false ∧ Instr.wf (.ethLinkLost 16) = false := by decide
theorem test_wf_io : Wf.reads ⟨[], List.replicate 8 0⟩ = false ∧ Wf.reads ⟨List.replicate 32 [], List.replicate 8 0⟩ = false ∧
    Wf.reads ⟨List.replicate 32 (List.replicate 8 0), []⟩ = false ∧ Wf.readback ⟨16, 0, 0⟩ = false ∧ Wf.pulseRead ⟨⟨0, 0, 0⟩, [(⟨16, 0, 0⟩, true)]⟩ = false ∧
    Wf.overload (.output 16 0 0 false) = false ∧ Wf.overload (.group 4 0 0) = false ∧ Instr.wf (.testPulse 32) = false := by decide
theorem test_wf_attestation : Wf.quoteReq ⟨.service 0, 2 ^ 128⟩ = false ∧ Wf.quoteReq ⟨.service 16, 0⟩ = false ∧ Wf.quoteReq ⟨.ring 65536 ⟨false, 0, []⟩, 0⟩ = false ∧
    Wf.quoteReq ⟨.session 64 sframe0, 0⟩ = false ∧ Wf.quoteMsg ⟨⟨false, 0, []⟩, 0, 0, 0, 0, 0, 0, 0, 0, 0, 0, 0, 0, Three.all [], Three.all 0, Three.all true⟩ = false := by decide
theorem test_wf_updates : Wf.updBlock ⟨256, 0, [], 0⟩ = false ∧ Wf.updBlock ⟨0, 2 ^ 32, [], 0⟩ = false ∧ Wf.updBlock ⟨0, 0, List.replicate 4097 0, 0⟩ = false ∧
    Wf.olHeader ⟨2 ^ 64, 0, 0, 0, 0, 0⟩ = false ∧ Wf.olHeader ⟨0, 2 ^ 32, 0, 0, 0, 0⟩ = false ∧ Instr.wf (.olActivate c1 (2 ^ 48)) = false := by decide +kernel
/-- An image with an empty body. -/
def doc0 : ImageDoc := ⟨0, 0, 0, 0, 0, 0, 0, 0, 0, 0, 0, 0, 0, 0, 0, 0, 0, 0, 0, 0, [], [], 0, 0, 0, 0, 0, ImageContent.empty, []⟩
theorem test_wf_settings : Wf.portAddr 32 ⟨2 ^ 32, 0, 0⟩ = false ∧ Wf.portAddr 32 ⟨0, 33, 0⟩ = false ∧ Wf.portAddr 32 ⟨0, 0, 2 ^ 32⟩ = false ∧ Wf.imageId ⟨2 ^ 64, 0⟩ = false ∧
    Wf.imageId ⟨0, 2 ^ 32⟩ = false ∧ Wf.settingChange (.imageKey 256 0 0) = false ∧ Wf.settingChange (.imageKey 0 4 0) = false ∧ Wf.settingChange (.manifestAdd (2 ^ 16) ⟨0, 0⟩) = false ∧
    Wf.settingChange (.verifier .engineer (2 ^ 256)) = false ∧ Wf.settingChange (.ip6 0 (some ⟨2 ^ 128, 0, 0⟩)) = false ∧
    Instr.wf (.updVerify c1 ⟨Three.all [2 ^ 256], Three.all 0, none, doc0⟩) = false := by decide +kernel


/-! ### Statements about the queue, reset and every command -/

theorem hyp_IdleStepAdvancesTheAngle : State.reset.pending = [] ∧ State.reset.time.angle ≤ 65535 ∧
    (∀ l ∈ [[], [(8, 2)]], let s : State := { State.reset with sched := { SchedSt.idle with relq := l } }
      ∀ e ∈ s.sched.relq, s.time.count * 65536 + s.time.angle + 1 < e.2) ∧
    (let s : State := { run0 .maintainer .active with sched := { SchedSt.idle with cur := 0, relq := [(8, 0)] } }
     s.pending = [] ∧ s.time.angle ≤ 65535 ∧ s.sched.cur ≠ 31) := by decide
theorem hyp_RegistersReadTheirResetValue : regAt R.TB_CFG.addr = some R.TB_CFG ∧ regAt (R.FORCE.key 31 2) = some R.FORCE ∧
    R.FORCE ∉ [R.FC_STATUS, R.SUP_STATUS, R.SUP_FEEDS, R.SUP_HOLDUP] := by decide
theorem fails_reset : FailSafe State.reset := ⟨by decide, by decide, fun _ _ h => by simp [State.vitalOut, State.outMap, State.reset] at h,
  fun n _ => by simp [State.energised, State.reset, IoSt.idle], fun n _ => by simp [State.energised, State.reset, IoSt.idle]⟩
theorem hyp_FailSafeKept : FailSafe State.reset ∧ ∃ t, step State.reset = .next t := ⟨fails_reset, _, rfl⟩
theorem hyp_NoCommandTakesTrackFromAHaltedModule : (sv .maintainer .safeHalt).mode.cur.haltedOrStarting = true ∧ (sv .maintainer .safeHalt).mode.cur ≠ .load ∧
    ∃ t, exec (.maintEnter c1) (sv .maintainer .safeHalt) = .next t := ⟨by decide, by decide, _, rfl⟩
theorem hyp_IsolatedIsLeftOnlyByResets : (sv .maintainer .isolated).mode.cur = .isolated ∧ ∃ t, exec .restartInRise (sv .maintainer .isolated) = .next t :=
  ⟨by decide, _, rfl⟩
theorem hyp_RegistersStayCanonical : SourcesCanonical State.reset ∧ RegsCanonical State.reset ∧ RegsCanonical (withReg R.TB_CFG.addr 20 State.reset) ∧ ∃ t, step State.reset = .next t :=
  ⟨by unfold SourcesCanonical; decide, by unfold RegsCanonical; decide, by unfold RegsCanonical; decide, _, rfl⟩
theorem hyp_UnverifiedRequestsAreDiscarded : requestOf (.modeHalt ⟨1, 1, false⟩) = some ⟨1, 1, false⟩ ∧
    (sv .maintainer .active).svcFind ⟨1, 1, false⟩ = none ∧ (sv .maintainer .active).svcFind ⟨1, 2, true⟩ = none ∧
    (sv .maintainer .active).svcFind ⟨2, 1, true⟩ = none ∧ (sv .maintainer .active).svcFind c1 = some (ses .maintainer) := by decide

/-! ### Statements about the logic engine -/

def e0 : State := run0 .maintainer .active
def eFirst : State := withEng (fun e => { e with acc := 0xFF, stack := [0x01, 0x07] }) id e0

theorem hyp_BitLoadsSetAcc : (∀ p ∈ [(0, 3), (0, 511), (1, 2 ^ 20), (2, 3), (3, 2 ^ 20 + 5), (4, 7), (7, 1)],
    EngineReady e0 (op p.1 p.2 1) ∧ Addressable e0 (op p.1 p.2 1) false (e0.eng 1).en ∧ p.1 ∈ [0, 1, 2, 3, 4, 7] ∧ (p.1 = 7 → p.2 ≤ 1)) := by
  unfold EngineReady Addressable; decide
theorem hyp_BitStoresSetMemory : (∀ p ∈ [(0, 510), (1, 2 ^ 20), (3, 5)], EngineReady e0 (op p.1 p.2 1) ∧ p.1 ∈ [0, 1, 3] ∧ ¬ (p.1 = 0 ∧ p.2 = 511) ∧
    Addressable e0 (op p.1 p.2 1) false (e0.eng 1).en ∧ Addressable e0 (op p.1 p.2 1) false ((e0.eng 1).en &&& ~~~(e0.eng 1).acc) ∧
    Addressable e0 (op p.1 p.2 0) false ((e0.eng 1).en &&& (e0.eng 1).acc)) := by
  unfold EngineReady Addressable; decide
theorem hyp_EdgesCompareWithPrevious : (∀ p ∈ [(0, 3), (1, 2 ^ 20 + 5)], EngineReady eFirst (op p.1 p.2 0) ∧ Addressable eFirst (op p.1 p.2 0) false (eFirst.eng 1).en ∧
    p.1 ∈ [0, 1] ∧ ¬ (p.1 = 0 ∧ p.2 = 511)) ∧ (eFirst.eng 1).freshEdges = [] := by
  unfold EngineReady Addressable; decide
theorem hyp_BranchesMoveTheMask : EngineReady e0 (op 0 0 1) ∧ (e0.eng 1).stack.length ≤ 16 ∧ (e0.eng 1).stack = [0x07, 0x07] ∧
    ((withEng (fun e => { e with stack := List.replicate 16 1 }) id e0).eng 1).stack.length ≤ 16 := by
  unfold EngineReady; decide
theorem hyp_InputAndOutputMoveWords : (e0.eng 1).wacc.length = 8 ∧ (∀ p ∈ [(2, 32), (2, 2 ^ 20)], EngineReady e0 (op p.1 p.2 0) ∧ Addressable e0 (op p.1 p.2 0) true (e0.eng 1).en) ∧
    (∀ p ∈ [(3, 64), (3, 2 ^ 20)], EngineReady e0 (op p.1 p.2 0) ∧ Addressable e0 (op p.1 p.2 0) true ((e0.eng 1).en &&& (e0.eng 1).acc)) := by
  unfold EngineReady Addressable; decide
theorem hyp_TimersFollowTheirTable : (∀ i ∈ [0, 63, 2 ^ 20], EngineReady e0 (op 4 i 0) ∧ Addressable e0 (op 4 i 0) true (e0.eng 1).en) ∧ (e0.eng 1).wacc.length = 8 ∧
    NoResetReaction e0 (24 * 1 + 17) := by
  unfold EngineReady Addressable NoResetReaction; decide

/-- A timer word that TimerMoves' premises meet: state, input, preset and expiry. -/
def timerCase (run done : Bool) (exp : Nat) : Word := BitVec.ofNat 32 ((if run then 2 ^ 31 else 0) + (if done then 2 ^ 30 else 0) + exp)
theorem hyp_timer_rows : (∀ r ∈ [true, false], ∀ d ∈ [true, false], timerRun (timerCase r d 5) = r ∧ timerDone (timerCase r d 5) = d) ∧
    expired 5 (timerCase true false 5) ∧ ¬ expired 4 (timerCase true false 5) ∧ 268435455 < 268435456 := by
  unfold expired; decide
theorem hyp_EmitAndFinialFollowTheirRules : EngineReady e0 (op 7 1 0) ∧ (∀ j ∈ lanesOf ((e0.eng 1).en &&& (e0.eng 1).acc), e0.content.msgs.any (fun d => d.num == e0.messageOf (op 7 1 0) j) = true) ∧
    (∃ d ∈ e0.content.msgs, d.num = e0.messageOf (op 7 1 0) 0) ∧ EngineReady (withEng (fun e => { e with stack := [0x05] }) id e0) (op 0 0 0) ∧ ((withEng (fun e => { e with stack := [0x05] }) id e0).eng 1).stack.length ≤ 1 := by
  unfold EngineReady; decide
theorem hyp_WordsAreComputedAndStoredInTheLanes : (∀ p ∈ [(0, 2), (1, 2 ^ 20 + 1), (4, 0), (5, 2), (6, 0), (7, 32767)], EngineReady e0 (op p.1 p.2 1) ∧
    Addressable e0 (op p.1 p.2 1) true (e0.eng 1).en ∧ p.1 ∈ [0, 1, 4, 5, 6, 7]) ∧ (e0.eng 1).wacc.length = 8 ∧ NoResetReaction e0 (24 * 1 + 18) ∧
    (∀ p ∈ [(0, 2), (1, 2 ^ 20 + 1)], Addressable e0 (op p.1 p.2 1) true (e0.eng 1).en) := by
  unfold EngineReady Addressable NoResetReaction; decide

/-! ### Statements about keep instructions, forces, modes and resets -/

theorem slot_all (P : TSlot → Prop) (l : List (Nat × TSlot)) (h : ∀ e ∈ l, P e.2) (h0 : P TSlot.closed) (n : Nat) :
    P (Sparse.get (fun _ => TSlot.closed) l n) := by
  induction l with
  | nil => exact h0
  | cons e l ih =>
    unfold Sparse.get; split
    · exact h e (List.mem_cons_self ..)
    · exact ih fun e he => h e (List.mem_cons_of_mem _ he)

/-- Transaction 0, opened by CLAIM of route 5. -/
def slot5 : TSlot := { TSlot.closed with tstate := 1, route := 5, nEntries := 2, nLive := 2, entries := [⟨0, 1, true, false⟩, ⟨1, 2, true, false⟩] }
def words (l : List Nat) : Eng → Eng := fun e => { e with wacc := l.map (BitVec.ofNat 32), acc := 0xFF }
def token (k : Nat) (f : Token → Token) (p : KeepSt) : KeepSt := { p with tokens := p.tokens.set k (f (p.token k)).seal }
def held (p : KeepSt) : KeepSt :=
  { token 0 (fun t => { t with st := 1, holder := 0 }) (token 1 (fun t => { t with st := 2, shareCnt := 2, shareSet := 2, recon := false, resident := true }) p) with slots := [(0, slot5)] }
def k0 (l : List Nat) (g : KeepSt → KeepSt) : State := withEng (words l) g (rich (run0 .maintainer .active))
def slotFine (p : KeepSt) (t : TSlot) : Prop :=
  ((t.entries.filter TEntry.live).map TEntry.token).Nodup ∧ (∀ e ∈ t.entries, e.token < p.tokens.length) ∧ t.tstate ≤ 1

theorem fine_of (s : State) (x : Nat)
    (h : (∀ i ∈ s.fc.inject, i.checker ≠ 2) ∧ (∀ t ∈ (s.spire x).keep.tokens, t.bad = false ∧ t.shareSet < 32) ∧ (s.spire x).keep.tokens.length ≤ 65536 ∧
      (∀ d ∈ s.content.routes, (d.entries.map Prod.fst).Nodup ∧ ∀ e ∈ d.entries, e.1 < (s.spire x).keep.tokens.length ∧ 1 ≤ e.2 ∧ e.2 ≤ 5))
    (h1 : ∀ e ∈ (s.spire x).keep.slots, slotFine (s.spire x).keep e.2) : KeepFine s x := by
  have g := fun n => slot_all (slotFine (s.spire x).keep) (s.spire x).keep.slots h1 ⟨by decide, by simp [TSlot.closed], by decide⟩ n
  exact ⟨h.1, h.2.1, h.2.2.1, h.2.2.2, fun n => ⟨(g n).1, (g n).2.1⟩, fun n => (g n).2.2⟩

theorem hyp_keep_is_fine : KeepFine (k0 [5, 5, 6, 0, 0, 0, 0, 0] id) 1 ∧ KeepFine (k0 [0, 0, 1, 0, 0, 0, 0, 0] held) 1 :=
  ⟨fine_of _ _ (by decide +kernel) (by unfold slotFine; decide +kernel), fine_of _ _ (by decide +kernel) (by unfold slotFine; decide +kernel)⟩
theorem hyp_KeepInstructionsFollowTheirRules : (∀ o ∈ [op 0 1 0, op 5 0 0, op 5 2 0], EngineReady (k0 [5, 5, 6, 0, 0, 0, 0, 0] id) o ∧
      Addressable (k0 [5, 5, 6, 0, 0, 0, 0, 0] id) o true (((k0 [5, 5, 6, 0, 0, 0, 0, 0] id).eng 1).en &&& ((k0 [5, 5, 6, 0, 0, 0, 0, 0] id).eng 1).acc)) ∧
    (∀ s ∈ [k0 [5, 5, 6, 0, 0, 0, 0, 0] id, k0 [0, 0, 1, 0, 0, 0, 0, 0] held], (s.eng 1).wacc.length = 8 ∧ lanesOf ((s.eng 1).en &&& (s.eng 1).acc) = [0, 1, 2]) ∧
    (∀ w ∈ [5, 6], img1.routes.find? (fun d => d.number == w % 32768) ≠ none) ∧ (7 % 4096 < img1.transactions ∧ ¬ 8 % 4096 < img1.transactions) ∧
    ((k0 [5, 5, 6, 0, 0, 0, 0, 0] id).lane 1 2).krefs.getD 2 0 < (k0 [5, 5, 6, 0, 0, 0, 0, 0] id |>.spire 1).keep.tokens.length := by
  unfold EngineReady Addressable; decide +kernel

/-- The clauses of a claim, a release and a share: a free slot and a token for each refusal, and for success. -/
theorem hyp_keep_answers : (keep0.slot 0).tstate = 0 ∧ ((held keep0).slot 0).tstate ≠ 0 ∧ ((held keep0).slot 1).tstate = 0 ∧ claimCode e0.kctx (keep0.token 0) 1 = 0 ∧
    claimCode e0.kctx ({ keep0.token 0 with st := 3 }) 1 = 4 ∧ claimCode e0.kctx ({ keep0.token 0 with recon := true }) 1 = 3 ∧ claimCode e0.kctx ((held keep0).token 0) 1 = 1 ∧
    claimCode e0.kctx ((held keep0).token 1) 5 = 2 ∧ claimCode e0.kctx ({ (held keep0).token 1 with shareCnt := 255 }) 2 = (if bitOf e0.kctx.matrix 6 then 1 else 2) ∧
    openEntry (held keep0) 0 0 = some ⟨0, 1, true, false⟩ ∧ openEntry (held keep0) 0 1 = some ⟨1, 2, true, false⟩ ∧ openEntry (held keep0) 0 2 = none ∧
    openEntry (held keep0) 0xFFFFFFFF 0 = none := by decide +kernel

def offering (p : KeepSt) : KeepSt :=
  { token 1 (fun t => { t with st := 0, recon := false, resident := true, holder := 0xFFFF, home := 9 }) (token 2 (fun t => { t with st := 5, recon := false }) p) with
    bt := { p.bt with offers := [⟨9, 2, 7⟩] } }
theorem hyp_TransferInstructionsFollowTheirRules : KeepFine (k0 [9, 9, 7, 0, 0, 0, 0, 0] offering) 1 ∧
    (let s := k0 [9, 9, 7, 0, 0, 0, 0, 0] offering
     EngineReady s (op 5 0 0) ∧ (s.eng 1).wacc.length = 8 ∧ Addressable s (op 5 0 0) true ((s.eng 1).en &&& (s.eng 1).acc) ∧ Addressable s (op 5 0 0) true (s.eng 1).en ∧
     (∀ j ∈ lanesOf (s.eng 1).en, (s.lane 1 j).krefs.getD (addrOf s (op 5 0 0) true j) 0 < (s.spire 1).keep.tokens.length) ∧
     ((s.spire 1).keep.token 1).boundary = true ∧ 9 ∈ s.kctx.listing 1 ∧ ((s.spire 1).keep.token 1).st = 0 ∧
     (s.spire 1).keep.bt.offers.filter (fun o => o.token == 2 && o.tseq == 7 && s.kctx.admitted.contains o.src) = [⟨9, 2, 7⟩]) :=
  ⟨fine_of _ _ (by decide +kernel) (by unfold slotFine; decide +kernel), by unfold EngineReady Addressable; decide +kernel⟩

def forceG3 : Nat := 2 ^ 31 + 2 ^ 24 + 1 * 2 ^ 21 + 3
theorem hyp_ForcesAnswerLoads : (let s := run0 .maintainer .maintenance
    s.svcFind c1 = some (ses .maintainer) ∧ SpireVals.common (Three.all (some forceG3)) s.compared = some forceG3 ∧ s.mode.cur = .maintenance ∧ s.pwr.warn = false ∧
      s.forceOk 31 forceG3 = true ∧ s.forceOk 0 0 = true ∧ s.forceOk 0 (2 ^ 31 + 7 * 2 ^ 21) = false ∧ bitOf forceG3 31 = true ∧
      (∀ y, y < 3 → s.reactMask (24 * y + 19) / 4 % 2 = 0 ∧ s.reactMask (24 * y + 19) / 8 % 2 = 0)) ∧
    (sv .engineer .maintenance).svcFind c1 = some (ses .engineer) ∧ (run0 .maintainer .active).mode.cur ≠ .maintenance := by decide +kernel

theorem noTrial_of (s : State) (h : (s.upd.boot.a.trial = false ∧ s.upd.activating = none) ∧ s.upd.boot.b = s.upd.boot.a ∧ s.upd.boot.c = s.upd.boot.a) : NoTrial s :=
  ⟨h.1.1, h.1.2, h.2.1, h.2.2⟩
theorem hyp_no_trial : NoTrial State.reset ∧ (∀ r m, NoTrial (run0 r m)) := ⟨noTrial_of _ (by decide), fun _ _ => noTrial_of _ (by exact ⟨⟨rfl, rfl⟩, rfl, rfl⟩)⟩
theorem hyp_ModeCommandsActOrAreRefused : (∀ m ∈ [Mode.integrate, .shadow, .standby, .active, .active2oo2, .maintenance], m.haltable = true ∨ m = .maintenance) ∧
    (∀ r ∈ [Role.engineer, .maintainer, .auditor], (sv r .safeHalt).svcFind c1 = some (ses r) ∧ (sv r .safeHalt).pwr.warn = false) ∧
    (sv .maintainer .active).mode.cur.track = true ∧ (sv .maintainer .standby).mode.cur.track = false ∧ (sv .engineer .update).mode.cur = .update ∧
    ¬ ((ses .auditor).role = .maintainer ∧ (sv .auditor .safeHalt).mode.cur = .safeHalt) ∧ (sv .maintainer .boot).mode.cur.haltable = false := by decide
theorem hyp_LeavingMaintenanceLiftsForces : (let s := run0 .maintainer .maintenance
    s.svcFind c1 = some (ses .maintainer) ∧ s.pwr.warn = false ∧ s.mode.cur = .maintenance ∧ s.flag F.IO_OVR_IN_EN = false ∧
    (withReg R.IO_OVR.addr 0xFFFFFFFF s).flag F.IO_OVR_IN_EN = true ∧ (s.io.inputs.getD (s.fld F.IO_OVR_IN) InSt.idle).wb = false) ∧
    (run0 .engineer .maintenance).svcFind c1 = some (ses .engineer) := by decide
theorem hyp_ResetsReturnRegistersByRetention : (sv .maintainer .safeHalt).svcFind c1 = some (ses .maintainer) ∧ (sv .maintainer .safeHalt).pwr.warn = false ∧
    (sv .maintainer .safeHalt).mode.cur.track = false ∧ (1000 ≤ 1000 ∧ 99 < 100 ∧ 100 ≤ 100 ∧ 999 < 1000) ∧
    NotInReset (sv .maintainer .safeHalt) ∧ SourcesCanonical (sv .maintainer .safeHalt) := by unfold NotInReset SourcesCanonical; decide
theorem hyp_PowerOnResetKeepsOnlyTheNonVolatile : (⟨true, 60000, 60000, 24000, 0x104, [], []⟩ : PorOp).aMv ≤ 60000 ∧ (⟨true, 60000, 60000, 24000, 0x104, [], []⟩ : PorOp).bMv ≤ 60000 ∧
    (⟨true, 60000, 60000, 24000, 0x104, [], []⟩ : PorOp).silent = [] ∧
    (⟨true, 60000, 60000, 24000, 0x104, [], []⟩ : PorOp).torn = [] ∧ SourcesCanonical (sv .maintainer .safeHalt) := by unfold SourcesCanonical; decide
def waits (s : State) : Bool := s.svc.confirms.any (fun p => p.code == 0x0202 && p.opnds == [] && decide (s.time.clockNs ≤ p.untilNs))
theorem hyp_RestartNeedsConfirmation : (∀ m ∈ [Mode.integrate, .safeHalt], let s := sv .maintainer m; s.svcFind c1 = some (ses .maintainer) ∧ s.pwr.warn = false ∧
      waits s = false ∧ waits (confirmed 0x0202 [] s) = true ∧ (confirmed 0x0202 [] s).svcFind c1 = some (ses .maintainer)) ∧
    (sv .maintainer .integrate).time.atValid = false ∧ NotInReset (sv .maintainer .integrate) ∧ SourcesCanonical (sv .maintainer .integrate) ∧
    ({ State.reset with mode := { State.reset.mode with restartPending := true, restartUntil := 100 } } : State).mode.restartPending = true := by unfold NotInReset SourcesCanonical; decide
def integrated : State := let s := confirmed 0x0202 [] (run0 .maintainer .integrate); { s with ring := { s.ring with st := .sync, admitted := true } }
theorem hyp_RestartTakesControlFromTokenDef : integrated.svcFind c1 = some (ses .maintainer) ∧ integrated.pwr.warn = false ∧ waits integrated = true ∧
    integrated.mode.cur = .integrate ∧ integrated.time.atValid = true ∧ integrated.ring.st = .sync ∧ integrated.ring.admitted = true ∧ img0.pair = none ∧
    integrated.benchOk = true ∧ integrated.compared.length = 3 ∧ (two integrated).compared.length = 2 := by decide
theorem hyp_restart_image : integrated.img = some img0 := rfl
theorem hyp_BlockResetsReachTheirBlock : (sv .maintainer .maintenance).svcFind c1 = some (ses .maintainer) ∧ (sv .maintainer .maintenance).pwr.warn = false ∧
    (sv .maintainer .maintenance).mode.cur = .maintenance ∧ (39 % 256 = 39 ∧ 39 < 40) ∧ 0x70 % 256 = 0x70 ∧ 0x60 % 256 = 0x60 ∧ 0x7FFFFF60 % 256 = 0x60 ∧ 0x7FFFFF60 < 2 ^ 31 ∧ State.reset.sched.cur = 31 ∧
    (run0 .maintainer .maintenance |>.sched.cur) = 31 ∧ ({ SchedSt.idle with cur := 0 } : SchedSt).cur ≠ 31 := by decide

/-! ### Statements about service requests, clears and faults -/

/-- Challenges wait for an engineer on E2 and an auditor on E3; the auditor's fourth failure stands; a maintainer is locked out on E3. -/
def logging (s : State) : State := { s with svc := { s.svc with
  logins := [⟨2, .engineer, 5, 7⟩, ⟨3, .auditor, 1, 2⟩], lockouts := [⟨3, .maintainer, [], true⟩, ⟨3, .auditor, [0, 0, 0, 0], false⟩]
  confirms := [⟨cmdKpUnblock, [1], 100⟩, ⟨0x0304, [], 50⟩, ⟨0x0202, [], 90⟩] }, upd := { s.upd with stage := .verifying } }
def lg : State := logging (sv .maintainer .active)

theorem hyp_LoginsOpenSessionsOrLockOut : (0 < 16 ∧ (lg.lockout 0 .engineer).locked = false) ∧ (lg.lockout 2 .engineer).locked = false ∧ lg.challengeFor 2 .engineer = some ⟨2, .engineer, 5, 7⟩ ∧
    lg.svc.sessions.length < 8 ∧ (lg.lockout 3 .auditor).locked = false ∧ lg.challengeFor 3 .auditor = some ⟨3, .auditor, 1, 2⟩ ∧
    ((lg.lockout 3 .auditor).fails.filter (fun t => decide (lg.time.clockNs < t + 60000000000))).length = 4 ∧ (lg.lockout 3 .maintainer).locked = true ∧
    lg.svc.sessions.find? (fun (x : SvcSess) => x.sid == 1) = some (ses .maintainer) ∧
    (∀ e ∈ [(cmdKpUnblock, 100), (0x0304, 50), (0x0202, 90)], (lg.svc.confirms.find? (fun (p : Confirm) => p.code == e.1)).map Confirm.untilNs = some e.2) ∧
    lg.upd.stage = .verifying := by decide
/-- A right and a wrong proof exist whatever R456's value is. -/
theorem hyp_proof_values (e : LoginSt) : (∃ p : ProofOp, p.port = 2 ∧ p.role = .engineer ∧ lg.proofFor e = p.proof) ∧ ∃ p : ProofOp, p.port = 3 ∧ p.role = .auditor ∧ lg.proofFor e ≠ p.proof :=
  ⟨⟨⟨2, .engineer, lg.proofFor e⟩, rfl, rfl, rfl⟩, ⟨⟨3, .auditor, lg.proofFor e + 1⟩, rfl, rfl, by show lg.proofFor e ≠ lg.proofFor e + 1; omega⟩⟩
theorem hyp_SmallRequestsAreAnswered : lg.svcFind c1 = some (ses .maintainer) ∧ (3 < 4 ∧ 4 ≤ 4) ∧ (⟨15, 3, .ipv6 (linkLocal (lg.macOf 15)), 5⟩ : EchoOp).kind ≤ 3 ∧
    (∀ k ∈ [1, 3], (⟨15, k, .ipv6 (linkLocal (lg.macOf 15)), 5⟩ : EchoOp).fits = true) ∧ lg.carries 15 (.ipv6 (linkLocal (lg.macOf 15))) = true ∧
    (∀ k ∈ [0, 2], (⟨15, k, .ipv4 0xC0A8FD01, 5⟩ : EchoOp).fits = true) ∧ lg.carries 15 (.ipv4 0xC0A8FD01) = true := by decide
/-- A transaction of one logged write and one read, and one of the force word of three spires' copies that none of them logs. -/
def tb : List RegWr := [⟨R.TB_CFG.addr, 0, 20⟩]
theorem hyp_RegisterWritesActWholeOrNotAtAll : (let s := sv .engineer .update
    s.svcFind c1 = some (ses .engineer) ∧ (s.asked c1).badWrite (ses .engineer) tb = none ∧ (s.asked c1).badRead [(R.HW_ID.addr, 0)] = none ∧
    (writeBases tb).countP ((s.asked c1).asksEntry (ses .engineer) tb) = 1 ∧ s.pwr.warn = false ∧ env0.chgFail = none ∧
    (s.asked c1).badWrite (ses .engineer) [⟨2 ^ 25, 0, 3⟩] = some (2 ^ 25) ∧ (s.asked c1).badRead [(0x30FFC, 0)] = some 0x30FFC ∧
    (let w : State := { s with pwr := { s.pwr with warn := true } }
     (w.asked c1).badWrite (ses .engineer) tb = none ∧ w.pwr.warn = true ∧ ∃ b ∈ writeBases tb, (w.asked c1).asksEntry (ses .engineer) tb b = true)) := by
  decide +kernel
theorem hyp_no_own_row : ∀ b ∈ writeBases tb, ∀ r v, ((sv .engineer .update).asked c1).writeValue (ses .engineer) tb b = some (r, v) → ∀ q ∈ ownRows, r.addr ≠ q.addr := by
  intro b hb r v h
  rw [show writeBases tb = [R.TB_CFG.addr] from by decide] at hb
  rw [List.mem_singleton.1 hb, show ((sv .engineer .update).asked c1).writeValue (ses .engineer) tb R.TB_CFG.addr = some (R.TB_CFG, 20) from by decide] at h
  cases h; decide
theorem hyp_counters_are_cleared : (sv .maintainer .active).svcFind c1 = some (ses .maintainer) ∧ SpireVals.common (Three.all (some 3)) (sv .maintainer .active).compared = some 3 ∧
    SpireVals.common ⟨some 1, some 2, some 1⟩ (two (sv .maintainer .active)).compared = some 1 ∧ (bitOf 1 0 = true ∧ bitOf 2 1 = true) ∧
    SpireVals.common (Three.all (some 1)) (sv .maintainer .active).liveSlices = some 1 := by decide

def source (st : SrcState) (cond sticky force forced : Bool) (win : Nat) : SrcSt :=
  { SrcSt.idle with st := st, cond := cond, sticky := sticky, forced := forced, force := force, winCnt := win, quietEnd := 77, recCnt := 255, occ := 3, winOpen := decide (0 < win), winEnd := 999 }
def withSrc (k : Nat) (x : SrcSt) (s : State) : State := { s with fc := { s.fc with src := (k, x) :: s.fc.src.filter (fun e => e.1 != k) } }
theorem hyp_RaisesMoveSourcesAndTheFirstIsHeld : (∀ k ∈ [17, 100, 112], (sourceDef k).isSome = true ∧ ∀ d, sourceDef k = some d → d.sev ≤ 2 ∧ ¬ (k < 72 ∧ k % 24 = 5)) ∧
    (∀ k ∈ [17, 100, 112], e0.reactMask k / 4 % 2 = 0 ∧ e0.reactMask k / 8 % 2 = 0) ∧ e0.fc.first = none ∧
    (∃ a b, a ≠ b ∧ ∃ d e, sourceDef a = some d ∧ sourceDef b = some e ∧ e.sev ≤ d.sev ∧ d.sev ≤ 2 ∧ (e.sev < d.sev ∨ a < b)) := by
  refine ⟨by decide +kernel, by decide +kernel, by decide +kernel, 17, 18, by decide, ?_⟩
  exact ⟨_, _, rfl, rfl, by decide, by decide, by decide⟩
theorem hyp_SevereRaisesStopTheSpireOrTheModule : (∃ k, (sourceDef k).map SrcDef.sev = some 4 ∧ e0.reactMask k / 4 % 2 = 0 ∧ e0.reactMask k / 8 % 2 = 0) ∧ e0.trial = false ∧
    e0.mode.cur = .active ∧ e0.compared.length = 3 ∧
    (∃ k, k < 72 ∧ k % 24 ≠ 2 ∧ k % 24 ≠ 10 ∧ (sourceDef k).map SrcDef.sev = some 3 ∧ e0.isCompared (k / 24) = true ∧ e0.reactMask k / 4 % 2 = 0 ∧ e0.reactMask k / 8 % 2 = 0 ∧
      e0.reactMask (24 * (k / 24) + 10) / 4 % 2 = 0 ∧ e0.reactMask (24 * (k / 24) + 10) / 8 % 2 = 0) :=
  ⟨⟨75, by decide +kernel⟩, by decide, by decide, by decide, ⟨24, by decide +kernel⟩⟩
theorem hyp_ConditionsEndThroughTheQuietPeriod : ((withSrc 98 (source .active true true false false 0) e0).src 98).cond = true ∧ ((withSrc 98 (source .active true true false false 0) e0).src 98).force = false ∧
    ((withSrc 34 (source .quiet false true false true 1) e0).src 34).st = .quiet ∧ ((withSrc 34 (source .clear false false false false 9) e0).src 34).winOpen = true ∧
    e0.bf.spst.get 1 = .compared := by decide
theorem hyp_CollectorCommandsClearWhatTheyName : (sv .auditor .active).svcFind c1 = some (ses .auditor) ∧ (sv .auditor .active).pwr.warn = false ∧
    (∀ j, j < 32 → bitOf 1 j = true → (sourceDef (32 * 3 + j)).isSome = true) ∧ (∃ w m, w < 4 ∧ ∃ j, j < 32 ∧ bitOf m j = true ∧ sourceDef (32 * w + j) = none) := by
  refine ⟨by decide, by decide, by decide +kernel, 2, 2 ^ 19, by decide, 19, by decide, by decide, by decide⟩
theorem hyp_ForceBitsAndInjectionsAreArmed : (let s := run0 .maintainer .maintenance
    s.svcFind c1 = some (ses .maintainer) ∧ s.mode.cur = .maintenance ∧ s.pwr.warn = false ∧ s.injectOk (2 ^ 31 + 2 * 64 + 33) = true ∧ forceWordOk 0 (2 ^ 17) = true ∧
    (∀ j, j < 32 → bitOf (2 ^ 17) j = true → (s.src j).force = false → (∃ d ∈ sourceDef j, d.sev ≤ 2) ∧ s.reactMask j / 4 % 2 = 0 ∧ s.reactMask j / 8 % 2 = 0)) ∧
    (sv .engineer .selftest).mode.cur = .selftest ∧ ¬ ((sv .auditor .active).mode.cur = .maintenance ∧ (ses .auditor).role = .maintainer) := by decide +kernel

/-! ### Statements about time, references and the schedule -/

def wv (l : LockState) (master valid : Bool) (s : State) : State := { s with wv := { s.wv with
  lock := l, master := master, src := 0, holdNs := 999999999999999, refs := (List.range 5).map (fun k => (k, { RefSt.idle with periods := [20000000, 20000000], ampOk := true, fresh := true, good := 16, valid := valid })) } }
def r0 : State := rich (run0 .engineer .active)
theorem hyp_ReferencesAndCivilTimeFollowTheirSources : ((⟨2, 0, 0, 1000⟩ : RefEdge).ref = 2 ∧ 1000 ≤ (⟨2, 0, 0, 1000⟩ : RefEdge).widthNs ∧ (⟨3, 0, 0, 999⟩ : RefEdge).widthNs < 1000 ∧ 5 ≤ (⟨5, 0, 0, 0⟩ : RefEdge).ref ∧ 4 < 5) ∧ (wv .locked true true r0).wv.lock = .locked ∧ (wv .locked true true r0).wv.src = 0 ∧
    (wv .holdover true true r0).wv.lock = .holdover ∧ (wv .holdover true true r0).wv.holdLong = false ∧
    (wv .holdover true true r0).fld F.HOLD_LIMIT_MINUTES * 60000000000 ≤ (wv .holdover true true r0).wv.holdNs ∧
    (r0.reactMask 91 / 4 % 2 = 0 ∧ r0.reactMask 91 / 8 % 2 = 0) ∧ (withReg R.CIVIL_STATUS.addr 4 r0).fld F.CIVIL_STATUS_PTP_PORT ≠ 15 ∧
    (withReg R.CIVIL_STATUS.addr 4 r0).flag F.CIVIL_STATUS_VALID = true ∧ ((1000000 : Nat) - (r0.time.civil : Int)).natAbs ≤ 1000000 ∧
    r0.flag F.CIVIL_STATUS_VALID = false ∧ r0.svcFind c1 = some (ses .engineer) ∧ r0.pwr.warn = false := by decide +kernel
theorem hyp_BaseCyclesFollowEachOther : r0.img.isSome = true ∧ NoResetReaction r0 127 ∧ r0.time.atValid = true ∧ r0.pwr.warn = false ∧
    ({ r0 with pwr := { r0.pwr with warn := true } } : State).pwr.warn = true := by unfold NoResetReaction; decide +kernel
theorem hyp_reset_no_image : State.reset.img = none := rfl

theorem resets_of (s : State) (h : (List.range 128).all (fun k => k == 102 || (s.reactMask k / 4 % 2 == 0 && s.reactMask k / 8 % 2 == 0)) = true) : NoResets s := by
  intro k hk h102
  have := List.all_eq_true.mp h k (List.mem_range.mpr hk)
  simpa [NoResetReaction, h102] using this
def sc (f : SchedSt → SchedSt) (s : State) : State := { s with sched := f s.sched }
def fin : State := sc (fun c => { c with tasks := [(0, { TaskSt.idle with fin := some (100 * 65536 + 9), deadline := some (100 * 65536 + 30) }), (8, { TaskSt.idle with fin := some (100 * 65536 + 9) })] }) r0
def sweeping (f : SchedSt → SchedSt) : State :=
  { sc f r0 with img := some { img1 with sched := { img1.sched with sweep := true, starts := [5000], outs := [4000] } } }
def pendingEvent : State := sc (fun c => { c with tasks := [(8, { TaskSt.idle with pend := true, rel := some (100 * 65536) })] }) r0
def sealed : State := sc (fun c => { c with sealRuns := true }) r0
def frozen : State := sc (fun c => { c with tasks := [(0, { TaskSt.idle with frozen := some 100 })] }) r0
def asleep : State := { pendingEvent with regs := [(R.TB_CFG.addr, 20), (R.PWR_STATE.addr, 0x24)] }
def early : State := { r0 with time := { r0.time with angle := 0 } }

theorem hyp_no_resets : NoResets r0 ∧ NoResets State.reset ∧ NoResets (sweeping id) ∧ NoResets fin :=
  ⟨resets_of _ (by decide +kernel), resets_of _ (by decide +kernel), resets_of _ (by decide +kernel), resets_of _ (by decide +kernel)⟩
theorem hyp_FreezesAndReleasesFollowTheSchedule : r0.fc.inject = [] ∧ (∀ k ∈ [0, 8], r0.taskDef k = some (if k = 0 then task0 else task8)) ∧ r0.isDue task0 = true ∧
    r0.mode.cur.sessions = true ∧ r0.mode.cur.runs = true ∧ (r0.task 0).frozen ≠ some r0.time.count ∧ (frozen.task 0).frozen = some frozen.time.count ∧
    r0.releasedNow 0 = false ∧ (r0.task 0).ready = false ∧ r0.releaseWaits 0 = false ∧ frozen.releasedNow 0 = false ∧ frozen.releaseWaits 0 = false ∧
    (pendingEvent.task 8).pend = true ∧ (pendingEvent.task 8).ready = false ∧ pendingEvent.releaseWaits 8 = false ∧ (pendingEvent.task 8).rel = some (100 * 65536) ∧
    (100 * 65536 + task8.minSep) / 65536 = pendingEvent.time.count ∧ pendingEvent.depth = 0 ∧ asleep.depth ≠ 0 ∧ asleep.sched.cur = 31 ∧ asleep.releaseWaits 8 = false ∧
    (asleep.task 8).pend = true ∧ r0.leadNow 8 = none ∧ (∃ a, early.leadNow 0 = some a) ∧ early.mode.cur.runs = true := by
  refine ⟨by decide, by decide +kernel, by decide, by decide, by decide, by decide, by decide, by decide +kernel, by decide, by decide +kernel, by decide +kernel, by decide +kernel,
    by decide, by decide, by decide +kernel, by decide, by decide, by decide +kernel, by decide +kernel, by decide, by decide +kernel, by decide, by decide +kernel, ⟨_, rfl⟩, by decide⟩
/-- The three ways of a release: held during a seal, latched while a task runs, effective. -/
theorem hyp_release_ways : sealed.sched.sealRuns = true ∧ r0.sched.sealRuns = false ∧ r0.sched.hold = false ∧ r0.bf.joinHold = false ∧ r0.sched.cur = 31 ∧
    (sc (fun c => { c with cur := 0 }) r0).sched.cur ≠ 31 ∧ (sc (fun c => { c with hold := true }) r0).sched.hold = true := by decide
theorem hyp_sweep_start : (sweeping id).content.sched.starts[0]? = some 5000 ∧ (sweeping id).sweepMode = true ∧ (sweeping id).mode.cur.runs = true ∧ (sweeping id).sched.cur = 31 ∧
    (sweeping id).sched.sealRuns = false ∧ (sweeping id).sched.sweepStart = none ∧ (sweeping id).sched.sweepSeal = none ∧ (sweeping id).time.angle ≤ 5000 ∧
    ((sweeping id).cameTo 5000).mode.cur.runs = true ∧
    (∀ q, (sweeping (fun c => { c with sweepSeal := some (100 * 65536 + 4999) })).sched.sweepSeal = some q → q < 100 * 65536 + 5000) := by
  refine ⟨by decide, by decide, by decide, by decide, by decide, by decide, by decide, by decide, by decide +kernel, ?_⟩
  intro q h; cases h; decide
def atBarrier (cur next : Nat) : State :=
  { sc (fun c => { c with cur := cur, audited := true, tasks := [(0, { TaskSt.idle with ready := true, next := next })] }) r0 with
    sp := Three.all { sp0 with eng := { eng0 with run := false, barrier := true } }, bf := { r0.bf with barrierReady := true } }
theorem hyp_BarriersAndSealsEndTheWorkOfACycle : (atBarrier 0 0).barrierDone = true ∧ (atBarrier 25 0).barrierDone = true ∧ (atBarrier 0 0).sched.cur ≠ 31 ∧ (atBarrier 25 0).sched.cur = 25 ∧
    (atBarrier 0 0).taskDef 0 = some task0 ∧ (atBarrier 0 0).flag F.RST_CMD_BUSY = false ∧ (atBarrier 0 0).sched.relq = [] ∧ (atBarrier 0 0).sched.audited = true ∧ (atBarrier 0 0).fc.inject = [] ∧
    (atBarrier 0 0).sched.sealWaits = false ∧ (∀ e ∈ (atBarrier 0 0).content.sched.tasks, e.code ≠ 0 → ((atBarrier 0 0).task e.code).ready = false) ∧
    ((atBarrier 0 0).content.run 0).2 ≤ ((atBarrier 0 0).task 0).next + 1 ∧ (atBarrier 0 0).sweepMode = false := by decide +kernel
/-- Nothing to seal, a cycle that may be sealed, one in which the audit runs, one in which a task runs. -/
def sealing : State := sc (fun c => { c with audited := true, auditOk := true }) r0
theorem hyp_seals : (∀ s ∈ [r0, sealing, atBarrier 25 0, atBarrier 0 0], s.sweepMode = false ∧ s.img.isSome = true ∧ s.mode.cur.runs = true ∧ s.sched.hold = false ∧ s.sched.sealDone = false ∧
      s.sched.sealRuns = false) ∧
    (let a := img1.sched.sealAng
     (r0.cameTo a).sched.cur = 31 ∧ (r0.cameTo a).mayS = false ∧ (sealing.cameTo a).sched.cur = 31 ∧ (sealing.cameTo a).mayS = true ∧ ((atBarrier 25 0).cameTo a).sched.cur = 25 ∧
      ((atBarrier 0 0).cameTo a).sched.cur = 0) ∧
    sealed.sched.sealRuns = true ∧ (∀ x, x < 3 → sealed.bf.spst.get x ≠ .join) ∧
    (∃ x, x < 3 ∧ ({ sealed with bf := { sealed.bf with spst := ⟨.compared, .join, .compared⟩ } } : State).bf.spst.get x = .join) :=
  ⟨by decide +kernel, by decide +kernel, by decide, by decide, 1, by decide, by decide⟩
/-- The output angle `ang` of task t has passed in this cycle. -/
def outGone (t ang : Nat) (s : State) : State := sc (fun c => { c with tasks := [(t, { TaskSt.idle with lastOut := some (100 * 65536 + ang) })] }) s
def swept : State := sweeping (fun c => { c with tasks := [(24, { TaskSt.idle with fin := some (100 * 65536 + 9), deadline := some (100 * 65536 + 30) })] })
def came (s : State) (d : TaskDef) : State :=
  let a := State.advanceTo { s with out := [] } d.outAng
  a.each (a.outputsAt d.outAng d.prio) (fun s t => s.outputOnce t d.outAng VoteOp.plain)
theorem hyp_OutputsLeaveAndTheWatchdogStopsTheModule : (fin.content.sessions.map SessDef.n).Nodup ∧ fin.taskDef 8 = some task8 ∧ fin.taskDef 0 = some task0 ∧ fin.mode.cur.sessions = true ∧
    (came (outGone 8 task8.outAng r0) task8).outputDone 8 task8.outAng = true ∧
    (let w := came fin task8; w.outputDone 8 task8.outAng = false ∧ w.fc.inject = [] ∧ w.mode.cur.sessions = true ∧ (w.sessAt 1).st = .opened ∧ (w.task 8).fin = some (100 * 65536 + 9) ∧
      100 * 65536 + 9 < w.absAngle) ∧
    (let w := came fin task0; w.outputDone 0 task0.outAng = false ∧ w.mode.cur.track = true ∧ w.fc.inject = [] ∧ w.bf.stopped = false ∧ (w.task 0).fin = some (100 * 65536 + 9) ∧
      100 * 65536 + 9 ≤ w.absAngle ∧ w.compared = [0, 1, 2] ∧ w.liveSlices = [0, 1, 2] ∧ (∀ y, y < 3 → w.localWord y 0 = w.localWord 0 0) ∧
      (∀ y, y < 3 → ∀ e ∈ (w.spire y).pg.qpend, e.2 ≠ 0)) := by decide +kernel
theorem hyp_sweep_outputs : (∀ s ∈ [swept, sweeping id, outGone 24 4000 (sweeping id)], s.content.sched.outs[0]? = some 4000 ∧ s.sweepMode = true ∧ s.mode.cur.sessions = true ∧ s.fc.inject = []) ∧
    (State.advanceTo { outGone 24 4000 (sweeping id) with out := [] } 4000).outputDone 24 4000 = true ∧
    (State.advanceTo { sweeping id with out := [] } 4000).outputDone 24 4000 = false ∧ ((sweeping id).task 24).fin = none ∧
    (State.advanceTo { swept with out := [] } 4000).outputDone 24 4000 = false ∧ (swept.task 24).fin = some (100 * 65536 + 9) ∧ swept.mode.cur.track = true ∧ swept.bf.stopped = false ∧
    swept.compared = [0, 1, 2] ∧ swept.liveSlices = [0, 1, 2] ∧ (∀ y, y < 3 → swept.localWord y 24 = swept.localWord 0 24) ∧ (∀ y, y < 3 → ∀ e ∈ (swept.spire y).pg.qpend, e.2 ≠ 24) := by
  decide +kernel
theorem hyp_watchdog : fin.armed 0 = some (100 * 65536 + 30) ∧ fin.mode.cur.runs = true ∧ (100 * 65536 + 30) / 65536 ≤ fin.time.count ∧ fin.trial = false ∧ fin.lagging = false ∧
    swept.armed 24 = some (100 * 65536 + 30) := by decide +kernel

/-! ### Statements about intake, boundary, pager, image load, belfry and pair -/

def keepOf (g : KeepSt → KeepSt) (s : State) : State := { s with sp := s.sp.mapI (fun _ (x : Spire) => { x with keep := g x.keep }) }
def bt (f : BtSt → BtSt) : State → State := keepOf fun p => { p with bt := f p.bt }
def m0 : State := rich (run0 .maintainer .active)
def offer9 : BRec := { brec0 with cv := triSig polys 4 5 brec0.body }
def offered : State := { keepOf (token 2 (fun t => { t with st := 5, recon := false })) m0 with kevents := [(m0.absAngle, .brec offer9), (m0.absAngle + 1, .brec offer9)] }
def blocking : State := { keepOf (token 0 (fun t => { t with holder := 0xFFFF })) m0 with kevents := [(m0.absAngle, .cmd 0 1)] }


theorem spires (s : State) (Q : Spire → Prop) (h : Q s.sp.a ∧ Q s.sp.b ∧ Q s.sp.c) (x : Nat) : Q (s.spire x) := by
  unfold State.spire Three.get
  split
  · exact h.1
  · split
    · exact h.2.1
    · exact h.2.2
theorem intake_of (s : State) (ev : List KEvent)
    (h : s.mode.cur.runs = true ∧ s.img.isSome = true ∧ s.sched.intake = false ∧ (s.kevents.filter (fun e => decide (e.1 ≤ s.intakeLimit))).map Prod.snd = ev ∧ s.fc.inject = [] ∧ s.expiredTimers = [])
    (hq : s.sp.a.keep.bt.queries = [] ∧ s.sp.b.keep.bt.queries = [] ∧ s.sp.c.keep.bt.queries = []) : IntakeOf s ev :=
  ⟨h.1, h.2.1, h.2.2.1, h.2.2.2.1, h.2.2.2.2.1, h.2.2.2.2.2, spires s (fun x => x.keep.bt.queries = []) hq⟩

theorem hyp_intakes : IntakeOf m0 [] ∧ IntakeOf offered [.brec offer9] ∧ IntakeOf blocking [.cmd 0 1] ∧ (sc (fun c => { c with intake := true }) m0).sched.intake = true :=
  ⟨intake_of _ _ (by decide +kernel) (by decide), intake_of _ _ (by decide +kernel) (by decide), intake_of _ _ (by decide +kernel) (by decide), by decide⟩
theorem hyp_offer_is_taken_in : TakenIn offered offer9 2 ∧ offer9.kind = 1 ∧ offered.compared ≠ [] ∧
    (∀ x, ((offered.spire x).keep.token 2).st = 5 ∧ ((offered.spire x).keep.token 2).recon = false ∧ ((offered.spire x).keep.token 2).bad = false ∧ (offered.spire x).keep.transfers < 256) ∧ (offered.kctx.listing 2).contains 9 = true := by
  refine ⟨⟨by decide +kernel, by decide +kernel, by decide +kernel, by decide +kernel, by decide +kernel, fun x _ => ?_⟩, by decide, by decide, fun x => ?_, by decide +kernel⟩
  · exact spires offered (fun x => x.keep.bt.fences.contains (9, 1) = false ∧ Sparse.get (fun _ => 0) x.keep.bt.rseqRx 9 < 5) (by decide +kernel) x
  · exact spires offered (fun x => (x.keep.token 2).st = 5 ∧ (x.keep.token 2).recon = false ∧ (x.keep.token 2).bad = false ∧ x.keep.transfers < 256) (by decide +kernel) x
theorem hyp_block_may_act (x : Nat) : 0 < (blocking.spire x).keep.tokens.length ∧ ((blocking.spire x).keep.token 0).st = 0 ∧ ((blocking.spire x).keep.token 0).holder = 0xFFFF ∧
    ((blocking.spire x).keep.token 0).recon = false ∧ ((blocking.spire x).keep.token 0).bad = false :=
  spires blocking (fun x => 0 < x.keep.tokens.length ∧ (x.keep.token 0).st = 0 ∧ (x.keep.token 0).holder = 0xFFFF ∧ (x.keep.token 0).recon = false ∧ (x.keep.token 0).bad = false) (by decide +kernel) x
theorem hyp_keep_commands : m0.svcFind c1 = some (ses .maintainer) ∧ SpireVals.common (Three.all (some (65536 + 2))) m0.compared = some (65536 + 2) ∧ m0.pwr.warn = false ∧
    bits (65536 + 2) 0 16 < m0.content.tokens.length ∧ bits (65536 + 2) 16 4 = 1 ∧ bits (2 * 65536 + 1) 16 4 = 2 ∧ m0.mode.cur.track = true ∧ (run0 .maintainer .maintenance).mode.cur = .maintenance ∧
    m0.sched.cur = 31 ∧ (sc (fun c => { c with cur := 0 }) m0).sched.cur ≠ 31 ∧
    (∀ v ∈ [65536 + 2, 2 * 65536 + 1], roOk R.KP_CMD.addr (m0.word (R.KP_CMD.key m0.lead 0)) v = true) ∧
    (∀ v ∈ [0, 65535], roOk R.KP_TSEL.addr (m0.word (R.KP_TSEL.key m0.lead 0)) v = true ∧ roOk R.KP_XSEL.addr (m0.word (R.KP_XSEL.key m0.lead 0)) (v % 4096) = true) ∧
    roOk R.KP_TSEL.addr (m0.word (R.KP_TSEL.key m0.lead 0)) (2 ^ 31) = false ∧ roOk R.KP_XSEL.addr (m0.word (R.KP_XSEL.key m0.lead 0)) (2 ^ 31) = false ∧
    (confirmed cmdKpUnblock [2 * 65536 + 1] m0).svc.confirms.any (fun p => p.code == cmdKpUnblock && p.opnds == [2 * 65536 + 1] && decide (m0.time.clockNs ≤ p.untilNs)) = true := by decide +kernel

/-- A timer of token 1 since COUNT 0, which has reached its limit. -/
def timed (kind : BtTimerKind) : State :=
  let s := bt (fun b => { b with timers := [⟨kind, 1, some 0⟩] }) m0
  if kind = .long then { s with time := { s.time with count := 600 } } else s
theorem timer_of (kind : BtTimerKind) (h : (timed kind).mode.cur.runs = true ∧ (timed kind).img.isSome = true ∧
    (timed kind).expiredTimers.find? (fun t => decide (t.kind = kind) && t.token == 1) = some ⟨kind, 1, some 0⟩)
    (h2 : (1 < (timed kind).sp.a.keep.tokens.length ∧ ((timed kind).sp.a.keep.token 1).bad = false) ∧ (1 < (timed kind).sp.b.keep.tokens.length ∧ ((timed kind).sp.b.keep.token 1).bad = false) ∧
      1 < (timed kind).sp.c.keep.tokens.length ∧ ((timed kind).sp.c.keep.token 1).bad = false) : TimerDue (timed kind) kind 1 ⟨kind, 1, some 0⟩ :=
  ⟨h.1, h.2.1, h.2.2, rfl, rfl, fun x _ => spires (timed kind) (fun x => 1 < x.keep.tokens.length ∧ (x.keep.token 1).bad = false) h2 x⟩
theorem hyp_timers_due : TimerDue (timed .offer) .offer 1 ⟨.offer, 1, some 0⟩ ∧ TimerDue (timed .confirm) .confirm 1 ⟨.confirm, 1, some 0⟩ ∧ TimerDue (timed .completion) .completion 1 ⟨.completion, 1, some 0⟩ ∧
    TimerDue (timed .retry) .retry 1 ⟨.retry, 1, some 0⟩ ∧ TimerDue (timed .long) .long 1 ⟨.long, 1, some 0⟩ ∧ NoResets (timed .long) :=
  ⟨timer_of _ (by decide +kernel) (by decide +kernel), timer_of _ (by decide +kernel) (by decide +kernel), timer_of _ (by decide +kernel) (by decide +kernel), timer_of _ (by decide +kernel) (by decide +kernel),
    timer_of _ (by decide +kernel) (by decide +kernel), resets_of _ (by decide +kernel)⟩
def settling : State := bt (fun b => { b with settles := [⟨5, 1, 1, [9], 0⟩] }) m0
def fencing (r : Role) : State := { bt (fun b => { b with authReq := [(1, 9)] }) (keepOf (token 1 (fun t => { t with recon := true, st := 5 })) (confirmed cmdFence [101, 9, 6] (rich (run0 r .active)))) with
  peers := [⟨9, false, none, none, 7, false, false, 0, 1⟩], time := { m0.time with clockNs := 10000000000 } }
theorem hyp_BoundaryTimersAndReconciliationFollowTheirRules : m0.mode.cur.track = true ∧ (run0 .maintainer .maintenance).mode.cur.track = false ∧ m0.svcFind c1 = some (ses .maintainer) ∧ m0.mode.cur.settles = true ∧
    m0.settleTokens ⟨6, some 101, 9⟩ ≠ [] ∧ settling.theKeep.bt.settles.filter (fun e => decide (e.start + settling.settleLimit e.token ≤ settling.time.count)) = [⟨5, 1, 1, [9], 0⟩] ∧
    (fencing .auditor).svcFind c1 = some (ses .auditor) ∧ (fencing .maintainer).svcFind c1 = some (ses .maintainer) ∧ (some 101).bind (fencing .auditor).kctx.tokenOf = some 1 ∧
    (fencing .auditor).fenceOk ⟨6, some 101, 9⟩ 1 = true ∧ (fencing .maintainer).fenceOk ⟨6, some 101, 9⟩ 1 = true ∧
    (fencing .auditor).svc.confirms.any (fun p => p.code == cmdFence && p.opnds == [101, 9, 6] && decide ((fencing .auditor).time.clockNs ≤ p.untilNs)) = true ∧
    m0.peers.any (fun p => p.addr == 9 && p.admitted) = true ∧ (∀ y ∈ [0, 1, 2], 1 < ((fencing .auditor).spire y).keep.tokens.length ∧ (((fencing .auditor).spire y).keep.token 1).bad = false) := by
  decide +kernel

def pg (f : PagerSt → PagerSt) (s : State) : State := { s with sp := s.sp.mapI (fun _ (x : Spire) => { x with pg := f x.pg }) }
def slotG (g home : Nat) (dirty pinned demand : Bool) : PgSlot := ⟨.group g, home, dirty, pinned, demand, false⟩
/-- An image whose task has four groups; task 0 runs its first. -/
def paging : State := { m0 with
  img := some { img1 with groups := List.replicate 4 ⟨0, 0, [lane0 0]⟩, sched := { img1.sched with tasks := [{ task0 with count := 4 }, task8] } }
  sched := { m0.sched with cur := 0, tasks := [(0, { TaskSt.idle with ready := true })] } }
def full (l : List PgSlot) (s : State) : State := pg (fun p => { p with slots := l, nslots := l.length }) s
def oneFree : State := full [slotG 3 0 true false true, slotG 9 1 false false false, slotG 8 2 false false true] paging
def noneFree : State := full [slotG 3 0 true false true, slotG 2 1 false true false] paging
/-- Pages of spire 1 that a fill could take the place of. -/
def goers (s : State) : List PgSlot := (s.pgOf 1).slots.filter (fun q => !q.pinned && !q.dirty && !s.inWindow 1 q.page)
theorem hyp_fills : (∃ p, FillDue paging 1 p ∧ (paging.pgOf 1).empty? = some 0) ∧ (∃ p, FillDue oneFree 1 p ∧ (oneFree.pgOf 1).empty? = none) ∧
    (∃ p, FillDue noneFree 1 p ∧ (noneFree.pgOf 1).empty? = none) ∧ (∃ q ∈ goers oneFree, q.demand = true) ∧ goers noneFree = [] ∧
    paging.channelOf 1 ≠ some (.group 16383) ∧ paging.mode.cur.runs = true := by
  unfold FillDue
  refine ⟨⟨.input 0 0, by decide +kernel, by decide +kernel⟩, ⟨.input 0 0, by decide +kernel, by decide +kernel⟩, ⟨.input 0 0, by decide +kernel, by decide +kernel⟩,
    by decide +kernel, by decide +kernel, by decide +kernel, by decide⟩
def qcopying : State := pg (fun p => { p with qpend := [(0, 0), (1, 0)], qcopy := [(0, [(7, true), (40000, true)])] }) m0
def snap5 : Snapshot := ⟨5, 9, 0, ⟨77, 3⟩, mem0, keep0, [], []⟩
def copying : State := pg (fun p => { p with copying := true, snaps := [snap5] }) (two m0)
def testing (block : Nat) : State := pg (fun p => { p with march := some ⟨3, 0, true, block, true⟩ }) m0
def deep (s : State) : State := withReg R.PWR_STATE.addr 0x92 s
def auditing (pos : Nat) : State := { sc (fun c => { c with cur := 25 }) (pg (fun p => { p with scrubPos := pos }) m0) with img := some { img1 with banks := [1, 2, 3] } }
/-- A destructive test of bank 3, whose use code is u. -/
def destroying (u : Nat) (m : Mode) : State :=
  pg (fun p => { p with march := some ⟨3, 0, false, 0, false⟩ }) { run0 .maintainer m with img := some { img1 with banks := [1, 4, 4, u] }, sched := { State.reset.sched with cur := 31 } }
theorem hyp_destructive_march : (∀ u ∈ [0, 2, 3, 4, 5, 6], (let s := destroying u .maintenance; s.compared ≠ [] ∧ (∀ x ∈ s.compared, s.fld (pwrField x) < 2) ∧
      (s.pgOf s.bodySpire).march = some ⟨3, 0, false, 0, false⟩ ∧ s.sched.cur = 31 ∧ s.content.banks.getD 3 0 = u)) ∧ NoResets (destroying 2 .maintenance) :=
  ⟨by decide +kernel, resets_of _ (by decide +kernel)⟩
theorem hyp_PagesAndBanksAreKept : ¬ ((oneFree.eng 1).run = true ∧ (oneFree.eng 1).group = 3) ∧ (∃ q ∈ (oneFree.pgOf 1).slots, q.page = .group 3 ∧ q.dirty = true) ∧
    (qcopying.pgOf 1).qpend = (0, 0) :: [(1, 0)] ∧ Sparse.wf (fun _ => false) (qcopying.spire 1).mem.q = true ∧ (∀ e, (qcopying.pgOf 1).qpend.head? = some e → e.1 ≠ 1) ∧
    Sparse.wf (fun _ => false) (Sparse.get (fun _ => ([] : Sparse Bool)) (qcopying.pgOf 1).qcopy 0) = true ∧ m0.fc.inject = [] ∧ m0.trial = false ∧
    (∀ s ∈ [m0, auditing 32768, auditing 98303, auditing 786431], (s.pgOf 1).scrubPos < 786432 ∧ s.fld (pwrField 1) < 2 ∧ s.fc.inject = []) ∧ m0.keepClosed 0 = false ∧
    (auditing 32768).keepClosed 1 = true ∧ (auditing 98303).keepClosed 2 = true ∧ (auditing 786431).keepClosed 23 = false ∧ 2 ≤ (deep m0).fld (pwrField 1) ∧
    (m0.src 29).force = false ∧ (copying.pgOf 1).copying = true ∧ copying.isCompared 1 = false ∧ copying.isCompared 0 = true := by
  refine ⟨by decide +kernel, by decide +kernel, by decide, by decide, ?_, by decide, by decide, by decide, by decide +kernel, by decide +kernel, by decide +kernel, by decide +kernel, by decide +kernel,
    by decide +kernel, by decide, by decide, by decide, by decide⟩
  intro e h
  rw [show (qcopying.pgOf 1).qpend.head? = some (0, 0) from by decide] at h
  cases h; decide
theorem hyp_marches : m0.compared ≠ [] ∧ (∀ b ∈ [0, 63], ((testing b).pgOf (testing b).bodySpire).march = some ⟨3, 0, true, b, true⟩) ∧ m0.sched.cur = 31 ∧ (∀ x ∈ m0.compared, m0.fld (pwrField x) < 2) ∧
    (m0.pgOf 1).sparesOf 3 < 8 ∧ (3, 511) ∉ (m0.pgOf 1).repair ∧ (m0.pgOf m0.bodySpire).march = none ∧ (∃ x ∈ (deep m0).compared, 2 ≤ (deep m0).fld (pwrField x)) ∧
    (let s := withReg (R.MT_AUTO.key 0 0) 1 m0
     s.flag F.MT_AUTO_PERIOD s.bodySpire = true ∧ s.stepFits = true ∧ (s.pgOf s.bodySpire).march = none ∧ (s.pgOf s.bodySpire).autoPos = 0 * 64 + 0) ∧
    ((pg (fun p => { p with autoPos := 23 * 64 + 63 }) m0).pgOf 0).autoPos = 1535 := by decide +kernel
theorem hyp_last_snapshot_copy : (let s := { pg (fun p => { p with snaps := [snap5] }) m0 with
      sp := ⟨{ sp0 with pg := { PagerSt.empty with copying := true, snaps := [snap5] } }, sp0, { sp0 with pg := PagerSt.empty }⟩
      bf := { m0.bf with spst := ⟨.compared, .copy, .compared⟩ } }
    (s.pgOf 0).copying = true ∧ s.isCompared 0 = true ∧ (∀ z, z < 3 → z ≠ 0 → s.isCompared z = true → (s.pgOf z).copying = false) ∧ s.compared.length = 2 ∧
    (s.pgOf s.bodySpire).snaps.length = 1 ∧ s.bf.spst.get 1 = .copy ∧ s.bf.copySeq.get 1 = none) := by decide +kernel
def maintained : State := rich (run0 .maintainer .maintenance)
theorem hyp_march_start : maintained.svcFind c1 = some (ses .maintainer) ∧ SpireVals.common (Three.all (some (2 ^ 31 + 2 ^ 12 + 23))) maintained.compared = some (2 ^ 31 + 2 ^ 12 + 23) ∧
    maintained.mode.cur = .maintenance ∧ maintained.pwr.warn = false ∧ (2 ^ 31 + 2 ^ 12 + 23) % 32 ≤ 23 ∧ bits (2 ^ 31 + 2 ^ 12 + 23) 8 2 ≤ 1 ∧ bitOf (2 ^ 31 + 2 ^ 12 + 23) 31 = true ∧
    24 ≤ (2 ^ 31 + 24) % 32 ∧ 2 ≤ bits (2 ^ 31 + 2 * 256) 8 2 ∧
    (maintained.pgOf 1).march = none ∧ ((testing 0).pgOf 1).march.isSome = true ∧ (two maintained).isCompared 1 = false := by decide +kernel
/-- A document of img1 that the header checks refuse. -/
def docImg : ImageDoc := ⟨0, 0, 0, 77, 3, 0, 0, 0, 0, 0, 0, 0, 0, 0, 0, 0, 0, 0, 0, 0, [], [], 0, 0, 0, 0, 0, img1, []⟩
theorem hyp_ImagesAreTakenByAgreeingSpires : (sv .maintainer .load).compared = [0, 1, 2] ∧ (sv .maintainer .load).mode.cur = .load ∧ (sv .maintainer .load).trial = false ∧
    ((sv .maintainer .load).checkImage docImg).isSome = true ∧ m0.compared = [0, 1, 2] ∧ m0.img.isSome = true ∧
    ({ m0.upd with olHeader := some ⟨78, 4, 77, 3, 2, 0⟩ } : UpdSt).olHeader = some ⟨78, 4, 77, 3, 2, 0⟩ ∧
    ({ m0 with upd := { m0.upd with olHeader := some ⟨78, 4, 77, 3, 2, 0⟩ } } : State).deltaComplete = true := by decide +kernel

/-! ### Statements about the belfry and the pair -/

def streams (a b c : List WRec) (s : State) : State := { s with bf := { s.bf with streams := ⟨a, b, c⟩ } }
def x0 : State := streams [0x55, 0x55] [0x55] [0x55] r0
theorem comparing_of (s : State) (h : s.comparing = true ∧ s.compared = [0, 1, 2] ∧ s.liveSlices = [0, 1, 2] ∧ s.fc.inject = [])
    (h2 : (List.range 128).all (fun k => k == 102 || (s.reactMask k / 4 % 2 == 0 && s.reactMask k / 8 % 2 == 0)) = true) : Comparing3 s := ⟨h.1, h.2.1, h.2.2.1, h.2.2.2, resets_of s h2⟩
theorem hyp_TriplesAreVotedOn : (∀ x, x < 3 → x0.headRec x = some 0x55) ∧ x0.mode.cur.runs = true ∧ x0.trial = false ∧ (x0.src 75).force = false ∧ x0.tbMs ≠ 0 ∧
    (∀ x, x < 3 → ∀ y, y < 3 → (streams (if x = 0 then [7] else [0x55]) (if x = 1 then [7] else [0x55]) (if x = 2 then [7] else [0x55]) r0).headRec y = some (if y = x then 7 else 0x55)) ∧
    (∀ x, x < 3 → ∀ y, y < 3 → (streams (if x = 0 then [] else [0x55]) (if x = 1 then [] else [0x55]) (if x = 2 then [] else [0x55]) r0).headRec y = if y = x then none else some 0x55) ∧
    (∀ y, y < 3 → (streams [5] [7] [8] r0).headRec y = some ([5, 7, 8].getD y 0)) ∧ misr [⟨1, 1, 2⟩] ≠ misr [⟨1, 1, 3⟩] ∧
    x0.bf.openL4 = false ∧ ({ x0.bf with openL4 := true } : BfSt).openL4 = true ∧ (1 ≤ 1 ∧ 7 ≤ 7) := by decide +kernel
/-- Two triples of one slice clock that name spires A and C. -/
theorem hyp_two_triples : (let s := streams [7, 5] [0x55, 5] [0x55, 8] r0
    (∀ z, z < 3 → s.headRec z = some (if z = 0 then 7 else 0x55)) ∧ (∀ z, z < 3 → s.recAt 1 z = some (if z = 2 then 8 else 5)) ∧ s.mode.cur.runs = true ∧ s.trial = false ∧ (s.src 75).force = false) := by
  decide +kernel
theorem hyp_comparing : Comparing3 x0 ∧ Comparing3 (streams [5] [7] [8] r0) ∧ Comparing3 (streams [7] [0x55] [0x55] r0) ∧ Comparing3 (streams [0x55] [0x55] [] r0) :=
  ⟨comparing_of _ (by decide +kernel) (by decide +kernel), comparing_of _ (by decide +kernel) (by decide +kernel), comparing_of _ (by decide +kernel) (by decide +kernel), comparing_of _ (by decide +kernel) (by decide +kernel)⟩

/-- Spire B in state x; its comparison-minority source in state `st`. -/
def spireB (x : SpireState) (st : SrcState) (f : BfSt → BfSt) (s : State) : State :=
  let s := withSrc 34 { SrcSt.idle with st := st, cond := st == .active } s
  { s with upd := { s.upd with listed := (some [1, 2, 3, 4, 5], some [1, 2, 3, 4, 5]) }, bf := f { s.bf with spst := ⟨.compared, x, .compared⟩ }, sp := s.sp.mapI (fun _ (p : Spire) => { p with pg := { p.pg with snaps := [snap5] } }) }
def a2 : State := rich (run0 .maintainer .active2oo2)
/-- A spire's measured start with the digests that spireB lists. -/
def startOk : SpireStart := ⟨true, true, [1, 2, 3, 4, 5, 6]⟩
def test (passed corr : Nat) (st : SpireStart) : SpireTest := ⟨1, [], passed, corr, 100, 50, st⟩
/-- Spire B under test, its tallies measured before. -/
def underTest (st : SrcState) : State := withReg (R.ATT_EXT.key 1 0) 0x01111111 (withReg (R.FC_REACT.key 34 0) 0x10050000 (spireB .selftest st id a2))
theorem hyp_SpiresComeBackThroughTheirTests : (∀ st ∈ [SrcState.latched, .active, .clear], (underTest st).bf.spst.get 1 = .selftest ∧ ((underTest st).src 34).st = st ∧ (underTest st).trial = false ∧
      (underTest st).bf.freed.get 1 = false ∧ TestPassed (underTest st) (test 4 64 startOk) ∧ ¬ TestPassed (underTest st) (test 3 0 startOk) ∧ ¬ TestPassed (underTest st) (test 4 65 startOk) ∧
      ¬ TestPassed (underTest st) (test 4 0 { startOk with digests := [1, 9, 3, 4, 5, 6] })) ∧
    ((underTest .active).src 34).cond = true ∧ ((underTest .active).src 34).force = false ∧ (underTest .active).quietCode 34 ≠ 0 ∧ ((underTest .clear).src 34).cond = false := by
  unfold TestPassed; decide +kernel
theorem hyp_copies : (let s := spireB .copy .active (fun b => { b with copySeq := ⟨none, some 5, none⟩ }) a2
     s.compared = [0, 2] ∧ s.bf.spst.get 1 = .copy ∧ s.bf.copySeq.get 1 = some 5 ∧ s.bf.retries.get 1 < 2 ∧ (∀ d ∈ [0, 2], (s.spire d).pg.snaps.find? (fun n => n.seq == 5) = some snap5) ∧
      s.donorRegsAgree 0 2 = true) ∧
    2 ≤ (spireB .copy .active (fun b => { b with retries := ⟨0, 2, 0⟩ }) a2).bf.retries.get 1 ∧
    (let s := spireB .join .active (fun b => { b with joinHold := true, joinSince := 0 }) a2
     s.compared = [0, 2] ∧ s.bf.spst.get 1 = .join ∧ s.bf.joinHold = true ∧ s.bf.entering.get 1 = false ∧ (s.time.clockNs - s.bf.joinSince) / 1000 ≤ 5000 ∧ s.bf.retries.get 1 < 2 ∧
      s.donorsAgree 0 2 = true) ∧
    (let s := spireB .join .active (fun b => { b with entering := ⟨false, true, false⟩ }) a2
     s.compared = [0, 2] ∧ s.bf.entering.get 1 = true ∧ s.bf.entering.get 0 = false ∧ s.bf.entering.get 2 = false) := by decide +kernel
theorem hyp_testing : Testing (underTest .active) 1 ∧ NoResets (spireB .copy .active id a2) ∧ NoResets (spireB .join .active id a2) ∧ NoResets maintained :=
  ⟨⟨by decide, by decide, resets_of _ (by decide +kernel), by decide⟩, resets_of _ (by decide +kernel), resets_of _ (by decide +kernel), resets_of _ (by decide +kernel)⟩
theorem hyp_belfry_commands : maintained.svcFind c1 = some (ses .maintainer) ∧ SpireVals.common (Three.all (some 6)) maintained.liveSlices = some 6 ∧ SpireVals.common (Three.all (some 10)) maintained.liveSlices = some 10 ∧
    (bits 6 2 2 = 1 ∧ bits 6 0 2 < 3) ∧ (bits 10 2 2 = 2 ∧ bits 10 0 2 < 3) ∧ maintained.mode.cur = .maintenance ∧ maintained.compared = [0, 1, 2] ∧ maintained.trial = false ∧
    maintained.pwr.warn = false ∧ maintained.bfCmdRo 6 = true ∧ maintained.bfCmdRo 10 = true := by decide +kernel

def paired (m : Mode) (f : PairSt → PairSt) : State := let s := withReg R.PAIR_CONF.addr (9 + 3 * 65536) (rich (run0 .maintainer m)); { s with pair := f s.pair }
def chunk (kind seq i n : Nat) (b : List Byte) : Chunk := let k : Chunk := ⟨kind, 9, seq, i, n, 0, b, Three.all 0⟩; { k with cv := k.cvOf polys 4 }
/-- A standby whose image has no tokens and no transactions, which keeps the digests small; an empty delta 6 that follows its snapshot 5. -/
def bare : State := let s := paired .standby (fun p => { p with snapSeq := 5 })
  { s with img := some { img1 with transactions := 0, tokens := [], routes := [], peers := [], tokensDecl := 0 }, sp := Three.all { sp0 with keep := KeepSt.empty } }
def digest6 : Nat := bare.kctx.digest (bare.appliedTo 0 false 6 (chunk 2 6 0 0 (trailerBody ⟨77, 3⟩ 5 (99 * 65536) 0 0)).trailer []).keep
def delta6 : List Chunk := [chunk 2 6 0 0 (trailerBody ⟨77, 3⟩ 5 (99 * 65536) digest6 0)]
def seal6 : List Chunk × Chunk := (wholeSeal delta6).getD ([], chunk 1 6 0 1 [])
def following : State := { bare with pair := { bare.pair with chunks := delta6 } }
def applied (x : Nat) : Snapshot := following.appliedTo x false 6 seal6.2.trailer []
theorem hyp_deltas : wholeSeal delta6 = some seal6 ∧ seal6.2.snapSeq = 6 ∧ seal6.2.trailer.base = 5 ∧ seal6.2.trailer.id = img1.id ∧ allEntries seal6.1 seal6.2.trailer = some [] ∧
    following.mode.cur = .standby ∧ following.pair.decided = none ∧ following.content.id = img1.id ∧ following.compared = [0, 1, 2] ∧ 2 ≤ following.liveSlices.length ∧ following.fc.inject = [] ∧
    following.kctx.audit (applied 0).keep false = none ∧ following.kctx.digest (applied 0).keep = seal6.2.trailer.digest ∧ following.bodySpire = 0 ∧ following.pair.snapSeq = 5 ∧
    6 ≤ ({ following.pair with snapSeq := 6 } : PairSt).snapSeq ∧ seal6.2.trailer.base ≠ ({ following.pair with snapSeq := 4 } : PairSt).snapSeq := by decide +kernel
theorem hyp_applied_alike (x : Nat) : applied x = applied 0 := by
  have h : following.snapshotOf x = following.snapshotOf 0 := by unfold State.snapshotOf; rw [spires following (fun y => y = following.spire 0) ⟨rfl, rfl, rfl⟩ x]
  unfold applied State.appliedTo; simp only [h]
/-- Chunks of the partner 9 at node 4. -/
theorem hyp_chunks : (∀ k ∈ [1, 2, 3, 4], GoodChunk (paired .shadow id) (chunk k 6 0 3 [])) ∧ (paired .shadow id).pair.copy = [] ∧ (paired .standby id).pair.chunks = [] ∧ wholeOf [chunk 3 6 0 3 []] = none ∧
    (paired .shadow id).fc.inject = [] ∧ (paired .shadow id).pair.decided = none ∧
    (let s := paired .shadow id; let k := { chunk 1 6 0 3 [] with cv := Three.all 5 }; triValid k.cv (k.cvOf s.content.ring.poly s.content.ring.addrA) < 2) ∧
    (∀ k ∈ [chunk 0 6 0 3 [], chunk 5 6 0 3 []], let s := paired .shadow id; 2 ≤ triValid k.cv (k.cvOf s.content.ring.poly s.content.ring.addrA) ∧ (k.kind = 0 ∨ 4 < k.kind)) ∧
    (let s := paired .shadow id; let k : Chunk := { chunk 1 6 0 3 [] with src := 8 }; let k := { k with cv := k.cvOf polys 4 }
     2 ≤ triValid k.cv (k.cvOf s.content.ring.poly s.content.ring.addrA) ∧ k.src ≠ s.fld F.PAIR_CONF_PARTNER) := by unfold GoodChunk; decide +kernel
theorem hyp_ThePairKeepsOneActiveMember : (∀ m ∈ [Mode.active, .standby, .shadow], (paired m (fun p => { p with missRounds := 2 })).content.pair.isSome = true ∧
      2 ≤ (paired m (fun p => { p with missRounds := 2 })).pair.missRounds ∧ Witnessed (paired m (fun p => { p with witNow := [], witPrev := [] })) false ∧
      Witnessed (paired m (fun p => { p with witNow := [7, 8], witPrev := [7, 8] })) true ∧ ¬ Witnessed (paired m (fun p => { p with witNow := [7, 8], witPrev := [] })) true ∧
      ¬ Witnessed (paired m (fun p => { p with witNow := [7, 8], witPrev := [] })) false ∧ (paired m id).trial = false) ∧
    (let s := paired .standby (fun p => { p with missRounds := 2, witNow := [7, 8], witPrev := [7, 8] })
     s.time.atValid = true ∧ s.mayTakeOver = true ∧ s.pair.chunks = [] ∧ s.pair.decided = none ∧ s.compared = [0, 1, 2] ∧
     ({ s with mode := { s.mode with benchWait := true } } : State).mayTakeOver = false) ∧
    (let s := paired .standby (fun p => { p with decided := some (1, 0) }); let s := { s with time := { s.time with angle := 0, clockNs := 1000000000000 } }
     s.pair.decided = some (1, 0) ∧ s.time.angle = 0 ∧ s.mayTakeOver = true ∧ 0 + s.content.tkPrep ≤ s.time.clockNs ∧ s.compared.length = 3) ∧
    (paired .active (fun p => { p with missRounds := 0, partner := ⟨6, false, false, false, 7, 0xFFFF, 5⟩ })).maySwitch = true ∧ (paired .active id).svcFind c1 = some (ses .maintainer) ∧
    (let s := paired .active (fun p => { p with switching := some (1, 5), snapSeq := 5 })
     let s := pg (fun p => { p with snaps := [{ snap5 with count := 98 }] }) s
     s.pair.switching = some (1, 5) ∧ s.pair.switchReady = false ∧ s.twoAfterSeal 5 = true) := by unfold Witnessed; decide +kernel
theorem hyp_takeover_keeps (x : Nat) : (let s := paired .standby (fun p => { p with missRounds := 2 })
    (s.spire x).keep = s.theKeep ∧ ∀ k, k < s.theKeep.tokens.length → (s.theKeep.token k).bad = false) := by
  refine ⟨?_, by decide +kernel⟩
  exact spires (paired .standby (fun p => { p with missRounds := 2 })) (fun y => y.keep = (paired .standby (fun p => { p with missRounds := 2 })).theKeep) ⟨rfl, rfl, rfl⟩ x

/-! ### Statements about the ring, the buses and the sessions -/

def ringNode (g : RingNode → RingNode) (f : RingSt → RingSt) (s : State) : State :=
  { s with img := some { img1 with ring := g img1.ring }, ring := f s.ring, ringB := f s.ringB }
def sync (r : RingSt) : RingSt := { r with
  st := .sync, admitted := true, sm := 4, tm := 4, nodes := [⟨9, some 100, 0, 7, [], 20, 5, false, ⟨77, 3⟩⟩, ⟨4, none, 0, 7, [], 20, 0, false, ⟨77, 3⟩⟩], portUp := [64, 64, 64, 64] }
def beta (r : RingNode) : RingNode := { r with cs := 2, beta := 1, addrB := 4 }
def other (r : RingNode) : RingNode := { r with addrA := 9, addrB := 9, tmA := 1, tmB := 1, cs := 2 }
def synced : State := ringNode id sync r0
def hdr (t src slot : Nat) : RingHdr := ⟨0, true, t, 0, src, slot, 0, 0, 100, 0⟩
def vital9 : VitalPart := { vp0 with cv := synced.vitalCv 0 vp0.bytes }
def refFrame : RefFrame := ⟨hdr 2 9 1, ⟨1, true, false, false, false, 2, 0, 0, 0, 20000000, 900, 0, 9⟩, vital9, some 700, none⟩
theorem hyp_own_node : OwnNode synced false ∧ OwnNode (ringNode beta sync r0) true := by unfold OwnNode; decide +kernel
theorem hyp_TheRingFollowsItsReference : synced.tbMs ≠ 0 ∧ synced.mode.cur ≠ .integrate ∧ synced.ring.st ≠ .listen ∧ synced.ring.st ≠ .coldstart ∧ synced.slotOwner false 1 = some 9 ∧ 9 ≠ synced.own false ∧
    (∀ x ∈ [none, some SlotSeen.accepted, some .invalid, some .cut], ∃ l, ({ synced.ring with slotSeen := l } : RingSt).seen 1 = x) ∧
    synced.ownsSlot false 0 = true ∧ synced.ring.txClosed = false ∧ synced.ring.mute = false ∧ synced.ring.st = .sync ∧ synced.ring.admitted = true ∧ synced.ownsSlot false 2 = true ∧
    (synced.tmRank false == some 2 && synced.eligible false) = false ∧
    (let s := ringNode id (fun r => { sync r with admitted := false, tm := 9 }) r0; s.ring.admitted = false ∧ s.isMaster false = false) ∧
    (let s := ringNode id (fun r => { r with st := .integrate, announcing := true }) r0; s.ring.st = .integrate ∧ s.ring.announcing = true) ∧
    (ringNode id (fun r => { sync r with mute := true }) r0).ring.mute = true ∧ r0.ring.st = .listen ∧ r0.img.isSome = true ∧ r0.ownsSlot false 0 = true := by
  refine ⟨by decide, by decide, by decide, by decide, by decide +kernel, by decide, ?_, by decide +kernel, by decide, by decide, by decide, by decide, by decide +kernel, by decide +kernel, by decide +kernel,
    by decide, by decide, by decide, by decide, by decide +kernel⟩
  intro x hx
  simp only [List.mem_cons, List.not_mem_nil, or_false] at hx
  rcases hx with rfl | rfl | rfl | rfl
  · exact ⟨[], rfl⟩
  · exact ⟨[(1, .accepted)], rfl⟩
  · exact ⟨[(1, .invalid)], rfl⟩
  · exact ⟨[(1, .cut)], rfl⟩
theorem hyp_reference_frames : refFrame.hdr.ok 2 = true ∧ refFrame.hdr.beta = false ∧ synced.content.scheds[0]? = some sched8 ∧ synced.ownsSlot false 1 = false ∧ refFrame.hdr.src ≠ synced.own false ∧
    r0.ring.best = none ∧ synced.ring.best = none ∧ synced.fc.inject = [] ∧ synced.trial = false ∧ r0.ring.st = .listen ∧ (refFrame.tP.isSome = true ∨ refFrame.tS.isSome = true) ∧
    (({ r0 with time := { r0.time with atValid := false } } : State).time.atValid = false) := by decide +kernel
/-- A node whose dynamic position 1 comes after one idle mini-slot of position 0 and has frames to send. -/
def dynNode : State := let s := ringNode id (fun r => { sync r with msc := 1 }) r0
  { s with img := some { img1 with scheds := [{ sched8 with positions := [(4, 0)] }] } }
theorem hyp_dynamic_position : (let s := dynNode
    s.ringSched false = some { sched8 with positions := [(4, 0)] } ∧ ([(4, 0)] : List (Nat × Nat))[1 - 1]? = some (s.own false, 0) ∧ s.quotesFor false = [] ∧ 4128 ≤ 4128 ∧ 40 + 44 ≤ 200 ∧ 10 < 40 + 44 ∧
    (∀ l ∈ [[], [MiniEv.frame 0 9 0 true]], let r := (State.each { s with out := [] } l (fun s e => s.seeMini false e)).node false
      r.st = .sync ∧ r.admitted = true ∧ r.mute = false ∧ r.txClosed = false ∧ r.msc = 1 ∧ r.sfdNow = false ∧ r.sfdLast = l.any (fun _ => true))) := by decide +kernel
theorem hyp_static_frames : synced.vitalCv 0 vp0.bytes = vital9.cv ∧ vital9.bytes = vp0.bytes ∧ (hdr 1 9 1).ok 1 = true ∧ ({ hdr 1 9 1 with fcsOk := false } : RingHdr).ok 1 = false ∧
    VitalPasses synced (hdr 1 9 1) vital9 ∧ (synced.counts false).seen 1 = none ∧ synced.isAdmitted false 9 = true ∧
    (ringNode id (fun r => { sync r with nodes := [] }) r0).isAdmitted false 9 = false ∧
    (∀ m ∈ [Mode.integrate, .shadow], (run0 .engineer m).mode.cur.track = false ∧ (run0 .engineer m).mode.cur ≠ .standby) ∧ vital9.pair.handover = false := by unfold VitalPasses; decide +kernel
theorem hyp_corrections_and_masters : synced.isMaster false = true ∧ synced.ring.sw = .idle ∧ synced.svcFind c1 = some (ses .engineer) ∧
    ((synced.content.scheds[1]?).isSome = true ∨ (synced.content.scheds[1]?).isNone = true) ∧ (ringNode id (fun r => { sync r with tm := 9 }) r0).isMaster false = false ∧
    (let s := ringNode id (fun r => { sync r with tm := 9, tmMissing := 2, refsPrev := [4] }) r0
     2 ≤ s.ring.tmMissing ∧ s.ring.tm ≠ s.own false ∧
       s.lowestRank false ((s.ring.heardRefs ++ s.ring.refsPrev).filter (fun x => x != s.ring.tm) ++ (if s.eligible false then [s.own false] else [])) = some 4) ∧
    (let s := { ringNode id (fun r => { sync r with tm := 9 }) r0 with time := { r0.time with angle := 0 } }
     s.time.angle = 0 ∧ s.lowestRank false ((s.ring.nodes.filter (fun (n : NodeSt) => Nat.ble 16 n.refCycles)).map NodeSt.addr) = some 4 ∧ s.rankOf false 4 = some 0 ∧ s.rankOf false s.ring.tm = some 1) ∧
    (let s := { synced with img := some { img1 with scheds := [sched8, sched8] } }
     s.isMaster false = true ∧ (s.content.scheds[1]?).isSome = true ∧ 1 ≠ s.ring.sched) ∧
    ((ringNode id (fun r => { sync r with sw := .voting, swRounds := 5 }) r0).ring.sw = .voting) ∧ 5 ≤ (ringNode id (fun r => { sync r with swRounds := 5 }) r0).ring.swRounds ∧ (r0.reactMask 88 / 4 % 2 = 0 ∧ r0.reactMask 88 / 8 % 2 = 0) := by decide +kernel

def starting (f : RingSt → RingSt) : State := ringNode (fun r => { r with cs := 1 }) f r0
def integ9 : IntegFrame := let f : IntegFrame := ⟨hdr 5 9 1, 1, 3, 77, 90, 4, Three.all 0⟩; { f with cv := synced.vitalCv 0 f.bytes }
def admOf (msg subject : Nat) : AdmMsg := let m : AdmMsg := ⟨[], false, 4, msg, 4, subject, 3, 77, 100 * 65536, Three.all 0⟩; { m with cv := triSig polys m.subject (m.stamp / 65536 % 2 ^ 32) m.bytes }
theorem hyp_cold_starts : (starting id).mayStart false = true ∧ (starting id).ring.st = .listen ∧ (starting id).ring.csBlock = 0 ∧ (ringNode beta id r0).mayStart true = true ∧
    (hdr 4 3 0).ok 4 = true ∧ (hdr 4 9 1).ok 4 = true ∧ (hdr 4 3 0).src < (starting id).own false ∧ (starting (fun r => { r with st := .coldstart, csAttempt := 1 })).ring.st = .coldstart ∧
    1 ≤ (starting (fun r => { r with st := .coldstart, csAttempt := 16, csClean := 1 })).ring.csClean ∧ 16 ≤ (starting (fun r => { r with st := .coldstart, csAttempt := 16, csClean := 1 })).ring.csAttempt := by decide +kernel
theorem hyp_joins : (let r := (starting (fun r => { r with st := .integrate, passive := 8, delays := [(1, 2, 3)] })).ring
      r.st = .integrate ∧ r.announcing = false ∧ 8 ≤ r.passive ∧ r.avgDelays.isSome = true ∧ r.pauseNs = none) ∧ (starting (fun r => { r with st := .integrate, pauseNs := some 4 })).ring.pauseNs.isSome = true ∧
    (hdr 5 9 1).ok 5 = true ∧ synced.slotOwner false 1 = some 9 ∧ integ9.cv = synced.vitalCv integ9.hdr.round integ9.bytes ∧ synced.isSm false = true ∧ (∀ q ∈ synced.ring.quotes, q.addr ≠ 9) ∧
    (ringNode id (fun r => { sync r with sm := 9 }) r0).isSm false = false := by decide +kernel
theorem hyp_admissions : (∀ e ∈ [(1, 4), (1, 9), (2, 4), (2, 9)], (admOf e.1 e.2).cv = triSig img1.ring.poly (admOf e.1 e.2).subject ((admOf e.1 e.2).stamp / 65536 % 2 ^ 32) (admOf e.1 e.2).bytes ∧
      (admOf e.1 e.2).src = synced.ring.sm ∧ (admOf e.1 e.2).stamp / 65536 ≤ synced.time.count + 2 ∧ synced.time.count ≤ (admOf e.1 e.2).stamp / 65536 + 2) ∧
    (let s := ringNode id (fun r => { sync r with st := .integrate, announcing := true }) r0; 4 = s.own false ∧ s.ring.st = .integrate ∧ s.ring.announcing = true ∧ s.ring.sm = 4) ∧
    synced.betaIndep = false ∧ (∃ n ∈ synced.ring.nodes, n.admitted.isSome = true ∧ ({ synced.ring with heard := [9] } : RingSt).inSync n.addr = true) ∧
    (ringNode id (fun r => { sync r with quotes := [⟨9, 5, 3, none⟩] }) r0).ring.quotes.any (fun (q : AdmQuote) => q.addr == 9) = true := by decide +kernel
theorem hyp_guardians : synced.windowed false = true ∧ (ringNode id (fun r => { r with st := .listen }) r0).windowed false = false ∧ (ringNode id (fun r => { sync r with st := .listen }) r0).isSm false = false ∧
    synced.isSm false = true := by decide +kernel
theorem hyp_ring_resets : NoResets synced ∧ NoResets (ringNode id (fun r => { sync r with quotes := [⟨9, 5, 3, none⟩] }) r0) := ⟨resets_of _ (by decide +kernel), resets_of _ (by decide +kernel)⟩
theorem hyp_losses : 4 ≤ (ringNode id (fun r => { sync r with unsync := 4 }) r0).ring.unsync ∧ synced.ring.lost.length = 4 ∧
    (withReg R.RG_PORT.addr 0 synced).portGone 0 = true ∧ synced.ring.lost.getD 0 false = false ∧ synced.ring.lost.getD (otherPort 0) false = false ∧
    (let s := { ringNode id (fun r => { sync r with lost := [true, false, false, false] }) r0 with time := { r0.time with angle := 0 } }
     s.ring.lost.getD 0 false = true ∧ 64 ≤ s.ring.portUp.getD 0 0 ∧ s.time.angle = 0) ∧
    (withReg R.HW_ID.addr 0xFFFFFFFF r0).flag F.HW_ID_BENCH = true ∧ r0.mode.cur.track = true ∧ r0.trial = false := by decide +kernel

def plainFrame (id : Nat) : CanRx := ⟨0, id, false, false, false, [1, 2, 3, 4], 55, false⟩
def ctl0 : CtlDef := ⟨3, 0x103, 0x203, 24, 50, 2048⟩
def status (seq : Nat) : CanRx :=
  let f : CanRx := ⟨0, 0x203, false, true, true, beBytes 1 2 ++ beBytes 1 131 ++ beBytes 4 seq ++ beBytes 2 0 ++ beBytes 4 0xAABB ++ List.replicate 12 0, 55, false⟩
  let w := statusWant r0 can0 ctl0 f
  { f with data := f.data.take 12 ++ beBytes 4 w.a ++ beBytes 4 w.b ++ beBytes 4 w.c }
def seen5 : State := { r0 with ctls := [(3, { CtlSt.idle with lastSeq := some 5 })] }
theorem hyp_frames_in : r0.canUp 0 = true ∧ r0.chDef 0 = some can0 ∧ r0.fc.inject = [] ∧ can0.ctls.find? (fun d => d.statId == 0x103) = none ∧ r0.ownId can0 0x103 = true ∧
    r0.ownId can0 0x300 = false ∧ can0.rx.zipIdx.find? (fun e => e.1.1 == 0x300) = some ((0x300, 8, 2080), 0) ∧ can0.rx.zipIdx.find? (fun e => e.1.1 == 7) = none ∧ r0.ownId can0 7 = false ∧
    can0.ctls.find? (fun d => d.statId == 0x203) = some ctl0 ∧ r0.canUp 40 = false ∧ (withReg (R.CAN_STATUS.key 0 0) 2 r0).canUp 0 = false := by decide +kernel
theorem hyp_status_frames : StatusFormed can0 ctl0 (status 7) ∧ 2 ≤ triValid (statusCv (status 7)) (statusWant r0 can0 ctl0 (status 7)) ∧ r0.seqOk (seen5.ctlAt 0 3) ctl0 (statusSeq (status 7)) (statusEcho (status 7)) = true ∧
    2 ≤ triValid (statusCv (status 2)) (statusWant r0 can0 ctl0 (status 2)) ∧ seen5.seqOk (seen5.ctlAt 0 3) ctl0 (statusSeq (status 2)) (statusEcho (status 2)) = false ∧
    triValid (statusCv { status 7 with data := (status 7).data.take 12 ++ List.replicate 12 0 }) (statusWant r0 can0 ctl0 { status 7 with data := (status 7).data.take 12 ++ List.replicate 12 0 }) < 2 := by
  unfold StatusFormed; decide +kernel
def entry0 : CanEntry := ⟨0x103, 0, [1, 2], 0, none⟩
def sending (h : CanEntry) : State := { r0 with can := [(0, { CanCh.idle with queue := [h, ⟨5, 2, [9], 0, none⟩] })] }
theorem hyp_BusesTakeAndSendFrames : (sending entry0).canUp 0 = true ∧ ((sending entry0).chan 0).queue = [entry0, ⟨5, 2, [9], 0, none⟩] ∧ (r0.chan 0).queue = [] ∧ entry0.again = none ∧
    (sending entry0).fld F.CAN_ERR_TEC 0 + 8 < 256 ∧ 256 ≤ (withReg (R.CAN_ERR.key 0 0) 248 r0).fld F.CAN_ERR_TEC 0 + 8 ∧ entry0.clash < 2 ∧ 2 ≤ ({ entry0 with clash := 2 } : CanEntry).clash ∧
    (withReg (R.CAN_STATUS.key 0 0) 2 r0).fld F.CAN_STATUS_BUS 0 = 2 ∧ (∀ i, i < 8 → 8 * (0 / 8) + i ≠ 0 → (withReg (R.CAN_STATUS.key 0 0) 2 r0).fld F.CAN_STATUS_BUS (8 * (0 / 8) + i) ≠ 2) ∧
    (withReg (R.CAN_STATUS.key 0 0) 0xFFFFFFFF r0).asleep 0 = true ∧ (can1.wakes (.dominant 5)).isSome = true ∧ (can0.wakes (.frame 0x55 0x100)).isSome = true ∧ can1.wakes (.dominant 4) = none ∧ can1.wakes (.frame 0x55 3) = none := by decide +kernel

def connecting (st : SessState) : State := { r0 with sess := [(1, { SessSt.none' with st := st, txSeq := 5, rxSeq := 5 }), (2, { SessSt.none' with st := st, rxSeq := 5 })] }
/-- A frame of session d with its check values and MAC as the nonces ask for. -/
def frame (d : SessDef) (type seq conn nI nR : Nat) : SFrame :=
  let f : SFrame := ⟨1, type, 0, d.peerId, d.ownId, seq, 0, 100 * 65536, 100 * 65536, conn, 0, if type = 3 then [1, 2, 3, 4] else [], Three.all 0, 0⟩
  let f := { f with cv := f.cvOf d.poly }
  { f with mac := f.macOf (r0.sessKey d) nI nR }
theorem hyp_sessions_are_heard : (∀ d ∈ [sess1, sess2], d.n < 64 ∧ (∀ p ∈ d.ports, p < 16)) ∧ (connecting .idle).sessDef 1 = some sess1 ∧ (connecting .idle).sessDef 2 = some sess2 ∧ r0.mode.cur.sessions = true ∧
    r0.decides = true ∧ r0.fc.inject = [] ∧ (sess1.role = 0 ∧ sess2.role = 1 ∧ sess1.delivery = 0 ∧ sess2.delivery ≠ 0) ∧
    (∀ st ∈ [SessState.idle, .opened, .connecting, .holdoff], ((connecting st).sessAt 1).st = st ∧ ((connecting st).sessAt 2).st = st) := by decide +kernel
theorem hyp_frames_pass (nI nR : Nat) : (∀ seq ∈ [0, 1], FramePasses r0 sess1 (frame sess1 2 seq 3 nI nR) nI nR ∧ FramePasses r0 sess2 (frame sess2 1 seq 3 nI nR) nI nR) ∧
    r0.headerOk sess1 { frame sess1 2 1 3 0 3 with ver := 2 } = false ∧ triValid (Three.all 5) ((frame sess1 2 1 3 0 3).cvOf sess1.poly) < 2 := by
  have h1 : ∀ seq ∈ [0, 1], r0.headerOk sess1 (frame sess1 2 seq 3 0 0) = true ∧ 2 ≤ triValid (frame sess1 2 seq 3 0 0).cv ((frame sess1 2 seq 3 0 0).cvOf sess1.poly) := by decide +kernel
  have h2 : ∀ seq ∈ [0, 1], r0.headerOk sess2 (frame sess2 1 seq 3 0 0) = true ∧ 2 ≤ triValid (frame sess2 1 seq 3 0 0).cv ((frame sess2 1 seq 3 0 0).cvOf sess2.poly) := by decide +kernel
  exact ⟨fun seq h => ⟨⟨(h1 seq h).1, (h1 seq h).2, rfl⟩, ⟨(h2 seq h).1, (h2 seq h).2, rfl⟩⟩, by decide +kernel, by decide +kernel⟩
theorem hyp_wrong_mac : ({ frame sess1 2 1 3 0 3 with mac := (frame sess1 2 1 3 0 3).mac + 1 } : SFrame).mac ≠ (frame sess1 2 1 3 0 3).macOf (r0.sessKey sess1) 0 3 := by
  show (frame sess1 2 1 3 0 3).mac + 1 ≠ (frame sess1 2 1 3 0 3).mac; omega
theorem hyp_closes : (connecting .opened).checkFrame sess1 ((connecting .opened).sessAt 1) (frame sess1 4 6 3 0 0) = .accept ∧
    (connecting .opened).checkFrame sess1 ((connecting .opened).sessAt 1) (frame sess1 4 5 3 0 0) = .duplicate ∧
    (∃ c, (connecting .opened).checkFrame sess1 ((connecting .opened).sessAt 1) { frame sess1 4 6 3 0 0 with ver := 2 } = .reject c) := by
  have h : ∀ seq ∈ [5, 6], ((connecting .opened).headerOk sess1 (frame sess1 4 seq 3 0 0) = true ∧ ¬ (connecting .opened).triN (frame sess1 4 seq 3 0 0).cv ((frame sess1 4 seq 3 0 0).cvOf sess1.poly) < 2 ∧
      (connecting .opened).fc.inject = [] ∧ ((connecting .opened).sessAt 1).st = .opened ∧ ((connecting .opened).sessAt 1).nI = 0 ∧ ((connecting .opened).sessAt 1).nR = 0) := by decide +kernel
  have c : ∀ seq ∈ [5, 6], (connecting .opened).check123 sess1 (frame sess1 4 seq 3 0 0) 0 0 = none := by
    intro seq hs
    obtain ⟨h1, h2, h3, -⟩ := h seq hs
    have hm : (frame sess1 4 seq 3 0 0).mac = (frame sess1 4 seq 3 0 0).macOf ((connecting .opened).sessKey sess1) 0 0 := rfl
    unfold State.check123; rw [h1, h3, hm]; simp [h2]
  obtain ⟨-, -, -, h4, h5, h6⟩ := h 6 (by decide)
  refine ⟨?_, ?_, F.SSN_REJ_OTHER, by decide +kernel⟩ <;> unfold State.checkFrame <;> rw [h5, h6, c _ (by decide), if_neg (by rw [h4]; decide)] <;> decide +kernel
theorem hyp_queues : r0.content.queues.find? (fun q => !q.ring && q.src == 2) = some ⟨1, 2, false, 2, 16, 2, 8, 512⟩ ∧ r0.content.queues.find? (fun q => q.ring && q.src == 9 && q.q == 2) = some ⟨2, 9, true, 3, 16, 2, 0, 544⟩ ∧
    4 = r0.content.ring.addrA ∧ r0.mode.cur.track = true ∧ (1 ≤ 1 ∧ 16 ≤ 16 ∧ 16 < 17) ∧ (r0.queueAt 1).free = 0 ∧ 1 ≤ ({ QueueSt.none' with free := 1 } : QueueSt).free ∧ (QueueSt.none').fullRec = false ∧
    r0.svcFind c1 = some (ses .engineer) ∧ (7 < 8 ∧ 3 % 2 = 1 ∧ 2 % 2 = 0 ∧ 8 ≤ 8) ∧ (withReg (R.ETH_STATUS.key 0 0) 0xFFFFFFFF r0).flag F.ETH_STATUS_SESSION 0 = true ∧ r0.flag F.ETH_STATUS_SESSION 0 = false ∧
    r0.flag F.ETH_STATUS_PTP 0 = false := by decide +kernel
theorem hyp_again : (let h : CanEntry := { entry0 with again := some [7] }; let s := sending h
      s.canUp 0 = true ∧ (s.chan 0).queue = h :: [⟨5, 2, [9], 0, none⟩] ∧ h.again = some [7] ∧ (s.chan 0).blocked.contains h.id = false ∧ [(⟨5, 2, [9], 0, none⟩ : CanEntry)].length < 32) ∧
    NoResets (sending entry0) ∧ NoResets (withReg (R.CAN_ERR.key 0 0) 248 (sending entry0)) ∧ r0.asleep 0 = false ∧ can0.wakes (.dominant 5) = none :=
  ⟨by decide +kernel, resets_of _ (by decide +kernel), resets_of _ (by decide +kernel), by decide +kernel, by decide +kernel⟩
theorem hyp_unheard : r0.sessDef 7 = none ∧ (rich (run0 .engineer .standby)).mode.cur.sessions = false ∧ ({ r0 with bf := { r0.bf with spst := ⟨.compared, .selftest, .selftest⟩ } } : State).decides = false ∧
    r0.content.queues.find? (fun q => q.ring && q.src == 9 && q.q == 7) = none ∧ r0.content.queues.find? (fun q => !q.ring && q.src == 1) = none ∧
    (rich (run0 .engineer .standby)).mode.cur.track = false ∧ (∃ p, p < 16 ∧ r0.sessionPort p = true) ∧ (∃ p, p < 16 ∧ r0.sessionPort p = false ∧ r0.ptpCarried p = false) := by decide +kernel

/-! ### Statements about safe inputs and outputs and the recorder -/

def outs (f : OutSt → OutSt) (s : State) : State := { s with io := { s.io with outs := (List.range 16).map fun _ => f OutSt.idle } }
def ioS (f : IoSt → IoSt) (s : State) : State := { s with io := f s.io }
def rd (o p n : Nat) : Readback := ⟨o, p, n⟩
def pulsing (h : Bool) (w : Nat) (amb : Bool) (s : State) : State :=
  ioS (fun i => { i with word := w, present := some 5, outs := i.outs.set 0 { OutSt.idle with pulse := some h, ambHigh := amb, ambLow := amb } }) s
def fsOk (s : State) : State := withReg R.IO_FS.addr 24000 s
def shown (s : State) : State := ioS (fun i => { i with word := 0xFFFF, present := some 5 }) s
theorem io_resets : NoResets r0 ∧ NoResets (fsOk r0) ∧ NoResets (shown r0) ∧ NoResets (fsOk (pulsing true 0xFFFF true r0)) ∧ NoResets (pulsing false 0 true r0) :=
  ⟨resets_of _ (by decide +kernel), resets_of _ (by decide +kernel), resets_of _ (by decide +kernel), resets_of _ (by decide +kernel), resets_of _ (by decide +kernel)⟩
theorem hyp_SafeInputsAndOutputsFollowTheirChecks : (rd 1 24000 100).out < 16 ∧ r0.io.outs.length = 16 ∧ (r0.outAt 1).pulse = none ∧
    (shown r0).outCommand 0xFFFF 1 = true ∧ (12000 ≤ 12000 ∧ 3000 ≤ 3000) ∧ (11999 < 12000 ∨ 3000 < 11000) ∧ r0.outCommand r0.io.word 1 = false ∧
    16 ≤ (rd 16 1 1).out ∧ ((pulsing true 0 false r0).outAt 0).pulse.isSome = true := by decide +kernel
theorem hyp_rest_classes : (restResult 12000 5000, restResult 999 1000, restResult 999 4000, restResult 1001 3999, restResult 1000 1000) = (1, 2, 3, 0, 4) ∧
    ((outs (fun o => { o with rest := (1, 1) }) r0).outAt 1).rest.2 + 1 < 3 ∧ 3 ≤ ((outs (fun o => { o with rest := (3, 2) }) r0).outAt 1).rest.2 + 1 ∧
    ((outs (fun o => { o with rest := (4, 2) }) r0).outAt 1).rest.2 + 1 = 3 ∧ (fsOk r0).fsCounts = true ∧ LatchFree (fsOk r0) 1 := by unfold LatchFree; decide +kernel
theorem hyp_pulses : 31 < 32 ∧ r0.outLatched (31 / 2) = false ∧ (∀ o ∈ r0.io.outs, o.pulse = none) ∧ 32 ≤ 32 ∧ (withReg R.IO_OLAT.addr 0x3 r0).outLatched (2 / 2) = true ∧
    (∃ o ∈ (pulsing true 0 false r0).io.outs, o.pulse.isSome = true) ∧
    (∀ h, (pulsing h 0xFFFF false r0).outCommand 0xFFFF 0 = true ∧ (pulsing h 0 false r0).outCommand 0 0 = false ∧ ((pulsing h 0 true r0).outAt 0).pulse = some h) ∧
    (pulseVerdict true true (rd 0 3000 0), pulseVerdict true true (rd 0 3001 0), pulseVerdict true true (rd 0 12000 0)) = (.pass, .between, .fault) ∧
    (pulseVerdict true false (rd 0 0 12000), pulseVerdict true false (rd 0 0 11999), pulseVerdict true false (rd 0 0 3000)) = (.pass, .between, .fault) ∧
    (pulseVerdict false true (rd 0 12000 0), pulseVerdict false true (rd 0 11999 0), pulseVerdict false true (rd 0 3000 0)) = (.pass, .between, .fault) ∧
    (pulseVerdict false false (rd 0 0 3000), pulseVerdict false false (rd 0 0 3001), pulseVerdict false false (rd 0 0 12000)) = (.pass, .between, .fault) ∧
    ((pulsing true 0 false r0).outAt 0).ambHigh = false ∧ ((pulsing false 0 true r0).outAt 0).ambLow = true := by decide +kernel
theorem hyp_pulse_latches : (fsOk (pulsing true 0xFFFF true r0)).fsCounts = true ∧ LatchFree (fsOk (pulsing true 0xFFFF true r0)) 0 ∧
    (let s := fsOk (pulsing true 0 false r0)
     (rd 1 12000 0).out ≠ 0 ∧ LatchFree s 1 ∧ s.outCommand s.io.word 1 = false ∧ s.fsCounts = true ∧ LatchFree s 0 ∧ pulseVerdict false true (rd 0 12000 0) = .pass) ∧
    (let s := fsOk (pulsing false 0 false r0)
     LatchFree s 1 ∧ s.outCommand s.io.word 1 = false ∧ s.fsCounts = true ∧ LatchFree s 0 ∧ pulseVerdict false false (rd 0 0 3000) = .pass ∧ (rd 1 12000 1000).nMv ≤ 1000) := by unfold LatchFree; decide +kernel
theorem hyp_overloads : LatchFree r0 15 ∧ (650 < 651 ∧ 10000 ≤ 10000) ∧ (true = true ∧ 1000 ≤ 1000) ∧ 3 < 4 ∧ 2200 < 2201 ∧ (∀ i, i < 4 → LatchFree r0 (4 * 3 + i)) ∧
    36000 < 36001 ∧ 36000 ≤ 36000 ∧ r0.fld F.IO_OLAT_FS = 0 ∧
    (let s := ioS (fun i => { i with below168 := 6, below2 := 6 }) r0; FsState.fault ≠ s.io.fs ∧ FsState.missing ≠ s.io.fs ∧ 6 + 1 = 7) := by unfold LatchFree; decide +kernel
theorem hyp_silence_and_hold : (shown r0).ioMap = img1.io ∧ img1.io.isSome = true ∧ (shown r0).io.present = some 5 ∧ (shown r0).io.silence = false ∧ r0.vitalOut 0 = true ∧
    (rich (run0 .maintainer .safeHalt)).mode.cur.track = false ∧ (rich (run0 .maintainer .safeHalt)).mode.cur ≠ .boot ∧ r0.mode.cur.track = true ∧ State.reset.mode.cur = .boot := by decide +kernel
def edged (e : EdgeState) (s : State) : State := ioS (fun i => { i with edge := e }) s
theorem hyp_edge_reset : State.reset.io.edge = .idle ∧ (edged .armed r0).io.edge = .armed ∧ (edged .high r0).io.edge = .high ∧ (edged .stuck r0).io.edge = .stuck ∧
    (∀ e ∈ [(99999999, 1), (100000000, 2), (2000000000, 2), (2000000001, 3)], (let s := { edged .high r0 with time := { r0.time with clockNs := e.1 } }
      (if s.time.clockNs - s.io.riseNs < 100000000 then 1 else if s.time.clockNs - s.io.riseNs ≤ 2000000000 then 2 else 3) = e.2)) := by decide +kernel
theorem hyp_IO_RESTART : (let s := edged .armed (withReg R.IO_OLAT.addr 0x3 (rich (run0 .maintainer .isolated)))
      s.svcFind c1 = some (ses .maintainer) ∧ s.pwr.warn = false ∧ s.io.edge = .armed ∧ s.trial = false ∧ s.io.outs.length = 16 ∧ bitOf (s.rd R.IO_OLAT) 1 = true ∧ s.latchGone 1 = true ∧
        s.mode.cur = .isolated ∧ (∀ k, k < 128 → s.latchedSev4 k = true → (s.src k).cond = false) ∧ NoResets s) ∧
    (let s := withReg R.IO_OST.addr 1 (outs (fun o => { o with rest := (1, 5) }) (edged .armed (withReg R.IO_OLAT.addr 0x1 r0))); bitOf (s.rd R.IO_OLAT) 0 = true ∧ s.latchGone 0 = false) ∧
    (withSrc 112 { SrcSt.idle with st := .latched } r0).src 112 = { SrcSt.idle with st := .latched } ∧ r0.mode.cur ≠ .isolated ∧ (ses .engineer).role ≠ .maintainer ∧
    (let s := rich (run0 .maintainer .maintenance); s.mode.cur = .maintenance ∧ s.ovrOk 0x22 = true ∧ s.ovrOk 0x20 = false ∧ s.ovrOk 0 = true) :=
  ⟨⟨by decide +kernel, by decide +kernel, by decide +kernel, by decide +kernel, by decide +kernel, by decide +kernel, by decide +kernel, by decide +kernel, by decide +kernel, resets_of _ (by decide +kernel)⟩,
    by decide +kernel, by decide +kernel, by decide +kernel, by decide +kernel, by decide +kernel⟩

def rc (c n : Nat) : Rec := ⟨.num n, 1, false, false, false, false, false, c, 0, 5, 6, 7, 8⟩
def rcd (f : RecSt → RecSt) (s : State) : State := { s with rcd := f s.rcd }
def stored (n : Nat) (r : Rec) : State := rcd (fun x => { x with intake := [rc 1 3], store := [(n, r)], next := n + 1 }) r0
theorem hyp_TheRecorderStoresForwardsAndClears : r0.nextRec = none ∧ (rcd (fun r => { r with intake := [rc 1 3] }) r0).nextRec = some (rc 1 3) ∧ NoDrops r0 ∧ r0.rcd.store = [] ∧
    ((stored 4096 (rc 1 3)).nextRec = some (rc 1 3) ∧ 4096 ≤ 4096 ∧ (rc 1 3).rep < 65535 ∧ (rc 1 3).repeats (rc 1 3) = true) ∧ 4095 < 4096 ∧
    ({ rc 1 3 with rep := 65535 } : Rec).rep = 65535 ∧ (rc 1 3).repeats (rc 0 2) = false ∧
    r0.rcd.alarm = [] ∧ (rcd (fun r => { r with alarm := [rc 0 2, rc 1 3] }) r0).rcd.alarm = rc 0 2 :: [rc 1 3] ∧ (rcd (fun r => { r with stopped := true }) r0).rcd.stopped = true ∧
    (r0.rcd.stopped = false ∧ 12999 < 13000 ∧ (∀ r ∈ [rc 1 3], r.cls < 4)) := by unfold NoDrops; decide +kernel
theorem hyp_recorder_source : NoResetReaction r0 103 := io_resets.1 103 (by decide) (by decide)
theorem hyp_recorder_commands : (rich (run0 .auditor .active)).svcFind c1 = some (ses .auditor) ∧ (ses .auditor).role = .auditor ∧ r0.pwr.warn = false ∧
    r0.svc.confirms.any (fun p => p.code == cmdRecClear && p.opnds == [] && decide (r0.time.clockNs ≤ p.untilNs)) = false ∧
    (let s := confirmed cmdRecClear [] r0; s.svc.confirms.any (fun p => p.code == cmdRecClear && p.opnds == [] && decide (s.time.clockNs ≤ p.untilNs)) = true) ∧ (ses .engineer).role ≠ .auditor ∧
    (stored 5 (rc 1 3)).rcd.store.find? (fun e => e.1 == 5 % 2 ^ 32 + (stored 5 (rc 1 3)).rd R.REC_SEL_HI % 65536 * 2 ^ 32) = some (5, rc 1 3) ∧
    (stored 5 (rc 1 3)).rcd.store.find? (fun e => e.1 == 6 % 2 ^ 32 + (stored 5 (rc 1 3)).rd R.REC_SEL_HI % 65536 * 2 ^ 32) = none ∧
    (let s := { r0 with chg := [⟨5, 1, 0, 1, 7, 5, 6, 7, 8, 9, 10⟩] }
     s.chg.find? (fun e => e.seq == 5 % 2 ^ 32) = some ⟨5, 1, 0, 1, 7, 5, 6, 7, 8, 9, 10⟩ ∧ s.chg.find? (fun e => e.seq == 6 % 2 ^ 32) = none) := by decide +kernel
/-- A module whose output 1 is at rest while the light pulse of output 0 runs. -/
def lighting : State := pulsing true 0 false r0
theorem hyp_light_pulses : lighting.lightPulse 1 = true ∧ (lighting.outAt 1).pulse = none ∧ lighting.outCommand lighting.io.word 1 = false ∧ r0.lightPulse 1 = false ∧
    (pulsing true 0xFFFF false r0).lightPulse 1 = false ∧ ((outs (fun o => { o with recheck := 5 }) r0).outAt 1).recheck ≠ 0 ∧ (r0.outAt 1).recheck = 0 ∧
    State.reset.ioMap = none ∧ r0.ioMap.isSome = true ∧
    (match r0.ioMap with | some m => m.pairs.contains (1, 5) && decide (m.pairs.map Prod.fst).Nodup | none => false) = true ∧ 1 < r0.io.pairs.length := by decide +kernel

/-! ### Statements about starts, supplies, quotes and updates -/

/-- Stages 1 to 5 as the manifest lists them, and the station image of stage 7; no stage at all; a start that never ends. -/
def okStart : SpireStart := ⟨true, true, [1, 2, 3, 4, 5, 6]⟩
def bareStart : SpireStart := ⟨true, true, []⟩
def badStart : SpireStart := ⟨false, true, []⟩
def lists (l : List Nat) (s : State) : State := { s with upd := { s.upd with listed := (some l, some l) } }
def done3 (s : State) : State :=
  withReg (R.ATT_STATUS.key 0 0) 0xFFFFFFFF (withReg (R.ATT_STATUS.key 1 0) 0xFFFFFFFF (withReg (R.ATT_STATUS.key 2 0) 0xFFFFFFFF s))
def st0 : State := done3 (sv .engineer .selftest)
def supply (f : PwrSt → PwrSt) (s : State) : State := { s with pwr := f s.pwr }
theorem start_resets : NoResets State.reset ∧ NoResets (lists [1, 2, 3, 4, 5] (sv .auditor .boot)) ∧ NoResets st0 :=
  ⟨resets_of _ (by decide +kernel), resets_of _ (by decide +kernel), resets_of _ (by decide +kernel)⟩
theorem hyp_StartsTestsAndSuppliesMoveTheModule : (let s := lists [1, 2, 3, 4, 5] (sv .auditor .boot); s.mode.cur = .boot ∧ s.pwr.porHeld = false ∧ s.trial = false ∧ s.startEnds okStart = true ∧
      okStart.digests.length = 6 ∧ (∀ x, x < 3 → s.bf.spst.get x ≠ .selftest ∧ s.flag F.ATT_STATUS_DONE x = false ∧ ∀ k, k ∈ startTallies → s.fld (extField k) x = 0 ∧ s.tally x k = s.tally 0 k)) ∧
    (sv .auditor .load).mode.cur ≠ .boot ∧ ({ (sv .auditor .boot).pwr with porHeld := true } : PwrSt).porHeld = true := by decide +kernel
theorem hyp_selftests : (st0.mode.cur = .selftest ∧ st0.trial = false ∧ (∀ x, x < 3 → st0.bf.spst.get x = .compared ∧ st0.flag F.ATT_STATUS_DONE x = true ∧ st0.bankFaulty x = false) ∧ st0.severeLatch = false) ∧
    (sv .auditor .boot).mode.cur ≠ .selftest := by decide +kernel
theorem hyp_injection : ((st0.src 77).st = .clear ∧ (st0.src 77).winCnt < st0.recLimit 77) ∧ (withSrc 75 { SrcSt.idle with st := .latched } st0).severeLatch = true := by decide +kernel
theorem hyp_ended : (let s := lists [] (sv .auditor .boot)
    2 ≤ (({ s with out := [] }).measureAll ⟨Three.all bareStart, none⟩).ended ∧ (({ s with out := [] }).measureAll ⟨⟨bareStart, badStart, badStart⟩, none⟩).ended < 2) := by decide +kernel
theorem hyp_supplies : (∀ x, x < 3 → (r0.eng x).run = true ∧ (State.reset.eng x).run = false) ∧
    (let s := supply (fun p => { p with wakeAt := Three.all (some (100 * 65536 + 9)) }) r0; s.pwr.wakeAt.get 1 = some (100 * 65536 + 9) ∧ (100 * 65536 + 9) / 65536 = s.time.count) ∧ r0.pwr.wakeAt.get 1 = none ∧
    r0.fld (pwrField 1) = 0 ∧ (deep r0).fld (pwrField 1) ≠ 0 ∧ r0.sched.relq.find? (fun (e : Nat × Nat) => e.1 == 5) = none ∧
    (let s := sc (fun c => { c with relq := [(5, 100 * 65536 + 9)] }) r0; s.sched.relq.find? (fun (e : Nat × Nat) => e.1 == 5) = some (5, 100 * 65536 + 9)) ∧
    1 < 2 ∧ 60000 < 60001 ∧ 60000 ≤ 60000 ∧ 16799 < 16800 ∧ 36000 < 36001 ∧
    (max 15999 15999 ≤ 60000 ∧ r0.pwr.warn = false ∧ (r0.pwr.feedA.connected = true → 15999 < 16000) ∧ (r0.pwr.feedB.connected = true → 15999 < 16000)) ∧
    (let s := supply (fun p => { p with warn := true }) r0; max 16800 0 ≤ 60000 ∧ s.pwr.warn = true ∧ 12000 ≤ 12000 ∧ ((s.pwr.feedA.connected = true ∧ 16800 ≤ 16800) ∨ (s.pwr.feedB.connected = true ∧ 16800 ≤ 0))) := by decide +kernel

def via4 : RingVia := ⟨false, 4, []⟩
def rq (p : QuotePath) (n : Nat) : QuoteReq := ⟨p, n⟩
def ringRq : QuoteReq := rq (.ring 4 via4) 6
def asking (f : RingSt → RingSt) (s : State) : State := { s with
  settings := { s.settings with manifest := [(9, ⟨77, 3⟩)] }, ring := f { s.ring with st := .sync, sm := 4, admitted := true, nodes := [⟨9, none, 0, 0, [], 0, 0, false, ⟨77, 3⟩⟩] } }
def quote (mode nonce : Nat) : QuoteMsg := ⟨via4, 9, 7, mode, 2, nonce, 3, 1, 77, 3, 0, 9, 9, Three.all (List.replicate 8 0), Three.all 1, Three.all true⟩
def partner (s : State) : State := withReg R.PAIR_CONF.addr (9 + 3 * 65536) { s with pair := { s.pair with nonce := some 55 } }
def queued (l : List QuoteReq) (h : Option QuoteHead) (s : State) : State := { s with att := { s.att with queue := l, latch := h } }
theorem hyp_QuotesAreAskedSignedAndJudged : r0.quoteAsked (rq (.service 15) 6) = true ∧ r0.quoteAsked (rq (.service 16) 6) = false ∧ r0.att.queue = [] ∧ r0.quoteFirst (rq (.service 0) 6) = false ∧
    (rq (.service 16) 6).path.onRing = false ∧ r0.quoteAsked (rq (.ring 9 { via4 with dst := 0x0105 }) 6) = false ∧
    (asking id r0).quoteFirst ringRq = true ∧ (asking id r0).quoteAsked ringRq = true ∧ 16 ≤ (queued (List.replicate 16 (rq (.service 0) 6)) none r0).att.queue.length ∧ r0.mode.cur ≠ .integrate ∧
    r0.betaIndep = false ∧ (done3 r0).quotes 0 = true ∧ r0.quotes 0 = false ∧ (partner r0).content.pair.isSome = true ∧ (partner r0).fld F.PAIR_CONF_PARTNER = 9 ∧
    (quote 7 55).via.dst = r0.own (quote 7 55).via.beta ∧ ({ quote 7 55 with via := { via4 with dst := 5 } } : QuoteMsg).via.dst ≠ r0.own false := by decide +kernel
theorem hyp_signing : (let s := queued [rq (.service 0) 6] (some (headNow r0)) r0; s.att.queue = rq (.service 0) 6 :: [] ∧ s.att.latch = some (headNow r0)) ∧
    (let s := queued [ringRq] none r0; s.att.latch = none ∧ s.sched.cur = 31 ∧ ringRq.path.onRing = true) ∧
    (let s := queued [ringRq] none (sc (fun c => { c with cur := 0 }) r0); s.att.latch = none ∧ s.sched.cur ≠ 31) := ⟨⟨rfl, rfl⟩, ⟨rfl, rfl, rfl⟩, rfl, by decide⟩
theorem hyp_quote_of_a_node : (∀ i ∈ [none, some ⟨77, 3⟩, some (⟨78, 3⟩ : ImageId)], (let s := asking (fun r => { r with quotes := [⟨9, 55, 0, i⟩] }) r0; s.isSm false = true ∧ s.ring.quotes.find? (fun (q : AdmQuote) => q.addr == 9 && q.nonce == 55) = some ⟨9, 55, 0, i⟩ ∧ (9, (⟨77, 3⟩ : ImageId)) ∈ s.settings.manifest ∧
        (9, (⟨78, 3⟩ : ImageId)) ∉ s.settings.manifest)) ∧ NoResets r0 := ⟨by decide +kernel, io_resets.1⟩
theorem hyp_quote_of_a_peer : (let p : PeerSt := ⟨9, true, some 5, some 55, 7, true, true, 0, 1⟩
     let s := { r0 with peers := [p] }
     s.isSm false = false ∧ s.peers.find? (fun (p : PeerSt) => (p.addr == 9 || p.addr == 9) && p.nonce == some 55) = some p ∧
       (∃ d ∈ s.content.peers, s.content.peers.find? (fun (d : PeerDef) => d.addr == p.addr) = some d ∧ (⟨77, 3⟩ : ImageId) ∈ d.ids) ∧ (quote 7 55).mode = 7 ∧ (quote 9 55).mode = 9) ∧
    (let s := partner r0; s.isSm false = false ∧ s.content.pair.isSome = true ∧ 9 = s.fld F.PAIR_CONF_PARTNER ∧ s.pair.nonce = some 55 ∧ s.content.id = ⟨77, 3⟩) ∧
    (r0.isSm false = false ∧ (∀ p ∈ r0.peers, p.nonce ≠ some 56) ∧ r0.pair.nonce ≠ some 56) := by decide +kernel
/-- A quote that no spire signed is unsound. -/
theorem hyp_unsound :  ∀ ca, ({ quote 7 55 with signed := 0 } : QuoteMsg).sound ca = false := by
  simp [QuoteMsg.sound, QuoteMsg.verifying, threeIdx, quote, bitOf]; rfl
/-- Verification is uninterpreted: under a verification that accepts its signatures, a quote is sound. -/
theorem hyp_sound (ca : Nat) (h : ∀ k m g, Config.ecdsaOk k m g = true) : (quote 7 55).sound ca = true ∧ 2 ≤ ((quote 7 55).verifying ca).length := by
  simp [QuoteMsg.sound, QuoteMsg.verifying, threeIdx, quote, bitOf, h, Three.get, Three.all]

def part (t len : Nat) : PartDef := ⟨t, false, 0, len, 1, 0⟩
def kept (t : Nat) : PartDef := ⟨t, true, 0, 0, 1, 0⟩
def mf : Manifest := ⟨0x4454334D, 0x0100, 0x0D030000, 5, 3, 0, 0, 9, [part 1 5000, part 2 10, part 3 10, part 4 10, part 5 10], [], [⟨0x80, 1⟩]⟩
def mfKept : Manifest := { mf with parts := [kept 1, kept 2, kept 3, kept 4, kept 5] }
def mfDesc : Manifest := { mf with parts := mf.parts ++ [part 7 10] }
def upd (f : UpdSt → UpdSt) (s : State) : State := { s with upd := f s.upd }
def staging (st : UpdStage) (m : Manifest) (n : List Nat) (s : State) : State :=
  upd (fun u => { u with stage := st, manifest := some m, next := Three.all n, flash := Three.all (m.parts.map fun _ => []) }) s
def up (r : Role) (m : Mode) : State := rich (run0 r m)
def whole : List Nat := [5000, 10, 10, 10, 10, 10]
def block (p o : Nat) (d : List Byte) : UpdBlock := let b : UpdBlock := ⟨p, o, d, 0⟩; { b with crc := crc32c.value b.covered }
def trialRun (s : State) : State := done3 (upd (fun u => { u with boot := Three.all { u.boot.a with trial := true, left := 1, deadline := 90, set := 1 }, stage := .trial, manifest := some mf, oldSet := 0 }) s)
def verifyOp : VerifyOp := ⟨Three.all [], Three.all 0, none, doc0⟩
theorem hyp_PackagesAreTakenVerifiedAndTried : (up .engineer .update).svcFind c1 = some (ses .engineer) ∧ (ses .engineer).role = .engineer ∧ (up .engineer .update).pwr.warn = false ∧
    (up .engineer .update).updOpen = true ∧ (up .engineer .boot).updOpen = false ∧ (staging .download mf [0, 0, 0, 0, 0] (up .engineer .update)).upd.stage = .download ∧
    (staging .download mf [0, 0, 0, 0, 0] (up .engineer .update)).upd.manifest = some mf ∧ ¬ ((up .engineer .update).upd.stage = .download ∧ (up .engineer .update).upd.manifest = some mf) ∧
    mf.parts.all (fun p => p.carry || p.length == 0) = false ∧ mfKept.parts.all (fun p => p.carry || p.length == 0) = true := by decide +kernel
theorem hyp_blocks : let s := staging .download mf [4096, 0, 0, 0, 0] (up .engineer .update); let b := block 1 0 (List.replicate 10 1)
      s.blockLen b = some 10 ∧ b.fits 10 = true ∧ (s.bf.spst.get 2 ≠ .selftest ∧ s.bf.spst.get 2 ≠ .latched) ∧ b.offset ≤ s.blockNext b 2 ∧
        (∀ y, y < 3 → b.part < (s.upd.next.get y).length) ∧ s.blockLen ⟨9, 0, [], 0⟩ = none := by decide +kernel
theorem hyp_block_crc : (let b := block 1 0 (List.replicate 10 1); b.crc = crc32c.value b.covered) ∧ ({ block 1 0 [] with crc := 1 } : UpdBlock).crc ≠ crc32c.value ({ block 1 0 [] with crc := 1 } : UpdBlock).covered := by decide +kernel
theorem hyp_block_offsets : (∀ y, y < 3 → (staging .download mf [0, 0, 0, 0, 0] (up .engineer .update)).blockNext ⟨1, 4096, [], 0⟩ y < 4096) ∧ (⟨0, 4096, [], 0⟩ : UpdBlock).fits 5000 = false ∧
    (upd (fun u => { u with olHeader := some ⟨78, 4, 77, 3, 2, 5000⟩ }) (up .engineer .active)).blockLen ⟨0xFF, 0, [], 0⟩ = some 5000 := by decide +kernel
/-- A verification that passes needs an image whose signature passes, which no run decides (Config.ecdsaOk). -/
theorem hyp_verifications : (let s := staging .complete mfKept [] (up .engineer .update); s.upd.manifest = some mfKept ∧ (Role.engineer == .engineer && s.updOpen && s.upd.complete && (s.upd.stage == .complete || s.upd.stage == .verified)) = true ∧ s.needsAuditor mfKept verifyOp = false ∧
        (s.verify { mfKept with magic := 1 } verifyOp false).map VerFail.code = some 1 ∧ ({ mfKept with magic := 1 } : Manifest).formBad = true) ∧
    (let s := staging .complete mfDesc whole (up .engineer .update); (Role.engineer == .engineer && s.updOpen && s.upd.complete && (s.upd.stage == .complete || s.upd.stage == .verified)) = true ∧
        s.needsAuditor mfDesc { verifyOp with desc := some ⟨[0], 0, [0], [.verifier .engineer 5]⟩ } = true) ∧
    (let s := confirmed 0x0304 [] (staging .verifying mfDesc whole (up .auditor .update)); (s.upd.stage == .verifying && s.svc.confirms.any (fun (p : Confirm) => p.code == 0x0304 && Nat.ble s.time.clockNs p.untilNs)) = true) := by
  refine ⟨⟨?_, ?_, ?_, ?_, ?_⟩, ?_, ?_⟩ <;> decide +kernel
theorem hyp_trials : (staging .verified mf whole (up .engineer .update)).mode.cur = .update ∧ (staging .verified mf whole (up .engineer .update)).upd.stage = .verified ∧ 3 ≤ 3 ∧ 2 < 3 ∧
    (trialRun (up .engineer .integrate)).mayConfirm = true ∧ (up .engineer .integrate).mayConfirm = false ∧ (trialRun (up .engineer .active)).trial = true ∧ (up .engineer .active).trial = false ∧
    (up .engineer .active).mode.cur ≠ .boot ∧ (up .engineer .boot).mode.cur = .boot ∧
    (let s := confirmed 0x0306 [] (trialRun (up .maintainer .integrate)); s.mayConfirm = true ∧ s.svc.confirms.any (fun p => p.code == 0x0306 && p.opnds == [] && decide (s.time.clockNs ≤ p.untilNs)) = true) ∧
    (trialRun (up .engineer .active)).deadlineOver = true ∧ (up .engineer .active).deadlineOver = false ∧ (staging .verified mf whole (up .engineer .update)).upd.activating = none ∧
    (up .engineer .active).upd.activating = none := by decide +kernel
theorem hyp_update_refusals : (ses .auditor).role ≠ .engineer ∧ ¬ ((ses .engineer).role = .engineer ∧ (up .engineer .active).mode.cur = .update ∧ (up .engineer .active).upd.stage = .verified ∧ (up .engineer .active).trial = false) ∧
    (up .engineer .update).upd.manifest = none ∧ (∀ y, y < 3 → MgmtRuns (up .engineer .update) y) ∧ NotInReset (up .engineer .update) := by unfold MgmtRuns NotInReset; decide +kernel
theorem hyp_no_trial_verified : NoTrial (staging .verified mf whole (up .engineer .update)) ∧ NoTrial (up .maintainer .safeHalt) := ⟨noTrial_of _ (by decide), noTrial_of _ (by decide)⟩

def new0 : ImageContent := { img1 with id := ⟨78, 4⟩ }
def newBad : ImageContent := { img1 with id := ⟨78, 4⟩, tokens := [] }
def holding (s : State) : State := { s with sp := s.sp.mapI fun _ x => { x with keep := { x.keep with tokens := x.keep.tokens.map fun t => { t with holder := 3 } } } }
def arm (m : ImageContent) (s : State) : State := confirmed 0x0312 [110] (upd (fun u => { u with staged := some m }) { s with pair := { s.pair with stagedNs := some 5000000, quoteNs := some 5000000 } })
def due (m : ImageContent) (s : State) : State := let s := upd (fun u => { u with staged := some m, target := some 100, backImg := 0 }) s; { s with time := { s.time with angle := 0 } }
theorem hyp_DeltasAreActivatedOnLine : (up .engineer .active).svcFind c1 = some (ses .engineer) ∧ (up .engineer .active).pwr.warn = false ∧ (up .engineer .active).mode.cur.online = true ∧ bitOf 2 1 = true ∧
    bitOf 0 1 = false ∧ (up .engineer .update).mode.cur.online = false ∧
    (let s := arm new0 (up .maintainer .active); s.mode.cur.track = true ∧ s.olRefusal 110 = none ∧ s.svc.confirms.any (fun p => p.code == 0x0312 && p.opnds == [110] && decide (s.time.clockNs ≤ p.untilNs)) = true) ∧
    (let s := arm new0 (up .maintainer .safeHalt); s.mode.cur.online = true ∧ s.mode.cur.track = false ∧ s.olRefusal 110 = none) ∧
    (arm new0 (up .maintainer .active)).olRefusal 103 = some 5 ∧ (arm new0 (up .maintainer .active)).olRefusal 104 = none ∧ (arm new0 (up .maintainer .active)).olRefusal 1124 = none ∧
    (arm new0 (up .maintainer .active)).olRefusal 1125 = some 5 ∧ (up .maintainer .active).olRefusal 110 = some 1 ∧ (arm newBad (holding (up .maintainer .active))).olRefusal 110 = some 2 ∧
    (arm { new0 with tokensDecl := 4 } (up .maintainer .active)).olRefusal 110 = some 3 := by decide +kernel
theorem hyp_activation : (up .engineer .active).olDue = false ∧ (due new0 r0).olDue = true ∧ (due new0 r0).upd.staged = some new0 ∧ olTokensBad (due new0 r0).content new0 (due new0 r0).keepNow = false ∧
    (let s := due newBad (holding r0); s.olDue = true ∧ s.upd.staged = some newBad ∧ olTokensBad s.content newBad s.keepNow = true) ∧
    (∀ d ∈ new0.sessions, d ∈ img1.sessions ∧ ∀ e ∈ img1.sessions, e.n = d.n → e = d) := by decide +kernel
theorem hyp_activation_resets : NoResets (due new0 r0) ∧ NoResets (due newBad (holding r0)) := ⟨resets_of _ (by decide +kernel), resets_of _ (by decide +kernel)⟩

/-! ### Worked examples of the spec, run by one step or one operation -/

/-- The state after a command, where it answers one. -/
def ok (r : Host.Outcome State Fault Refusal) : State := match r with | .next t => t | _ => State.reset
def ascii : List Byte := [0x31, 0x32, 0x33, 0x34, 0x35, 0x36, 0x37, 0x38, 0x39]
/-- R346: the check column over the nine digits. -/
theorem test_check_values : (crc32.value ascii, crc32c.value ascii, crc16ccitt.value ascii, crc64.value ascii) = (0xCBF43926, 0xE3069283, 0x29B1, 0x6C40DF5F0B497347) := by decide +kernel
/-- spec/04, Worked program: NOW of COUNT 19,726,336 at input angle 1,311 CAU. -/
theorem test_now : ({ r0 with time := { r0.time with count := 19726336, angle := 1311 }, regs := [(R.TB_CFG.addr, 50)] } : State).tickNow = 986316801 := by decide +kernel
/-- spec/04, step 4 of the trace: lane 4 expires, lane 2 keeps RUN, lane 0 stays idle. -/
theorem test_TON_worked_program :
    let now := 986316801
    let lane (i : Nat) : LaneDef := ⟨i, 0, 0, 0, 0, i, 0, 0, []⟩
    let s : State := { e0 with img := some { img0 with groups := [⟨0, 0, [lane 0, lane 1, lane 2]⟩] }
                               sched := { e0.sched with cur := 0, tasks := [(0, { TaskSt.idle with now := now })] }
                               sp := Three.all { sp0 with eng := { eng0 with acc := 0x06, wacc := List.replicate 8 8000 }, mem := { mem0 with t := [(1, BitVec.ofNat 32 (2 ^ 31 + now)), (2, BitVec.ofNat 32 (2 ^ 31 + now + 5600))] } } }
    ((ok (exec (.ton (op 4 (2 ^ 20) 0)) s)).spire 1).mem.t = [(1, 0x7ACA0001), (2, 0xBACA15E1)] := by decide +kernel
/-- spec/06, Worked example: CLAIM of route 1,412 takes slot 41; the words of a ROUTE, an OVERLAP and a FLANK token. -/
theorem test_CLAIM_worked_example :
    let free (g : Nat) : Token := (⟨0xFFFF, 0, 0, 0, g, false, false, false, 0, 0, 0, 0, 0, 0⟩ : Token).seal
    let shared : Token := (⟨0xFFFF, 1, 2, 2, 0x0B31, false, false, false, 2, 0, 0, 0, 0, 0⟩ : Token).seal
    let opened : TSlot := { TSlot.closed with tstate := 1 }
    let m : ImageContent := { img0 with tokens := [⟨1, 0, false, false, 0, 0⟩, ⟨2, 0, false, false, 0, 0⟩, ⟨3, 0, false, false, 0, 0⟩], transactions := 4096, routes := [⟨1412, 2, [(0, 1), (1, 2), (2, 3)]⟩] }
    let p : KeepSt := { keep0 with tokens := [free 0x01C4, shared, free 0x0077], slots := (List.range 41).map (fun n => (n, { opened with hchk := opened.hchkOf })) }
    let s : State := { e0 with img := some m, sp := Three.all { sp0 with eng := { eng0 with acc := 0x01, stack := [0x01], wacc := [1412, 0, 0, 0, 0, 0, 0, 0] }, keep := p } }
    let t := (ok (exec (.claim (op 0 0 0)) s)).spire 1
    (t.keep.tokens.map (fun x => (x.quarter 0, x.quarter 1)), (t.keep.slot 41).entries.map TEntry.word, (t.keep.slot 41).tstate, t.eng.w 0, t.eng.acc) =
      ([(0x00290011, 0x01C50000), (0xFFFF0222, 0x0B320200), (0xFFFF0123, 0x00780400)], [0x000018, 0x000128, 0x000238], 1, 0, 0x01) := by decide +kernel
/-- spec/14 R323, Worked example: TS_LATCH 0x0A3F1200 at 7,864 CAU, SOF 0x0A3F1A3C, is angle 8,140. -/
theorem test_stamp : ({ r0 with time := { r0.time with tbNs := 50000000 }, can := [(0, { CanCh.idle with latch := (0x0A3F1200, 7864), prevLatch := (0x0A3F1200, 7864) })] } : State).stampAt 0 0x0A3F1A3C false = some 8140 := by decide +kernel
/-- spec/18 R398, Worked example: record 3,000,000 stored, REC_NEXT 3,000,001, REC_OLDEST 1,955,521; record 1,955,520 is overwritten. -/
theorem test_RECORD_STORE_worked_example :
    let s := rcd (fun r => { r with intake := [rc 1 3], next := 3000000, store := [(1955521, rc 0 2), (1955520, rc 0 3), (4095, rc 0 2)] }) r0
    let t := ok (exec (.recordStore true) s)
    (viewReg t R.REC_NEXT_LO.addr, viewReg t R.REC_OLDEST_LO.addr, t.rcd.store.map Prod.fst) = (some 3000001, some 1955521, [3000000, 1955521, 4095]) := by decide +kernel
/-- spec/19 R415, R417, Worked example: a standby with STBY_MAX 4 and 55,706 CAU to the next event takes L4, whose latency is 3,605 CAU. -/
theorem test_SPIRE_IDLE_worked_example :
    let r := rich (run0 .engineer .standby)
    let s := withReg R.PWR_CFG.addr 0xFFFFFFFF { r with sp := Three.all Spire.idle, time := { State.reset.time with tbNs := 50000000, angle := 59830 }, pair := { r.pair with pre := some ⟨State.reset.pair.partner, 8, none⟩ } }
    ((ok (exec (.spireIdle 1 none) s)).fld (pwrField 1), s.nextEvent none, s.wakeCau 4) = (4, some 55706, 3605) := by decide +kernel
/-- spec/12 R267, Worked example: e of +120 ns moves master time back by 120 ns and the round is synchronised. -/
theorem test_SYNC_CORRECTION_worked_example : ((RingSt.correct r0.ring (some 120) [] 2 false true).offset, (RingSt.correct r0.ring (some 120) [] 2 false true).mute, (RingSt.correct r0.ring (some 251) [] 2 false true).mute) = (r0.ring.offset - 120, false, true) := by decide +kernel

/-! ### A step takes the front of the queue, in order -/

theorem test_step_takes_the_front : (ok (step { r0 with pending := [.restartInRise, .lampAmberEnd] })).pending = [.lampAmberEnd] ∧ (ok (step { r0 with pending := [.restartInRise, .lampAmberEnd] })).io.edge = .high := by decide +kernel
theorem test_idle_step_at_the_last_angle : (ok (step { State.reset with time := { State.reset.time with angle := 65535 } })).time.angle = 65535 := by decide +kernel
/-- R455: a session is refused the address that the settings do not give its ports. -/
theorem test_session_address : (State.reset.addrFits { img1 with sessions := [sess1] }) = false ∧
    (({ State.reset with settings := { State.reset.settings with ip4 := List.replicate 16 (some ⟨0x0A000001, 24, 0x0A0000FE⟩) } } : State).addrFits { img1 with sessions := [sess1] }) = true := by decide
/-- R301, R447: up to four entries for an address; an entry is changed in place. -/
theorem test_manifest_entries : let s := State.reset
    s.changeBad (.manifestAdd 9 ⟨77, 3⟩) = false ∧ s.changeBad (.manifestDrop 9 ⟨77, 3⟩) = true ∧
    (((List.range 4).foldl (fun s k => s.applyChange (.manifestAdd 9 ⟨k, 3⟩)) s).changeBad (.manifestAdd 9 ⟨77, 3⟩)) = true ∧
    ((s.applyChange (.manifestAdd 9 ⟨77, 3⟩)).applyChange (.manifestSet 9 ⟨77, 3⟩ ⟨78, 3⟩)).settings.manifest = [(9, ⟨78, 3⟩)] := by decide
theorem test_port_address : (State.reset.applyChange (.ip4 2 (some ⟨0x0A000001, 24, 0x0A0000FE⟩))).carries 2 (.ipv4 0x0A000001) = true := by decide
/-- The worked program of spec/04: PT_SUD_1. -/
def ptSud : List Word := [0x04700000, 0x14700001, 0x60D00000, 0x80900000, 0x40000000, 0x4C000001, 0x28000005, 0x48000000, 0x04500000, 0x10500001,
  0x20000003, 0x04500001, 0x10500000, 0x20000004, 0xB0A00000, 0x20000002, 0x04000001, 0x0C000002, 0x10000004, 0x0C000005,
  0x20700001, 0x04000000, 0x0C000002, 0x10000003, 0x0C000005, 0x20700000, 0x04E00001, 0xC8F00000, 0xF8000000]
theorem test_point_program : (⟨1, ptSud⟩ : ETypeDef).bad = false ∧ (⟨1, ptSud.dropLast⟩ : ETypeDef).bad = true ∧ (⟨1, ptSud.set 5 0x4C000003⟩ : ETypeDef).bad = true ∧
    (⟨1, ptSud.set 6 0x280001FF⟩ : ETypeDef).bad = true ∧ (⟨1, ptSud.set 0 0x04600000⟩ : ETypeDef).bad = false ∧ (⟨1, ptSud.set 0 0x04640000⟩ : ETypeDef).bad = true := by decide +kernel
/-- R77: 16 open IFs, not 17. -/
theorem test_mask_depth : (⟨1, List.replicate 16 0x40000000 ++ List.replicate 16 0x48000000 ++ [0xF8000000]⟩ : ETypeDef).bad = false ∧
    (⟨1, List.replicate 17 0x40000000 ++ List.replicate 17 0x48000000 ++ [0xF8000000]⟩ : ETypeDef).bad = true := by decide +kernel
/-- PT_SUD_1 over one point: it is free of 0x13; undeclared until its locations are declared. -/
def ptImg : ImageContent := { ImageContent.empty with msgs := [⟨0, .command 0 3 8 0⟩], domains := [1], etypes := [⟨1, ptSud⟩], groups := [⟨0, 1, [⟨0, 0, 0, 64, 96, 8, 0, 0, [0]⟩]⟩] }
theorem test_declarations : ptImg.logicBad = false ∧ ptImg.foreignWrite = false ∧ ptImg.undeclared = true ∧
    { ptImg with vital := [(2, 64, 2), (3, 96, 2), (0, 0, 6)], plain := [(4, 8, 1)] }.undeclared = false ∧
    { ptImg with vital := [(2, 64, 2), (3, 96, 2), (0, 0, 5)], plain := [(4, 8, 1)] }.undeclared = true ∧
    { ptImg with etypes := [⟨1, [0x20200005, 0xF8000000]⟩] }.foreignWrite = true ∧
    { ptImg with etypes := [⟨1, [0x20200005, 0xF8000000]⟩], ownG := [(1, 0, 6)] }.foreignWrite = false ∧
    { ptImg with etypes := [⟨1, [0x80900000, 0x84800008, 0xF8000000]⟩] }.timersBad = true := by decide +kernel

end Sys2Proof.Tests
end

section
/-! SUPPORT. What an instruction of the logic engine leaves once its access has been paged in: the frame of a load and of a
store, and what a run of writes in ascending lane order (spec/04 R78) leaves to read. -/

namespace Sys2Proof.Machine

/-! ### The highest lane wins (R78) -/

/-- What no step of a run of writes changes, the run leaves. -/
theorem foldl_keeps {α β γ : Type} (obs : α → γ) (f : α → β → α) (l : List β) (h : ∀ b ∈ l, ∀ a, obs (f a b) = obs a) (a : α) :
    obs (l.foldl f a) = obs a := by
  induction l generalizing a with
  | nil => rfl
  | cons b l ih =>
    rw [List.foldl_cons, ih (fun c hc => h c (List.mem_cons_of_mem _ hc)), h b (List.mem_cons_self ..)]

/-- In a run of writes by rising lanes, what lane j writes and no higher lane touches stands at the end. -/
theorem foldl_last {α γ : Type} (obs : α → γ) (f : α → Nat → α) {l : List Nat} (hl : l.Pairwise (· < ·)) {j : Nat} (hj : j ∈ l) {v : γ}
    (hw : ∀ a, obs (f a j) = v) (hk : ∀ i ∈ l, j < i → ∀ a, obs (f a i) = obs a) (a : α) : obs (l.foldl f a) = v := by
  induction l generalizing a with
  | nil => cases hj
  | cons i l ih =>
    obtain ⟨hi, hl⟩ := List.pairwise_cons.mp hl
    rw [List.foldl_cons]
    rcases List.mem_cons.mp hj with rfl | hj
    · rw [foldl_keeps obs f l (fun b hb => hk b (List.mem_cons_of_mem _ hb) (hi b hb)), hw]
    · exact ih hl hj (fun b hb => hk b (List.mem_cons_of_mem _ hb)) _

theorem lanesOf_rising (m : BitVec 8) : (lanesOf m).Pairwise (· < ·) := List.Pairwise.filter _ List.pairwise_lt_range

/-! ### Numbers made of bits -/

/-- A sum of the powers of two that `p` selects holds exactly those bits. -/
theorem testBit_foldl_pow (p : Nat → Bool) (m n : Nat) :
    ((List.range m).foldl (fun a k => if p k then a + 2 ^ k else a) 0).testBit n = (decide (n < m) && p n) := by
  have e : (fun a k => if p k then a + 2 ^ k else a) = fun a k => a + if p k then 2 ^ k else 0 := by
    funext a k; split <;> rfl
  rw [e, (foldl_bits p m).2 n]

/-- The lanes of a mask add up to it. -/
theorem sum_lanesOf (m : BitVec 8) : (lanesOf m).foldl (fun n j => n + 2 ^ j) 0 = m.toNat := by
  refine Nat.eq_of_testBit_eq fun i => ?_
  rw [lanesOf, List.foldl_filter, testBit_foldl_pow, BitVec.testBit_toNat]
  by_cases h : i < 8
  · simp [h, laneIn]
  · simp [h, BitVec.getLsbD_of_ge m i (by omega)]

/-- Bit i of the word from `a` up is the bit at `a + i` (R81, R97). -/
theorem wordOf_getLsbD (f : Nat → Bool) (a : Nat) {i : Nat} (hi : i < 32) : (wordOf f a).getLsbD i = f (a + i) := by
  rw [wordOf, BitVec.getLsbD_ofNat, testBit_foldl_pow (fun i => f (a + i))]
  simp [hi]

/-! ### An access that is ready to act -/

/-- An instruction with one access, ready and addressable, completes with what its access leaves after paging alone. -/
theorem EngineReady.completes {s : State} {o : EngOp} (h : EngineReady s o) {c : Enc} (hs : c.spaces.contains o.sp = true)
    (hm : o.md &&& c.mods = o.md) {word write : Bool} {m : BitVec 8} (ha : Addressable s o word m) {body : State → State}
    {k : List (Nat × Nat) → State → State} (hb : body { s with out := [] } = State.access { s with out := [] } o word write m k)
    {Q : State → Prop}
    (hk : ∀ p, Paged { s with out := [] } p o.spire → Q (settle (k ((lanesOf m).map fun j => (j, addrOf s o word j)) p))) :
    ∃ t, act s (fun s => s.instr o c body) = .next t ∧ Q t := by
  obtain ⟨h3, he, -, hw, hskip, hp, hecc, hi, hq⟩ := h
  obtain ⟨p, hpg, hacc⟩ := State.access_acts (s := { s with out := [] }) (write := write) k h3 ⟨hq, hi⟩ ha.1 ha.2
  refine ⟨_, ?_, hk p hpg⟩
  show Host.Outcome.next (settle (State.instr _ o c body)) = _
  rw [State.instr_acts (s := { s with out := [] }) body h3 he hw hskip hp hecc hi hs hm, hb, hacc]
  rfl

/-- Paging leaves the engine but for its stall clocks. -/
theorem Paged.eng_eq {s t : State} {x : Nat} (p : Paged s t x) : t.eng x = { s.eng x with stallTask := (t.eng x).stallTask } :=
  congrArg (fun e : Eng => { e with stallTask := (t.eng x).stallTask }) p.eng

/-- Paging leaves what word operands read. -/
theorem Paged.wordVal {s t : State} {x : Nat} (p : Paged s t x) (hx : x < 3) (sp j a : Nat) : t.wordVal x sp j a = s.wordVal x sp j a := by
  have hg : (t.eng x).group = (s.eng x).group := p.engf Eng.group (fun _ => rfl)
  have hb : ∀ sp, t.loadBit x sp = s.loadBit x sp := fun sp => funext (p.loadBit hx sp)
  have hn : t.nowTick = s.nowTick := by rw [p.rest]; rfl
  have hc : t.content = s.content := by rw [p.rest]; rfl
  unfold State.wordVal
  rw [p.mem, hg, hb, hb, hn, p.lane, hc]

/-! ### The engine of one spire -/

theorem State.spire_updEng (s : State) {x y : Nat} (f : Eng → Eng) (hx : x < 3) (hy : y < 3) (h : y ≠ x) : (s.updEng x f).spire y = s.spire y := by
  simp [State.updEng, State.spire_updSpire s _ hx hy, h]

theorem State.mem_updEng (s : State) {x : Nat} (f : Eng → Eng) (hx : x < 3) : ((s.updEng x f).spire x).mem = (s.spire x).mem := by
  simp [State.updEng, State.spire_updSpire s _ hx hx]

theorem State.keep_updEng (s : State) {x : Nat} (f : Eng → Eng) (hx : x < 3) : ((s.updEng x f).spire x).keep = (s.spire x).keep := by
  simp [State.updEng, State.spire_updSpire s _ hx hx]

/-- Passing an instruction of n clocks, as a change of the engine alone. -/
def Eng.charged (task n : Nat) (e : Eng) : Eng :=
  { e with pc := e.pc + 1, clkCycle := e.clkCycle + n, clkTask := Sparse.upd (fun _ => 0) e.clkTask task (fun c => c + n) }

theorem State.clocks_eq (s : State) (x n : Nat) : s.clocks x n = s.updEng x (Eng.charged s.sched.cur n) := rfl

/-- Two changes of one engine are one. -/
theorem State.updEng_updEng (s : State) (x : Nat) (f g : Eng → Eng) : (s.updEng x f).updEng x g = s.updEng x (fun e => g (f e)) := by
  unfold State.updEng State.updSpire Three.upd Three.set Three.get
  split
  · rfl
  · split <;> rfl

/-- What the engine holds once an instruction is passed. -/
theorem State.eng_passed (u : State) {x : Nat} (n : Nat) (hx : x < 3) : (settle (u.clocks x n)).eng x = (u.eng x).charged u.sched.cur n := by
  rw [settle_eng, State.clocks_eq, State.eng_updEng _ _ hx]

/-- Passing an instruction leaves the memories. -/
theorem State.mem_passed (u : State) {x : Nat} (n : Nat) (hx : x < 3) : ((settle (u.clocks x n)).spire x).mem = (u.spire x).mem := by
  rw [settle_spire, State.clocks_eq, State.mem_updEng _ _ hx]

/-- A change of the engine that an instruction may make before its clocks are charged: ACC, WACC, the mask stack and the new detectors. -/
def Eng.Computes (f : Eng → Eng) : Prop :=
  ∀ e, f e = { e with acc := (f e).acc, wacc := (f e).wacc, stack := (f e).stack, freshEdges := (f e).freshEdges }

/-- After paging, a computation and its clocks the engine has passed the instruction. -/
theorem Paged.passed_eng {s p : State} {x : Nat} (hp : Paged s p x) {f : Eng → Eng} (hf : Eng.Computes f) (task n : Nat) {e : Eng}
    (he : e = (f (p.eng x)).charged task n) :
    e = { s.eng x with
      acc := e.acc, wacc := e.wacc, stack := e.stack, freshEdges := e.freshEdges
      pc := (s.eng x).pc + 1, clkCycle := (s.eng x).clkCycle + n, clkTask := e.clkTask, stallTask := e.stallTask } := by
  subst he
  rw [hf (p.eng x), hp.eng_eq]
  rfl

/-- A load that computes in the engine alone keeps everything else. -/
theorem Paged.engineOnly {s p : State} {x : Nat} (hx : x < 3) (hp : Paged { s with out := [] } p x) {f : Eng → Eng} (hf : Eng.Computes f) (n : Nat) :
    EngineOnly s (settle ((p.updEng x f).clocks x n)) x n [] := by
  refine ⟨⟨?_, fun y hy hne => ?_⟩, ?_, ?_, fun k hk _ => hp.word k hk, ?_⟩
  · exact hp.passed_eng hf p.sched.cur n (by rw [State.eng_passed _ _ hx, State.eng_updEng _ _ hx]; rfl)
  · rw [settle_spire, State.clocks_eq, State.spire_updEng _ _ hx hy hne, State.spire_updEng _ _ hx hy hne]; exact hp.other y hy hne
  · rw [State.mem_passed _ _ hx, State.mem_updEng _ _ hx]; exact hp.mem
  · rw [settle_spire, State.clocks_eq, State.keep_updEng _ _ hx, State.keep_updEng _ _ hx]; exact hp.keep
  · refine congrArg settle ?_
    show ({ p with sp := _ } : State) = _
    rw [hp.rest]
    rfl

end Sys2Proof.Machine
end

section
/-! SUPPORT. Stores of the logic engine: memory by lane, the stream of records (spec/04 R102, R103, spec/10 R206) and the frame. -/

namespace Sys2Proof.Machine

/-! ### Records enter the delay register -/

theorem State.word_peak (s : State) (f : Field) (v i j k : Nat) (h : k ≠ f.reg.key i j) : (s.peak f v i j).word k = s.word k := by
  unfold State.peak State.setFld
  rw [Reg.word_setWord, if_neg h]

theorem fifoMaxField_reg (x : Nat) : (fifoMaxField x).reg = R.BF_FIFO_MAX := by
  unfold fifoMaxField
  split
  · rfl
  · split <;> rfl

theorem State.push_rest (s : State) (x : Nat) (recs : List WRec) :
    s.push x recs = { s with regs := (s.push x recs).regs, bf := { s.bf with streams := (s.push x recs).bf.streams } } := by
  unfold State.push
  split <;> rfl

theorem State.push_streams (s : State) (x : Nat) (recs : List WRec) :
    (s.push x recs).bf.streams = s.bf.streams.upd x (fun l => l ++ recs) ∨ (recs = [] ∧ s.push x recs = s) := by
  unfold State.push
  split
  · next h => exact .inr ⟨List.isEmpty_iff.mp h, rfl⟩
  · exact .inl rfl

theorem State.push_word (s : State) (x : Nat) (recs : List WRec) {k : Nat} (hk : k ∉ fifoKeys x) : (s.push x recs).word k = s.word k := by
  have hm : ∀ c < 3, k ≠ (fifoMaxField x).reg.key c 0 := by
    intro c hc h
    rw [fifoMaxField_reg] at h
    exact hk (List.mem_flatMap.mpr ⟨c, List.mem_range.mpr hc, by simp [h]⟩)
  unfold State.push
  split
  · rfl
  · simp only [State.each, List.foldl_cons, List.foldl_nil]
    rw [State.word_peak _ _ _ _ _ _ (hm 2 (by omega)), State.word_peak _ _ _ _ _ _ (hm 1 (by omega)),
      State.word_peak _ _ _ _ _ _ (hm 0 (by omega))]
    rfl

@[simp] theorem State.push_spire (s : State) (x y : Nat) (recs : List WRec) : (s.push x recs).spire y = s.spire y := by
  rw [State.push_rest]; rfl

@[simp] theorem State.push_eng (s : State) (x y : Nat) (recs : List WRec) : (s.push x recs).eng y = s.eng y := by
  unfold State.eng; rw [State.push_spire]

/-! ### What a storing instruction may change -/

/-- `t` is `s` but for spire x without its keep, the counters of its pager and of the delay registers, the count of free values,
and `recs` more in the stream of spire x. -/
structure Stored (s t : State) (x : Nat) (recs : List WRec) : Prop where
  rest : t = { s with sp := t.sp, regs := t.regs, free := t.free, bf := { s.bf with streams := t.bf.streams } }
  other : ∀ y, y < 3 → y ≠ x → t.spire y = s.spire y
  keep : (t.spire x).keep = (s.spire x).keep
  word : ∀ k, k ∉ pagerKeys x → k ∉ fifoKeys x → t.word k = s.word k
  streams : Streamed s t x recs

theorem Paged.stored {s p : State} {x : Nat} (h : Paged s p x) : Stored s p x [] where
  rest := by rw [h.rest]
  other := h.other
  keep := h.keep
  word k hk _ := h.word k hk
  streams := by rw [h.rest]; exact ⟨(List.append_nil _).symm, fun _ _ _ => rfl⟩

theorem Stored.updEng {s t : State} {x : Nat} {recs : List WRec} (h : Stored s t x recs) (f : Eng → Eng) (hx : x < 3) :
    Stored s (t.updEng x f) x recs where
  rest := by rw [h.rest]; rfl
  other y hy hne := by rw [State.spire_updEng _ _ hx hy hne, h.other y hy hne]
  keep := by rw [State.keep_updEng _ _ hx, h.keep]
  word := h.word
  streams := h.streams

theorem Stored.updMem {s t : State} {x : Nat} {recs : List WRec} (h : Stored s t x recs) (f : SMem → SMem) (hx : x < 3) :
    Stored s (t.updMem x f) x recs where
  rest := by rw [h.rest]; rfl
  other y hy hne := by rw [State.updMem, State.spire_updSpire _ _ hx hy, if_neg hne, h.other y hy hne]
  keep := by simp [State.updMem, State.spire_updSpire _ _ hx hx, h.keep]
  word := h.word
  streams := h.streams

theorem Stored.push {s t : State} {x : Nat} (h : Stored s t x []) (recs : List WRec) (hx : x < 3) : Stored s (t.push x recs) x recs where
  rest := by rw [State.push_rest, h.rest]
  other y hy hne := by rw [State.push_spire, h.other y hy hne]
  keep := by rw [State.push_spire, h.keep]
  word k hp hf := by rw [State.push_word _ _ _ hf, h.word k hp hf]
  streams := by
    obtain ⟨hs, ho⟩ := h.streams
    rcases State.push_streams t x recs with e | ⟨rfl, e⟩
    · refine ⟨by rw [e, Three.get_upd_self, hs, List.append_nil], fun y hy hne => ?_⟩
      rw [e, Three.get_upd_other _ _ hx hy (Ne.symm hne), ho y hy hne]
    · rw [e]; exact ⟨hs, ho⟩

/-- A store that has passed the instruction keeps everything but what a store may change. -/
theorem Stored.storeOnly {s t : State} {x n : Nat} {recs : List WRec} (h : Stored { s with out := [] } t x recs)
    (he : t.eng x = { s.eng x with
      acc := (t.eng x).acc, wacc := (t.eng x).wacc, stack := (t.eng x).stack, freshEdges := (t.eng x).freshEdges
      pc := (s.eng x).pc + 1, clkCycle := (s.eng x).clkCycle + n, clkTask := (t.eng x).clkTask, stallTask := (t.eng x).stallTask }) :
    StoreOnly s (settle t) x n [] :=
  ⟨⟨he, h.other⟩, h.keep, fun k hp hf _ => h.word k hp hf, congrArg settle h.rest⟩

/-- A store whose engine computes and passes the instruction has the frame of a store. -/
theorem Stored.finish {s p u : State} {x : Nat} {recs : List WRec} (h : Stored { s with out := [] } u x recs) (hx : x < 3)
    (hp : Paged { s with out := [] } p x) {f : Eng → Eng} (hf : Eng.Computes f) (he : u.eng x = f (p.eng x)) (n : Nat) :
    StoreOnly s (settle (u.clocks x n)) x n [] ∧ Streamed s (settle (u.clocks x n)) x recs := by
  have hu := h.updEng (Eng.charged u.sched.cur n) hx
  refine ⟨hu.storeOnly (hp.passed_eng hf u.sched.cur n ?_), hu.streams⟩
  rw [State.eng_updEng _ _ hx, he]

theorem State.mem_updMem (s : State) {x : Nat} (f : SMem → SMem) (hx : x < 3) : ((s.updMem x f).spire x).mem = f (s.spire x).mem := by
  simp [State.updMem, State.spire_updSpire s _ hx hx]

theorem State.eng_updMem (s : State) {x : Nat} (f : SMem → SMem) (hx : x < 3) : (s.updMem x f).eng x = s.eng x := by
  simp [State.eng, State.updMem, State.spire_updSpire s _ hx hx]

/-! ### Bits by lane (R78, R102, R103) -/

/-- In space F every lane has the same address. -/
theorem addrOf_frame {s : State} {o : EngOp} (h : o.sp = 0) (i j : Nat) : addrOf s o false i = addrOf s o false j := by
  simp [addrOf, h, bitAddr]

theorem memBit_putBit_same {m : SMem} {sp g j a : Nat} {b : Bool} (h : sp ∈ [0, 1, 3]) : memBit (m.putBit sp g j a b) sp g j a = b := by
  simp only [List.mem_cons, List.not_mem_nil, or_false] at h
  rcases h with rfl | rfl | rfl <;> exact Sparse.get_set_self _ _ _ _

theorem memBit_putBit_other {m : SMem} {sp g i j a a' : Nat} {b : Bool} (h : sp ∈ [0, 1, 3]) (h0 : sp = 0 → fKey g j a ≠ fKey g i a')
    (h1 : sp ≠ 0 → a ≠ a') : memBit (m.putBit sp g i a' b) sp g j a = memBit m sp g j a := by
  simp only [List.mem_cons, List.not_mem_nil, or_false] at h
  rcases h with rfl | rfl | rfl
  · exact Sparse.get_set_other _ _ _ _ _ (h0 rfl)
  · exact Sparse.get_set_other _ _ _ _ _ (h1 (by decide))
  · exact Sparse.get_set_other _ _ _ _ _ (h1 (by decide))

theorem putBit_f {m : SMem} {sp g j a k : Nat} {b : Bool} (h : sp = 0 → k ≠ fKey g j a) :
    Sparse.get (fun _ => false) (m.putBit sp g j a b).f k = Sparse.get (fun _ => false) m.f k := by
  unfold SMem.putBit
  split
  · exact Sparse.get_set_other _ _ _ _ _ (h rfl)
  · rfl
  · rfl

theorem putBit_g {m : SMem} {sp g j a k : Nat} {b : Bool} (h : sp = 1 → k ≠ a) :
    Sparse.get (fun _ => false) (m.putBit sp g j a b).g k = Sparse.get (fun _ => false) m.g k := by
  unfold SMem.putBit
  split
  · rfl
  · exact Sparse.get_set_other _ _ _ _ _ (h rfl)
  · rfl

theorem putBit_q {m : SMem} {sp g j a k : Nat} {b : Bool} (hs : sp ∈ [0, 1, 3]) (h : sp = 3 → k ≠ a) :
    Sparse.get (fun _ => false) (m.putBit sp g j a b).q k = Sparse.get (fun _ => false) m.q k := by
  simp only [List.mem_cons, List.not_mem_nil, or_false] at hs
  rcases hs with rfl | rfl | rfl
  · rfl
  · rfl
  · exact Sparse.get_set_other _ _ _ _ _ (h rfl)

/-- Bits leave the words and the timers. -/
theorem putBit_words (m : SMem) (sp g j a : Nat) (b : Bool) :
    (m.putBit sp g j a b).v = m.v ∧ (m.putBit sp g j a b).h = m.h ∧ (m.putBit sp g j a b).t = m.t := by
  unfold SMem.putBit
  split <;> exact ⟨rfl, rfl, rfl⟩

/-- Frame bits of two lanes of a group stand under two keys. -/
theorem fKey_ne {g i j a : Nat} (h : j ≠ i) : fKey g j a ≠ fKey g i a := by unfold fKey; omega

/-- The memory after a store of `v j` in each lane of a mask. -/
def SMem.putLanes (mem : SMem) (s : State) (o : EngOp) (m : BitVec 8) (v : Nat → Bool) : SMem :=
  (lanesOf m).foldl (fun mem j => mem.putBit o.sp (s.eng o.spire).group j (addrOf s o false j) (v j)) mem

/-- A memory written lane by lane holds what R78 says. -/
theorem BitsStored.of_putLanes {s t : State} {o : EngOp} {m : BitVec 8} {v : Nat → Bool} (hs : o.sp ∈ [0, 1, 3])
    (h : (t.spire o.spire).mem = (s.spire o.spire).mem.putLanes s o m v) : BitsStored s t o m v := by
  unfold BitsStored
  dsimp only
  rw [h]
  refine ⟨fun j hj hlast => ?_, fun k hk => ?_, fun a ha => ?_, fun a ha => ?_, ?_, ?_, ?_⟩
  · refine foldl_last (fun mem => memBit mem o.sp _ j (addrOf s o false j)) _ (lanesOf_rising m) hj (fun _ => memBit_putBit_same hs)
      (fun i hi hlt _ => memBit_putBit_other hs (fun h0 => ?_) (fun h0 he => hlast i hi hlt ⟨he.symm, h0⟩)) _
    rw [addrOf_frame h0 i j]
    exact fKey_ne (by omega)
  · exact foldl_keeps (fun mem : SMem => Sparse.get (fun _ => false) mem.f k) _ _ (fun j hj _ => putBit_f (fun h0 => hk h0 j hj)) _
  · exact foldl_keeps (fun mem : SMem => Sparse.get (fun _ => false) mem.g a) _ _ (fun j hj _ => putBit_g (fun h0 => ha h0 j hj)) _
  · exact foldl_keeps (fun mem : SMem => Sparse.get (fun _ => false) mem.q a) _ _ (fun j hj _ => putBit_q hs (fun h0 => ha h0 j hj)) _
  · exact foldl_keeps SMem.v _ _ (fun j _ mem => (putBit_words mem ..).1) _
  · exact foldl_keeps SMem.h _ _ (fun j _ mem => (putBit_words mem ..).2.1) _
  · exact foldl_keeps SMem.t _ _ (fun j _ mem => (putBit_words mem ..).2.2) _

/-- The records that a bit store sends are those that R102 and R103 say. -/
theorem bitRecs_lanes (s : State) (o : EngOp) (m : BitVec 8) (v : Nat → Bool) :
    bitRecs o.sp o.idx ((lanesOf m).map fun j => (j, addrOf s o false j, v j)) = bitStoreRecs s o m v := by
  unfold bitRecs bitStoreRecs laneBits
  rw [List.foldl_map, List.foldl_map, List.map_map, List.foldl_filter, sum_lanesOf]
  rfl

/-- A bit store in the lanes of a mask, after paging: what it may change, and the memory it leaves. -/
theorem Paged.storeBits {s p : State} {o : EngOp} (h3 : o.spire < 3) (hp : Paged { s with out := [] } p o.spire) (m : BitVec 8) (v : Nat → Bool) :
    let u := p.storeBits o.spire o.sp o.idx ((lanesOf m).map fun j => (j, addrOf s o false j, v j))
    Stored { s with out := [] } u o.spire (bitStoreRecs s o m v) ∧ u.eng o.spire = p.eng o.spire ∧
      (u.spire o.spire).mem = (s.spire o.spire).mem.putLanes s o m v := by
  have hg : (p.eng o.spire).group = (s.eng o.spire).group := hp.engf Eng.group (fun _ => rfl)
  have hm : (p.spire o.spire).mem = (s.spire o.spire).mem := hp.mem
  unfold State.storeBits
  rw [bitRecs_lanes]
  refine ⟨(hp.stored.updMem _ h3).push _ h3, ?_, ?_⟩
  · rw [State.push_eng, State.eng_updMem _ _ h3]
  · rw [State.push_spire, State.mem_updMem _ _ h3, hm, hg, List.foldl_map]
    rfl

end Sys2Proof.Machine
end

section
/-! SUPPORT. EDR and EDF (spec/04 R86). -/

namespace Sys2Proof.Machine

/-- What an edge instruction leaves: the edge by `f` of ACC and P in the lanes of EN, 0 where FIRST is 1, and ACC in P. -/
def EdgeResult (s t : State) (o : EngOp) (f : Bool → Bool → Bool) : Prop :=
  let e := s.eng o.spire
  (∀ j, j < 8 → laneIn (t.eng o.spire).acc j =
    if laneIn e.en j then (if s.bitVal o.spire 0 j 511 then false else f (laneIn e.acc j) (opBit s o j)) else laneIn e.acc j) ∧
  BitsStored s t o e.en (laneIn e.acc) ∧ Streamed s t o.spire (bitStoreRecs s o e.en (laneIn e.acc)) ∧
  (t.eng o.spire).wacc = e.wacc ∧ (t.eng o.spire).stack = e.stack ∧ (t.eng o.spire).freshEdges = [] ∧ StoreOnly s t o.spire 1 []

/-- The bit that an edge instruction gives lane j, when no detector is new. -/
def edgeBit (s : State) (o : EngOp) (f : Bool → Bool → Bool) (j : Nat) : Bool :=
  if s.bitVal o.spire 0 j 511 then false else f (laneIn (s.eng o.spire).acc j) (opBit s o j)

/-- The engine after an edge instruction has retired the detectors `done` and set ACC in the lanes of `v`. -/
def Eng.edged (done : List (Nat × Nat)) (v : List (Nat × Bool)) (e : Eng) : Eng :=
  v.foldl (fun e (u : Nat × Bool) => e.setAcc u.1 u.2) { e with freshEdges := e.freshEdges.filter (fun k => !done.contains k) }

theorem Eng.edged_eq (done : List (Nat × Nat)) (v : List (Nat × Bool)) (e : Eng) : e.edged done v =
    { e with freshEdges := e.freshEdges.filter (fun k => !done.contains k), acc := v.foldl (fun m u => setLane m u.1 u.2) e.acc } := by
  rw [Eng.edged, foldl_setAcc]

theorem Eng.edged_computes (done : List (Nat × Nat)) (v : List (Nat × Bool)) : Eng.Computes (Eng.edged done v) := fun e => by
  rw [Eng.edged_eq]

/-- After paging, storing ACC to P and setting ACC to the edges is what R86 says. -/
theorem edgeResult_edged {s p : State} {o : EngOp} (h3 : o.spire < 3) (hs : o.sp ∈ [0, 1]) (hn : (s.eng o.spire).freshEdges = [])
    (hp : Paged { s with out := [] } p o.spire) (f : Bool → Bool → Bool) (done : List (Nat × Nat)) :
    EdgeResult s (settle (((p.storeBits o.spire o.sp o.idx
        ((lanesOf (s.eng o.spire).en).map fun j => (j, addrOf s o false j, laneIn (s.eng o.spire).acc j))).updEng o.spire
      (Eng.edged done ((lanesOf (s.eng o.spire).en).map fun j => (j, edgeBit s o f j)))).clocks o.spire 1)) o f := by
  obtain ⟨hst, heng, hmem⟩ := hp.storeBits h3 (s.eng o.spire).en (laneIn (s.eng o.spire).acc)
  obtain ⟨honly, hstr⟩ := (hst.updEng _ h3).finish h3 hp
    (Eng.edged_computes done ((lanesOf (s.eng o.spire).en).map fun j => (j, edgeBit s o f j))) (by rw [State.eng_updEng _ _ h3, heng]) 1
  have hspaces : o.sp ∈ [0, 1, 3] := by
    simp only [List.mem_cons, List.not_mem_nil, or_false] at hs ⊢
    exact hs.imp_right Or.inl
  refine ⟨fun j hj => ?_, .of_putLanes hspaces (by rw [State.mem_passed _ _ h3, State.mem_updEng _ _ h3, hmem]), hstr, ?_, ?_, ?_, honly⟩
  all_goals rw [State.eng_passed _ _ h3, State.eng_updEng _ _ h3, heng, Eng.edged_eq, hp.eng_eq]
  · show laneIn (List.foldl _ (s.eng o.spire).acc _) j = _
    rw [foldl_setLane _ _ _ (fun k hk => ((mem_lanesOf _ k).mp hk).1)]
    simp only [mem_lanesOf, hj, true_and]
    rfl
  · rfl
  · rfl
  · show List.filter _ (s.eng o.spire).freshEdges = []
    rw [hn, List.filter_nil]

/-- Where no detector is new, an edge instruction sets ACC to the edge and keeps ACC in P. -/
theorem edge_completes {s : State} {o : EngOp} (h : EngineReady s o) (ha : Addressable s o false (s.eng o.spire).en) (hs : o.sp ∈ [0, 1])
    (hm : o.md = 0) (hf : ¬ (o.sp = 0 ∧ o.idx = 511)) (hn : (s.eng o.spire).freshEdges = []) (f : Bool → Bool → Bool) :
    ∃ t, act s (fun s => s.edge o f) = .next t ∧ EdgeResult s t o f := by
  have hfirst : ¬ storesFirst o = true := by simpa [storesFirst] using hf
  refine h.completes (c := ⟨[0, 1], 0⟩) (by simpa using hs) (by simp [hm]) ha (if_neg hfirst) fun p hp => ?_
  have hacc : (p.eng o.spire).acc = (s.eng o.spire).acc := hp.engf Eng.acc (fun _ => rfl)
  have hfresh : (p.eng o.spire).freshEdges = [] := (hp.engf Eng.freshEdges (fun _ => rfl)).trans hn
  have hbit : ∀ sp j a, p.bitVal o.spire sp j a = s.bitVal o.spire sp j a := hp.bitVal h.1
  simp only [hfresh, List.contains_nil, Bool.or_false, hbit, hacc, List.map_map, State.updEng_updEng]
  exact edgeResult_edged h.1 hs hn hp f _

/-- Settles O13: P is stored from the input ACC, while the edge is taken against the P that the state before shows. -/
theorem edgesCompareWithPrevious : Obligations.EdgesCompareWithPrevious := by
  intro s o h ha hs hm hf hn
  exact ⟨edge_completes h ha hs hm hf hn _, edge_completes h ha hs hm hf hn _⟩

end Sys2Proof.Machine
end

section
/-! SUPPORT. IN and OUT (spec/04 R97). -/

namespace Sys2Proof.Machine

/-! ### WACC by lane -/

theorem foldl_setW (v : List (Nat × Word)) (e : Eng) : (v.foldl (fun e (u : Nat × Word) => e.setW u.1 u.2) e) =
    { e with wacc := v.foldl (fun w u => w.set u.1 u.2) e.wacc } := by
  induction v generalizing e with
  | nil => rfl
  | cons a v ih => rw [List.foldl_cons, ih]; rfl

/-- Each lane of a list of lanes holds its word, every other lane what it held. -/
theorem getD_foldl_set (l : List Nat) (g : Nat → Word) (w : List Word) (hl : ∀ j ∈ l, j < w.length) (i : Nat) :
    ((l.map fun j => (j, g j)).foldl (fun (w : List Word) u => w.set u.1 u.2) w).getD i 0 = if i ∈ l then g i else w.getD i 0 := by
  induction l generalizing w with
  | nil => simp
  | cons j l ih =>
    rw [List.map_cons, List.foldl_cons, ih _ (fun k hk => by rw [List.length_set]; exact hl k (List.mem_cons_of_mem _ hk))]
    have hj := hl j (List.mem_cons_self ..)
    by_cases h1 : i ∈ l
    · simp [h1]
    · by_cases h2 : i = j
      · subst h2; simp [hj, h1]
      · simp [h1, h2, Ne.symm h2]

/-- The engine after each lane of `v` has taken its word. -/
def Eng.loaded (v : List (Nat × Word)) (e : Eng) : Eng := v.foldl (fun e (u : Nat × Word) => e.setW u.1 u.2) e

theorem Eng.loaded_eq (v : List (Nat × Word)) (e : Eng) : e.loaded v = { e with wacc := v.foldl (fun w u => w.set u.1 u.2) e.wacc } := foldl_setW v e

theorem Eng.loaded_computes (v : List (Nat × Word)) : Eng.Computes (Eng.loaded v) := fun e => by rw [Eng.loaded_eq]

/-- After paging, loading the operand words to WACC is a word instruction that takes the operand. -/
theorem wordResult_loaded {s p : State} {o : EngOp} (h3 : o.spire < 3) (hl : (s.eng o.spire).wacc.length = 8)
    (hp : Paged { s with out := [] } p o.spire) :
    WordResult s (settle ((p.updEng o.spire (Eng.loaded ((lanesOf (s.eng o.spire).en).map fun j => (j, opWord s o j)))).clocks o.spire 1)) o
      (fun c _ v => (c, v)) := by
  refine ⟨⟨fun j _ => ?_, fun j hj => ?_, ?_, ?_⟩, hp.engineOnly h3 (Eng.loaded_computes _) 1⟩
  all_goals rw [State.eng_passed _ _ h3, State.eng_updEng _ _ h3, Eng.loaded_eq, hp.eng_eq]
  · exact (ite_self _).symm
  · show (List.foldl _ (s.eng o.spire).wacc _).getD j 0 = _
    rw [getD_foldl_set _ _ _ (fun k hk => by rw [hl]; exact ((mem_lanesOf _ k).mp hk).1)]
    simp only [mem_lanesOf, hj, true_and]
    rfl
  · rfl
  · rfl

/-- IN loads the 32 input bits from the lane's address up, as every load reads them. -/
theorem inI_completes {s : State} {o : EngOp} (h : EngineReady s o) (hm : o.md = 0) (hl : (s.eng o.spire).wacc.length = 8) (hs : o.sp = 2)
    (ha : Addressable s o true (s.eng o.spire).en) :
    Completes (.inI o) s fun t => WordResult s t o (fun c _ v => (c, v)) := by
  refine h.completes (c := ⟨[2], 0⟩) (by simp [hs]) (by simp [hm]) ha rfl fun p hp => ?_
  have hword : ∀ j a, p.wordVal o.spire 2 j a = s.wordVal o.spire o.sp j a := by rw [hs]; exact hp.wordVal h.1 2
  simp only [List.map_map, hword]
  exact wordResult_loaded h.1 hl hp

/-- What a lane's WACC holds after a load from I, bit by bit. -/
theorem WordResult.input_bits {s t : State} {o : EngOp} (h : WordResult s t o (fun c _ v => (c, v))) (hs : o.sp = 2) {j : Nat}
    (hj : j ∈ lanesOf (s.eng o.spire).en) {i : Nat} (hi : i < 32) :
    ((t.eng o.spire).w j).getLsbD i = s.loadBit o.spire 2 (addrOf s o true j + i) := by
  obtain ⟨hj8, hen⟩ := (mem_lanesOf _ j).mp hj
  obtain ⟨⟨-, hw, -⟩, -⟩ := h
  rw [hw j hj8, if_pos hen, opWord, hs]
  exact wordOf_getLsbD _ _ hi

/-! ### Words of Q -/

/-- Writing a word of Q leaves every other memory. -/
theorem putQWord_mem (m : SMem) (a : Nat) (v : Word) : m.putQWord a v = { m with q := (m.putQWord a v).q } := by
  unfold SMem.putQWord
  generalize List.range 32 = l
  induction l generalizing m with
  | nil => rfl
  | cons i l ih => rw [List.foldl_cons, ih]

/-- A bit of a word of Q reads as written. -/
theorem putQWord_in (m : SMem) (a : Nat) (v : Word) {i : Nat} (hi : i < 32) :
    Sparse.get (fun _ => false) (m.putQWord a v).q (a + i) = v.getLsbD i :=
  foldl_last (fun m : SMem => Sparse.get (fun _ => false) m.q (a + i)) _ List.pairwise_lt_range (List.mem_range.mpr hi)
    (fun _ => Sparse.get_set_self _ _ _ _) (fun _ _ h _ => Sparse.get_set_other _ _ _ _ _ (by omega)) m

/-- A bit outside the word reads as before. -/
theorem putQWord_out (m : SMem) (a : Nat) (v : Word) {k : Nat} (hk : ¬ (a ≤ k ∧ k < a + 32)) :
    Sparse.get (fun _ => false) (m.putQWord a v).q k = Sparse.get (fun _ => false) m.q k :=
  foldl_keeps (fun m : SMem => Sparse.get (fun _ => false) m.q k) _ _
    (fun i hi _ => Sparse.get_set_other _ _ _ _ _ (by have := List.mem_range.mp hi; omega)) m

/-- The word views of Q start at multiples of 32 (R81). -/
theorem addrOf_q_aligned {s : State} {o : EngOp} (hs : o.sp = 3) (j : Nat) : addrOf s o true j % 32 = 0 := by
  unfold addrOf
  rw [hs]
  show ((effAddr _ o.idx 262144).filter (fun a => a % 32 == 0)).getD 0 % 32 = 0
  cases hf : (effAddr (s.lane o.spire j).q o.idx 262144).filter (fun a => a % 32 == 0) with
  | none => rfl
  | some a => simpa using (Option.filter_eq_some_iff.mp hf).2

/-- The memory after each lane of a mask has put its WACC to Q. -/
def SMem.putQLanes (mem : SMem) (s : State) (o : EngOp) (m : BitVec 8) : SMem :=
  (lanesOf m).foldl (fun mem j => mem.putQWord (addrOf s o true j) ((s.eng o.spire).w j)) mem

theorem putQLanes_mem (mem : SMem) (s : State) (o : EngOp) (m : BitVec 8) : mem.putQLanes s o m = { mem with q := (mem.putQLanes s o m).q } := by
  unfold SMem.putQLanes
  generalize lanesOf m = l
  induction l generalizing mem with
  | nil => rfl
  | cons j l ih => rw [List.foldl_cons, ih, putQWord_mem]

/-- Where lanes address one word the highest lane's stands (R78): words of Q never overlap otherwise. -/
theorem putQLanes_in {s : State} {o : EngOp} (hs : o.sp = 3) (mem : SMem) (m : BitVec 8) {j : Nat} (hj : j ∈ lanesOf m)
    (hlast : ∀ i ∈ lanesOf m, j < i → addrOf s o true i ≠ addrOf s o true j) {i : Nat} (hi : i < 32) :
    Sparse.get (fun _ => false) (mem.putQLanes s o m).q (addrOf s o true j + i) = ((s.eng o.spire).w j).getLsbD i := by
  refine foldl_last (fun m : SMem => Sparse.get (fun _ => false) m.q (addrOf s o true j + i)) _ (lanesOf_rising m) hj
    (fun _ => putQWord_in _ _ _ hi) (fun k hk hlt _ => putQWord_out _ _ _ ?_) mem
  have hne := hlast k hk hlt
  have hj32 := addrOf_q_aligned (s := s) hs j
  have hk32 := addrOf_q_aligned (s := s) hs k
  omega

theorem putQLanes_out {s : State} {o : EngOp} (mem : SMem) (m : BitVec 8) {k : Nat}
    (hk : ∀ j ∈ lanesOf m, ¬ (addrOf s o true j ≤ k ∧ k < addrOf s o true j + 32)) :
    Sparse.get (fun _ => false) (mem.putQLanes s o m).q k = Sparse.get (fun _ => false) mem.q k :=
  foldl_keeps (fun m : SMem => Sparse.get (fun _ => false) m.q k) _ _ (fun j hj _ => putQWord_out _ _ _ (hk j hj)) mem

/-- OUT leaves the memory with the WACC of its lanes in Q, and nothing but a store changes. -/
def OutResult (s t : State) (o : EngOp) : Prop :=
  (t.spire o.spire).mem = (s.spire o.spire).mem.putQLanes s o ((s.eng o.spire).en &&& (s.eng o.spire).acc) ∧
  (t.eng o.spire).acc = (s.eng o.spire).acc ∧ (t.eng o.spire).wacc = (s.eng o.spire).wacc ∧ (t.eng o.spire).stack = (s.eng o.spire).stack ∧
  (t.eng o.spire).freshEdges = (s.eng o.spire).freshEdges ∧ StoreOnly s t o.spire 1 []

/-- After paging, putting the lanes' WACC to Q and sending any records is what R97 says of OUT. -/
theorem outResult_put {s p : State} {o : EngOp} (h3 : o.spire < 3) (hp : Paged { s with out := [] } p o.spire) (recs : List WRec) :
    OutResult s (settle (((p.updMem o.spire
      (fun mem => mem.putQLanes s o ((s.eng o.spire).en &&& (s.eng o.spire).acc))).push o.spire recs).clocks o.spire 1)) o := by
  have hmem : (p.spire o.spire).mem = (s.spire o.spire).mem := hp.mem
  have heng : ∀ f, ((p.updMem o.spire f).push o.spire recs).eng o.spire = p.eng o.spire := fun f => by
    rw [State.push_eng, State.eng_updMem _ _ h3]
  refine ⟨?_, ?_, ?_, ?_, ?_, (((hp.stored.updMem _ h3).push recs h3).finish h3 hp (f := id) (fun _ => rfl) (heng _) 1).1⟩
  · rw [State.mem_passed _ _ h3, State.push_spire, State.mem_updMem _ _ h3, hmem]
  all_goals rw [State.eng_passed _ _ h3, heng, hp.eng_eq]; rfl

/-- OUT puts the WACC that the state before shows. -/
theorem outI_completes {s : State} {o : EngOp} (h : EngineReady s o) (hm : o.md = 0) (hs : o.sp = 3)
    (ha : Addressable s o true ((s.eng o.spire).en &&& (s.eng o.spire).acc)) : Completes (.outI o) s fun t => OutResult s t o := by
  refine h.completes (c := ⟨[3], 0⟩) (by simp [hs]) (by simp [hm]) ha rfl fun p hp => ?_
  have hw : (p.eng o.spire).w = (s.eng o.spire).w := hp.engf Eng.w (fun _ => rfl)
  simp only [hw, List.foldl_map]
  exact outResult_put h.1 hp _

/-- Settles O15: a load of the 32 bits from the lane's address, and a store of aligned words by rising lanes. -/
theorem inputAndOutputMoveWords : Obligations.InputAndOutputMoveWords := by
  intro s o h hm hl x e a
  refine ⟨fun hs ha => ?_, fun hs ha => ?_⟩
  · obtain ⟨t, ht, hr⟩ := inI_completes h hm hl hs ha
    exact ⟨t, ht, hr, fun j hj i hi => hr.input_bits hs hj hi⟩
  · obtain ⟨t, ht, hmem, hacc, hwacc, hstack, hfresh, honly⟩ := outI_completes h hm hs ha
    refine ⟨t, ht, ?_, ?_, ?_, hacc, hwacc, hstack, hfresh, honly⟩ <;> rw [hmem]
    · exact fun j hj hlast i hi => putQLanes_in hs _ _ hj hlast hi
    · exact fun k hk => putQLanes_out _ _ hk
    · exact putQLanes_mem ..

end Sys2Proof.Machine
end
